-- ==== Sys2Proof/Word.lean ====
section
/-! DEFINITION. The word types of the LA-216 and their plainest arithmetic. -/

namespace Sys2Proof

/-- One byte of a frame, a stream or the SDRAM. -/
abbrev Byte := BitVec 8

/-- One halfword of the SDRAM (R87); also a 16-bit field of a frame, a colour, and a *state*: the level
of all sixteen channels at one tick, channel `k` being bit `k` (00_scope.md, Channels and states). -/
abbrev Half := BitVec 16

/-- One record word of the SDRAM (R213). -/
abbrev Word := BitVec 32

/-- A request's tag, any 16-bit value (R193, R214). -/
abbrev Tag := BitVec 16

/-- Saturating increment: counts that rise by 1 up to a limit. -/
def satSucc (limit n : Nat) : Nat := if n < limit then n + 1 else limit

/-- Clamp into `[lo, hi]`. -/
def clampNat (lo hi n : Nat) : Nat := if n < lo then lo else if hi < n then hi else n

/-- `n` bytes of `v`, least significant first (R212). -/
def leBytes : Nat → Nat → List Byte
  | 0, _ => []
  | n + 1, v => BitVec.ofNat 8 v :: leBytes n (v / 256)

/-- The number a list of bytes spells, least significant first (R212). -/
def leNat : List Byte → Nat
  | [] => 0
  | b :: bs => b.toNat + 256 * leNat bs

end Sys2Proof
end

