-- ==== Sys2Proof/Config.lean ====
section
/-! DEFINITION. What the part fixes once (the sizes and limits the rules give), what the manual leaves
to the implementation (the glyph shapes), and the FREE VALUES: constants with no body, applied to a plain
counter of State, that stand for values the manual does not fix. Nothing can be proved about their values. -/

namespace Sys2Proof.Config

/-- Staging queue: 1024 places (R24). -/
def stagingDepth : Nat := 1024
/-- An event is accepted when the level plus its size is at most this (R24). -/
def stagingAccept : Nat := 1022
/-- A loss interval closes at this level or below (R27). -/
def lossCloseLevel : Nat := 512
/-- The capture writer is urgent at this level or above (R29, R99). -/
def urgentLevel : Nat := 256
/-- Decoder tap: 256 entries (R33). -/
def tapDepth : Nat := 256
/-- A tap gap closes at this level or below (R37). -/
def tapCloseLevel : Nat := 128
/-- Records in a block (R61, R62). -/
def blockRecords : Nat := 16384
/-- Segment entries (R63). -/
def segmentCount : Nat := 16
/-- The reserve of free record places kept after the trigger (R71). -/
def reservePlaces : Nat := 1032
/-- The largest delta of a TRANSITION or a MARK (R17). -/
def maxDelta : Nat := 16383
/-- The largest delta of an EXTEND, 2^30 - 1 (R17). -/
def maxExtend : Nat := 1073741823
/-- The tick at which a sampling segment stops (R13), 2^47. -/
def tickLimit : Nat := 140737488355328
/-- Ticks are 48 bits wide (00_scope.md, Time), 2^48. -/
def tickSpan : Nat := 281474976710656
/-- Entries of the annotation store, which the quotas of the non-FREE slots share (R106, R134). -/
def noteCount : Nat := 8192
/-- Pixels of the overlay data queue (R183). -/
def overlayPixels : Nat := 2048

/-- FREE VALUE. The word the part writes into the `n`-th place of a group that no record fills yet:
R29 says such places 'are written without meaning'. -/
opaque meaninglessWord : Nat → BitVec 32

/-- FREE VALUE. How many steps of its sequence a burst in flight, or the close of a bank, has come on since the
command before (R91, R92, R97): the model has no clock below the events of the table. -/
opaque progress : Nat → Nat

/-- FREE VALUE. How many entries of an annotation list the renderer has examined since the list last changed: R164
says only that it walks the list during CLASSIFY. -/
opaque examined : Nat → Nat

/-- FREE VALUE. How far a start sequence has come, in init commands, when it is abandoned (R173). -/
opaque initSent : Nat → Nat

/-- FREE VALUE. The start tick of the GAP annotation of a live slot that meets a flagged tap entry
before it has consumed any entry (R117 measures the start from the last entry consumed). -/
opaque gapStart : Nat → Nat

/-- FREE VALUE. The part of the running 250 ms sample period that has passed when the remaining grace is
reported (R211); only the sample events are in the table. -/
opaque graceElapsed : Nat → Nat

/-- IMPLEMENTATION CONSTANT. `glyph digit line column`: whether a pixel of the built-in 5 × 7 hexadecimal
glyphs is drawn (R165 names the glyphs and does not give their shapes). -/
opaque glyph : Nat → Nat → Nat → Bool

end Sys2Proof.Config
end

