-- ==== Sys2Proof/Syntax.lean ====
section
/-! DEFINITION. The commands of the LA-216, one constructor of `Instr` per row of the table: the requests
of the two ports with the fields their rules name, then the events at the part's pins, buses, clocks and
blocks with what those bring. -/

namespace Sys2Proof

/-- The two request ports (00_scope.md, The two request ports). -/
inductive Port where
  | console | tether
  deriving DecidableEq, Repr

/-- The edge kinds of the watch (R14) and of a strobed slot (R127). -/
inductive EdgeKind where
  | rise | fall | either
  deriving DecidableEq, Repr

/-- A choice of two named values as a request carries it: the first listed (on, yes), the second (off, no), or the one
choice byte past them that a frame may hold (R214, R218), which the request's own rule refuses (log 57). -/
inductive Switch where
  | on | off | unknown
  deriving DecidableEq, Repr

/-- A PATTERN stage's condition on one channel (R39, R44). `unknown` is a choice byte that names none; R39 refuses
it. -/
inductive ChanCond where
  | ignore | low | high | rise | fall | edge | unknown
  deriving DecidableEq, Repr

/-- A PATTERN stage's qualifier (R39, R45, R46). `unknown` is a choice byte that names none; R39 refuses it. -/
inductive Qualifier where
  | none
  | heldAtLeast (n : Nat)
  | heldLessThan (n : Nat)
  | unknown (n : Nat)
  deriving DecidableEq, Repr

/-- A stage's condition (R39): sixteen channel conditions, or the test of an annotation (R47). -/
inductive StageCond where
  | pattern (chans : List ChanCond)
  | decoder (slot kind value mask : Nat)
  deriving DecidableEq, Repr

/-- Where a stage leads: a stage, or the trigger (R48, R49). Stage 5 is what a choice byte past FINAL spells; R39
refuses it. -/
inductive Target where
  | stage (k : Nat)
  | final
  deriving DecidableEq, Repr

/-- One entry of the stage table (R38, R39). -/
structure Stage where
  cond : StageCond
  qualifier : Qualifier
  count : Nat
  next : Target
  timeoutTarget : Target
  timeout : Nat
  deriving DecidableEq, Repr

/-- A complete set of arm parameters (R38, R39). -/
structure ArmParams where
  wPre : Nat
  bPre : Nat
  pPost : Nat
  reclaim : Switch
  sequence : Nat
  stages : List Stage
  deriving DecidableEq, Repr

/-- UART parity (R119). -/
inductive Parity where
  | none | even | odd
  deriving DecidableEq, Repr

/-- The assignment and parameters of a UART slot (R119). -/
structure UartCfg where
  rx : Nat
  idleHigh : Bool
  dataBits : Nat
  parity : Parity
  stopBits : Nat
  baud : Nat
  deriving DecidableEq, Repr

/-- The assignment and parameters of an SPI slot (R122). -/
structure SpiCfg where
  clock : Nat
  select : Option Nat
  selectHigh : Bool
  mosi : Nat
  miso : Option Nat
  idleHigh : Bool
  leading : Bool
  wordLength : Nat
  msbFirst : Bool
  gapTimeout : Nat
  deriving DecidableEq, Repr

/-- The assignment of an I2C slot (R125). -/
structure I2cCfg where
  scl : Nat
  sda : Nat
  deriving DecidableEq, Repr

/-- The assignment and edge kind of a strobed slot (R127). -/
structure StrobeCfg where
  data : List Nat
  strobe : Nat
  edge : EdgeKind
  deriving DecidableEq, Repr

/-- A protocol with its parameters and channels (R106). `unknown` is one whose fields hold a choice byte that names
none of its rule's values, with the protocol's code; R106 refuses it. -/
inductive Protocol where
  | uart (c : UartCfg)
  | spi (c : SpiCfg)
  | i2c (c : I2cCfg)
  | strobed (c : StrobeCfg)
  | unknown (code : Nat)
  deriving DecidableEq, Repr

/-- A decoder source (R106). -/
inductive Source where
  | offline (seg fromTick toTick : Nat)
  | live
  deriving DecidableEq, Repr

/-- The segment of a view (R148). -/
inductive ViewSeg where
  | number (n : Nat)
  | follow
  deriving DecidableEq, Repr

/-- One row as SET_LAYOUT carries it (R149): kind 0 CHANNEL, 1 ANNOTATION, 2 BLANK, any other unknown. -/
structure RowReq where
  kind : Nat
  subject : Nat
  height : Nat
  colour : Nat
  deriving DecidableEq, Repr

/-- An entry of the panel's init list (R171). -/
inductive InitEntry where
  | command (code : Byte) (params : List Byte)
  | delay (ms : Nat)
  deriving DecidableEq, Repr

/-- A panel setup record as PANEL_SETUP carries it (R171). `tePolarity`: 0 RISING, 1 FALLING, any other
unknown. -/
structure PanelSetup where
  width : Nat
  colWindow : Byte
  rowWindow : Byte
  memWrite : Byte
  sleepIn : Byte
  sleepOut : Byte
  displayOn : Byte
  displayOff : Byte
  wakeDelay : Nat
  teUsed : Switch
  tePolarity : Nat
  init : List InitEntry
  deriving DecidableEq, Repr

/-- The five selectors of STATUS (R193). `unknown` is a choice byte that names none (log 57). -/
inductive StatusSel where
  | acquisition | store | decoders | render | port | unknown
  deriving DecidableEq, Repr

/-- The two streams the compressor forms records for (R18, R19). -/
inductive RecStream where
  | staging | tap
  deriving DecidableEq, Repr

/-- The request set (R193), each with the fields its rule names. -/
inductive Request where
  | setPods (t0 t1 : Option Int)
  | setClock (d : Nat) (mask : Half)
  | setWatch (w : Option (Nat × Nat))
  | loadTrigger (a : ArmParams)
  | arm
  | force
  | halt
  | setStoreLow (n : Nat)
  | drop (seg : Nat)
  | keep (seg : Nat)
  | unkeep (seg : Nat)
  | readRecords (seg fromTick toTick : Nat)
  | decStart (slot : Nat) (proto : Protocol) (src : Source) (quota level : Nat)
  | decStop (slot : Nat)
  | decClear (slot : Nat)
  | queueTake (slot n : Nat)
  | queuePeek (slot : Nat)
  | readNotes (slot seg fromTick toTick max : Nat)
  | measure (seg a b : Nat) (mask : Half)
  | measureResult
  | setView (seg : ViewSeg) (t0 scale : Nat) (follow : Bool)
  | setLayout (rows : List RowReq)
  | setPalette (colours : List Half)
  | setCursors (a b : Option Nat)
  | setLiveDivider (n : Nat)
  | panelSetup (r : PanelSetup)
  | panelOn
  | panelOff
  | panelSleep
  | panelWake
  | overlaySet (id x y w h : Nat)
  | overlayClear (id : Nat)
  | overlayPixels (id offset : Nat) (pixels : List Half)
  | panelStatus
  | claim (take : Bool)
  | release
  | portReset
  | readNext
  | streamCancel
  | alertLevels (pairs : List (Nat × Nat))
  | alertFetch
  | identify
  | nop
  | status (sel : StatusSel)
  | doze (secs : Nat)
  | wakeCausesClear
  | setBattery (low cutoff : Nat)
  | resetPart
  | powerStatus
  deriving DecidableEq, Repr

/-- The commands of the part: one constructor per row of spec/opcode_table.json.
A request row is that request, received at port `p` with tag `tag`, and taken (R193).
An event row carries what the world brings with it: bytes clocked in, input voltages in mV (`inputs`, one
per channel), a reading of the battery-sense input in mV (`batt`, used only when the event begins a wake,
R208), a time of the always-on crystal clock in µs (`now`). -/
inductive Instr where
  | setPods (p : Port) (tag : Tag) (t0 t1 : Option Int)
  | setClock (p : Port) (tag : Tag) (d : Nat) (mask : Half)
  | setWatch (p : Port) (tag : Tag) (w : Option (Nat × Nat))
  | loadTrigger (p : Port) (tag : Tag) (a : ArmParams)
  | arm (p : Port) (tag : Tag)
  | force (p : Port) (tag : Tag)
  | halt (p : Port) (tag : Tag)
  | setStoreLow (p : Port) (tag : Tag) (n : Nat)
  | drop (p : Port) (tag : Tag) (seg : Nat)
  | keep (p : Port) (tag : Tag) (seg : Nat)
  | unkeep (p : Port) (tag : Tag) (seg : Nat)
  | readRecords (p : Port) (tag : Tag) (seg fromTick toTick : Nat)
  | decStart (p : Port) (tag : Tag) (slot : Nat) (proto : Protocol) (src : Source) (quota level : Nat)
  | decStop (p : Port) (tag : Tag) (slot : Nat)
  | decClear (p : Port) (tag : Tag) (slot : Nat)
  | queueTake (p : Port) (tag : Tag) (slot n : Nat)
  | queuePeek (p : Port) (tag : Tag) (slot : Nat)
  | readNotes (p : Port) (tag : Tag) (slot seg fromTick toTick max : Nat)
  | measure (p : Port) (tag : Tag) (seg a b : Nat) (mask : Half)
  | measureResult (p : Port) (tag : Tag)
  | setView (p : Port) (tag : Tag) (seg : ViewSeg) (t0 scale : Nat) (follow : Bool)
  | setLayout (p : Port) (tag : Tag) (rows : List RowReq)
  | setPalette (p : Port) (tag : Tag) (colours : List Half)
  | setCursors (p : Port) (tag : Tag) (a b : Option Nat)
  | setLiveDivider (p : Port) (tag : Tag) (n : Nat)
  | panelSetup (p : Port) (tag : Tag) (r : PanelSetup)
  | panelOn (p : Port) (tag : Tag)
  | panelOff (p : Port) (tag : Tag)
  | panelSleep (p : Port) (tag : Tag)
  | panelWake (p : Port) (tag : Tag)
  | overlaySet (p : Port) (tag : Tag) (id x y w h : Nat)
  | overlayClear (p : Port) (tag : Tag) (id : Nat)
  | overlayPixels (p : Port) (tag : Tag) (id offset : Nat) (pixels : List Half)
  | panelStatus (p : Port) (tag : Tag)
  | claim (p : Port) (tag : Tag) (take : Bool)
  | release (p : Port) (tag : Tag)
  | portReset (p : Port) (tag : Tag)
  | readNext (p : Port) (tag : Tag)
  | streamCancel (p : Port) (tag : Tag)
  | alertLevels (p : Port) (tag : Tag) (pairs : List (Nat × Nat))
  | alertFetch (p : Port) (tag : Tag)
  | identify (p : Port) (tag : Tag)
  | nop (p : Port) (tag : Tag)
  | statusAcquisition (p : Port) (tag : Tag)
  | statusStore (p : Port) (tag : Tag)
  | statusDecoders (p : Port) (tag : Tag)
  | statusRender (p : Port) (tag : Tag)
  | statusPort (p : Port) (tag : Tag)
  | doze (p : Port) (tag : Tag) (secs : Nat)
  | wakeCausesClear (p : Port) (tag : Tag)
  | setBattery (p : Port) (tag : Tag) (low cutoff : Nat)
  | resetPart (p : Port) (tag : Tag)
  | powerStatus (p : Port) (tag : Tag)
  | consoleTransaction (frame : List Byte) (batt : Nat)
  | shortTransaction (frame : List Byte) (batt : Nat)
  | tetherRequestTransfer (frame : List Byte)
  | tetherReplyAck
  | streamPacketAck
  | usbConfigure
  | usbSuspend
  | usbResume (batt : Nat)
  | usbBusReset (batt : Nat)
  | vbusLoss
  | vbusPresent
  | remoteWakeAllow
  | remoteWakeForbid
  | senseLineChange (pod : Fin 2) (attached : Bool) (now : Nat)
  | debounceExpiry (pod : Fin 2) (now : Nat)
  | sampleTick (inputs : List Int)
  | idleExtend (stream : RecStream)
  | primingEnd
  | stageTimeout
  | postfillEnd
  | timeLimit
  | lossClose
  | endLossClose
  | tapGapClose
  | writerBurstEnd
  | readBurstEnd
  | refreshDue
  | refreshEnd
  | tapEntryConsume (slot : Fin 4)
  | classifyEnd
  | teEvent (rising : Bool)
  | liveTimerExpiry
  | teMissingTimeout
  | bandWritten
  | overlayChunkEnd
  | overlayChangeApply
  | initDelayEnd
  | panelStartDone
  | offSequenceEnd
  | sleepInEnd
  | wakeDelayEnd
  | powerOn
  | resetPin
  | pllLock
  | initWaitEnd
  | sdramInitDone (inputs : List Int) (batt : Nat)
  | selfRefreshEntered (batt : Nat)
  | selfRefreshExited (inputs : List Int) (now : Nat)
  | watchEdge (inputs : List Int) (batt : Nat)
  | wakeTimerExpiry (batt : Nat)
  | chargerSenseChange (present : Bool) (batt : Nat)
  | batterySample (batt : Nat)
  | graceExpiry
  | chipSelectAssertion (batt : Nat)
  | resetRelease (now : Nat)
  deriving DecidableEq, Repr

end Sys2Proof
end

