-- ==== Sys2Proof/WellFormed.lean ====
section
/-! DEFINITION. Which commands a port or the world can send: every request field fits the bytes that carry it
(R214), lists have the counts their form gives them, event operands have the sizes the pins give. A field that
fits but lies outside its rule's range is well formed, and so is a choice byte equal to the number of its rule's
values: the rule answers it (R218). -/

namespace Sys2Proof

/-- `v` fits `n` bytes. -/
def fits (n v : Nat) : Bool := v < 256 ^ n

def fitsOpt (n : Nat) : Option Nat → Bool
  | none => true
  | some v => fits n v

/-- A threshold in mV travels in two's complement in two bytes (R214). -/
def fitsSigned : Option Int → Bool
  | none => true
  | some v => -32768 ≤ v && v ≤ 32767

def Qualifier.wf : Qualifier → Bool
  | .none => true
  | .heldAtLeast n => fits 2 n
  | .heldLessThan n => fits 2 n
  | .unknown n => fits 2 n

def Target.wf : Target → Bool
  | .stage k => k < 4 || k = 5
  | .final => true

def StageCond.wf : StageCond → Bool
  | .pattern cs => cs.length = 16
  | .decoder s k v m => fits 1 s && fits 1 k && fits 2 v && fits 2 m

def Stage.wf (g : Stage) : Bool :=
  g.cond.wf && g.qualifier.wf && fits 2 g.count && g.next.wf && g.timeoutTarget.wf && fits 4 g.timeout

def ArmParams.wf (a : ArmParams) : Bool :=
  fits 6 a.wPre && fits 2 a.bPre && fits 6 a.pPost && fits 1 a.sequence && a.stages.length = 4 && a.stages.all Stage.wf

def Protocol.wf : Protocol → Bool
  | .uart c => fits 1 c.rx && fits 1 c.dataBits && fits 1 c.stopBits && fits 4 c.baud
  | .spi c => fits 1 c.clock && fitsOpt 1 c.select && fits 1 c.mosi && fitsOpt 1 c.miso && fits 1 c.wordLength &&
      fits 4 c.gapTimeout
  | .i2c c => fits 1 c.scl && fits 1 c.sda
  | .strobed c => fits 1 c.data.length && c.data.all (fits 1) && fits 1 c.strobe
  | .unknown _ => false

def Source.wf : Source → Bool
  | .offline s f t => fits 1 s && fits 6 f && fits 6 t
  | .live => true

def ViewSeg.wf : ViewSeg → Bool
  | .number n => fits 1 n
  | .follow => true

def RowReq.wf (r : RowReq) : Bool := r.kind < 4 && fits 1 r.subject && fits 1 r.height && fits 1 r.colour

def InitEntry.wf : InitEntry → Bool
  | .command _ ps => fits 1 ps.length
  | .delay ms => fits 1 ms

def PanelSetup.wf (r : PanelSetup) : Bool :=
  fits 1 r.width && fits 1 r.wakeDelay && r.tePolarity < 3 && fits 1 r.init.length && r.init.all InitEntry.wf

/-- A request a frame can carry. -/
def Request.wf : Request → Bool
  | .setPods a b => fitsSigned a && fitsSigned b
  | .setClock d _ => fits 4 d
  | .setWatch none => true
  | .setWatch (some (c, e)) => fits 1 c && e < 4
  | .loadTrigger a => a.wf
  | .setStoreLow n => fits 2 n
  | .drop s | .keep s | .unkeep s | .decStop s | .decClear s | .queuePeek s | .setLiveDivider s | .overlayClear s =>
      fits 1 s
  | .readRecords s f t => fits 1 s && fits 6 f && fits 6 t
  | .decStart slot p s q t => fits 1 slot && p.wf && s.wf && fits 2 q && fits 1 t
  | .queueTake s n => fits 1 s && fits 1 n
  | .readNotes slot s f t m => fits 1 slot && fits 1 s && fits 6 f && fits 6 t && fits 2 m
  | .measure s a b _ => fits 1 s && fits 6 a && fits 6 b
  | .setView s t sc _ => s.wf && fits 6 t && fits 8 sc
  | .setLayout rows => fits 1 rows.length && rows.all RowReq.wf
  | .setPalette cs => cs.length = 8
  | .setCursors a b => fitsOpt 6 a && fitsOpt 6 b
  | .panelSetup r => r.wf
  | .overlaySet id x y w h => fits 1 id && fits 2 x && fits 1 y && fits 2 w && fits 1 h
  | .overlayPixels id o px => fits 1 id && fits 4 o && fits 1 px.length
  | .alertLevels ps => fits 1 ps.length && ps.all fun p => fits 1 p.1 && p.2 < 4
  | .doze n => fits 2 n
  | .setBattery a b => fits 2 a && fits 2 b
  | .arm | .force | .halt | .measureResult | .panelOn | .panelOff | .panelSleep | .panelWake | .panelStatus
  | .claim _ | .release | .portReset | .readNext | .streamCancel | .alertFetch | .identify | .nop | .status _
  | .wakeCausesClear | .resetPart | .powerStatus => true

/-- The request a request row stands for, with its port and tag; events stand for none. -/
def Instr.request? : Instr → Option (Port × Tag × Request)
  | .setPods p g a b => some (p, g, .setPods a b)
  | .setClock p g d m => some (p, g, .setClock d m)
  | .setWatch p g w => some (p, g, .setWatch w)
  | .loadTrigger p g a => some (p, g, .loadTrigger a)
  | .arm p g => some (p, g, .arm)
  | .force p g => some (p, g, .force)
  | .halt p g => some (p, g, .halt)
  | .setStoreLow p g n => some (p, g, .setStoreLow n)
  | .drop p g s => some (p, g, .drop s)
  | .keep p g s => some (p, g, .keep s)
  | .unkeep p g s => some (p, g, .unkeep s)
  | .readRecords p g s f t => some (p, g, .readRecords s f t)
  | .decStart p g slot pr src q t => some (p, g, .decStart slot pr src q t)
  | .decStop p g s => some (p, g, .decStop s)
  | .decClear p g s => some (p, g, .decClear s)
  | .queueTake p g s n => some (p, g, .queueTake s n)
  | .queuePeek p g s => some (p, g, .queuePeek s)
  | .readNotes p g slot s f t m => some (p, g, .readNotes slot s f t m)
  | .measure p g s a b m => some (p, g, .measure s a b m)
  | .measureResult p g => some (p, g, .measureResult)
  | .setView p g s t sc f => some (p, g, .setView s t sc f)
  | .setLayout p g rows => some (p, g, .setLayout rows)
  | .setPalette p g cs => some (p, g, .setPalette cs)
  | .setCursors p g a b => some (p, g, .setCursors a b)
  | .setLiveDivider p g n => some (p, g, .setLiveDivider n)
  | .panelSetup p g r => some (p, g, .panelSetup r)
  | .panelOn p g => some (p, g, .panelOn)
  | .panelOff p g => some (p, g, .panelOff)
  | .panelSleep p g => some (p, g, .panelSleep)
  | .panelWake p g => some (p, g, .panelWake)
  | .overlaySet p g id x y w h => some (p, g, .overlaySet id x y w h)
  | .overlayClear p g id => some (p, g, .overlayClear id)
  | .overlayPixels p g id o px => some (p, g, .overlayPixels id o px)
  | .panelStatus p g => some (p, g, .panelStatus)
  | .claim p g t => some (p, g, .claim t)
  | .release p g => some (p, g, .release)
  | .portReset p g => some (p, g, .portReset)
  | .readNext p g => some (p, g, .readNext)
  | .streamCancel p g => some (p, g, .streamCancel)
  | .alertLevels p g ps => some (p, g, .alertLevels ps)
  | .alertFetch p g => some (p, g, .alertFetch)
  | .identify p g => some (p, g, .identify)
  | .nop p g => some (p, g, .nop)
  | .statusAcquisition p g => some (p, g, .status .acquisition)
  | .statusStore p g => some (p, g, .status .store)
  | .statusDecoders p g => some (p, g, .status .decoders)
  | .statusRender p g => some (p, g, .status .render)
  | .statusPort p g => some (p, g, .status .port)
  | .doze p g n => some (p, g, .doze n)
  | .wakeCausesClear p g => some (p, g, .wakeCausesClear)
  | .setBattery p g a b => some (p, g, .setBattery a b)
  | .resetPart p g => some (p, g, .resetPart)
  | .powerStatus p g => some (p, g, .powerStatus)
  | .consoleTransaction _ _ | .shortTransaction _ _ | .tetherRequestTransfer _ | .tetherReplyAck | .streamPacketAck
  | .usbConfigure | .usbSuspend | .usbResume _ | .usbBusReset _ | .vbusLoss | .vbusPresent | .remoteWakeAllow
  | .remoteWakeForbid | .senseLineChange _ _ _ | .debounceExpiry _ _ | .sampleTick _ | .idleExtend _ | .primingEnd
  | .stageTimeout | .postfillEnd | .timeLimit | .lossClose | .endLossClose | .tapGapClose | .writerBurstEnd
  | .readBurstEnd | .refreshDue | .refreshEnd | .tapEntryConsume _ | .classifyEnd | .teEvent _ | .liveTimerExpiry
  | .teMissingTimeout | .bandWritten | .overlayChunkEnd | .overlayChangeApply | .initDelayEnd | .panelStartDone
  | .offSequenceEnd | .sleepInEnd | .wakeDelayEnd | .powerOn | .resetPin | .pllLock | .initWaitEnd
  | .sdramInitDone _ _ | .selfRefreshEntered _ | .selfRefreshExited _ _ | .watchEdge _ _ | .wakeTimerExpiry _
  | .chargerSenseChange _ _ | .batterySample _ | .graceExpiry | .chipSelectAssertion _ | .resetRelease _ => none

/-- A command that can be sent: a request a frame can carry; a full transaction of 264 bytes or more, or one in which
no byte is clocked (R187); a short one of 1 to 263 (R189); one input voltage per channel. -/
def Instr.wf (i : Instr) : Bool :=
  match i.request? with
  | some (_, _, r) => r.wf
  | none =>
    match i with
    | .consoleTransaction f _ => 264 ≤ f.length || f.length = 0
    | .shortTransaction f _ => 1 ≤ f.length && f.length ≤ 263
    | .sampleTick v => v.length = 16
    | .sdramInitDone v _ => v.length = 16
    | .selfRefreshExited v _ => v.length = 16
    | .watchEdge v _ => v.length = 16
    | _ => true

end Sys2Proof
end

