-- ==== Sys2Proof/Decode.lean ====
section
/-! DEFINITION. Reading commands from bits: the table gives its rows none, so `decodeTableWord` answers none;
the frames of the ports do carry requests as bytes (R214, R218), and are read here, with the encoder beside. -/

namespace Sys2Proof

/-- No row of spec/opcode_table.json gives bits, so no word spells a row's command. -/
def decodeTableWord (_nbits _w : Nat) : Option Instr := none

namespace Wire

/-! ## Fields (R214) -/

/-- A parser takes bytes off the front of a payload, or finds it malformed. -/
abbrev Parser (α : Type) := List Byte → Option (α × List Byte)

/-- A field of `n` bytes, least significant first (R212). -/
def field (n : Nat) : Parser Nat := fun bs =>
  if bs.length < n then none else some (leNat (bs.take n), bs.drop n)

/-- A two-byte field read in two's complement: a threshold in mV. -/
def signed16 : Parser Int := fun bs =>
  match field 2 bs with
  | some (v, r) => some ((BitVec.ofNat 16 v).toInt, r)
  | none => none

/-- One 16-bit field as its bits. -/
def half : Parser Half := fun bs =>
  match field 2 bs with
  | some (v, r) => some (BitVec.ofNat 16 v, r)
  | none => none

/-- One byte as its bits. -/
def byte : Parser Byte
  | b :: bs => some (b, bs)
  | [] => none

/-- A field of one byte whose value lies below `k`. A form byte at or past its `k` forms gives the payload no length,
so check 5 of R218 fails; a presence byte other than 0 or 1 fails check 6. -/
def below (k : Nat) : Parser Nat := fun bs =>
  match field 1 bs with
  | some (v, r) => if v < k then some (v, r) else none
  | none => none

/-- A choice among `k` named values: one byte, counted from 0 (R214). Check 6 of R218 refuses a byte that exceeds
`k`; the byte `k`, which names none of them either, is left to the request's own rule (log 57). -/
def choice (k : Nat) : Parser Nat := below (k + 1)

def switchOf : Nat → Switch
  | 0 => .on | 1 => .off | _ => .unknown

/-- A choice of two named values. -/
def switch : Parser Switch := fun bs =>
  match choice 2 bs with
  | some (v, r) => some (switchOf v, r)
  | none => none

/-- A flag (TAKE, follow): a byte that is not zero is a set flag. DESIGN CHOICE, log 6. -/
def flag : Parser Bool := fun bs =>
  match field 1 bs with
  | some (v, r) => some (v ≠ 0, r)
  | none => none

/-- An optional field: a presence byte, and the field's bytes in either case (R214). -/
def optional {α : Type} (p : Parser α) : Parser (Option α) := fun bs =>
  match below 2 bs with
  | some (v, r) =>
    match p r with
    | some (a, r') => some (if v = 1 then some a else none, r')
    | none => none
  | none => none

/-- `n` items one after another. -/
def many {α : Type} (p : Parser α) : Nat → Parser (List α)
  | 0, bs => some ([], bs)
  | n + 1, bs =>
    match p bs with
    | some (a, r) =>
      match many p n r with
      | some (as, r') => some (a :: as, r')
      | none => none
    | none => none

/-- A list: a one-byte count and the items (R214). -/
def counted {α : Type} (p : Parser α) : Parser (List α) := fun bs =>
  match field 1 bs with
  | some (n, r) => many p n r
  | none => none

/-! ## Fields of several forms (R214) -/

def chanCondOf : Nat → ChanCond
  | 0 => .ignore | 1 => .low | 2 => .high | 3 => .rise | 4 => .fall | 5 => .edge | _ => .unknown

def chanCond : Parser ChanCond := fun bs => do
  let (v, r) ← choice 6 bs
  some (chanCondOf v, r)

/-- NONE, HELD_AT_LEAST or HELD_LESS_THAN, and its two bytes of `n` in each case, ignored under
NONE (R39, R214; DESIGN CHOICE, log 85). -/
def qualifier : Parser Qualifier := fun bs => do
  let (v, r) ← choice 3 bs
  let (n, r) ← field 2 r
  some (if v = 0 then .none else if v = 1 then .heldAtLeast n else if v = 2 then .heldLessThan n else .unknown n, r)

/-- Stage 0 to 3, or FINAL, in the order R39 lists them; 5 names neither. -/
def target : Parser Target := fun bs => do
  let (v, r) ← choice 5 bs
  some (if v = 4 then .final else .stage v, r)

/-- A stage condition: PATTERN or DECODER (R39). -/
def stageCond : Parser StageCond := fun bs => do
  let (v, r) ← below 2 bs
  if v = 0 then
    let (cs, r) ← many chanCond 16 r
    some (.pattern cs, r)
  else
    let (slot, r) ← field 1 r
    let (kind, r) ← field 1 r
    let (value, r) ← field 2 r
    let (mask, r) ← field 2 r
    some (.decoder slot kind value mask, r)

/-- A stage: its timeout is a length of time from 0 to 2^32 - 1, in 4 bytes (R39, R214; DEDUCED, log 86). -/
def stage : Parser Stage := fun bs => do
  let (cond, r) ← stageCond bs
  let (qualifier, r) ← qualifier r
  let (count, r) ← field 2 r
  let (next, r) ← target r
  let (timeoutTarget, r) ← target r
  let (timeout, r) ← field 4 r
  some ({ cond, qualifier, count, next, timeoutTarget, timeout }, r)

/-- The arm parameters: B_pre, 1 to 511 blocks, in 2 bytes (R38, R214; DEDUCED, log 86). -/
def armParams : Parser ArmParams := fun bs => do
  let (wPre, r) ← field 6 bs
  let (bPre, r) ← field 2 r
  let (pPost, r) ← field 6 r
  let (reclaim, r) ← switch r
  let (sequence, r) ← field 1 r
  let (stages, r) ← many stage 4 r
  some ({ wPre, bPre, pPost, reclaim, sequence, stages }, r)

def edgeOf : Nat → EdgeKind
  | 0 => .rise | 1 => .fall | _ => .either

/-- NONE, or a channel and an edge kind (R14). -/
def watch : Parser (Option (Nat × Nat)) := fun bs => do
  let (v, r) ← below 2 bs
  if v = 0 then some (none, r)
  else
    let (ch, r) ← field 1 r
    let (e, r) ← choice 3 r
    some (some (ch, e), r)

def parityOf : Nat → Parity
  | 0 => .none | 1 => .even | _ => .odd

/-- A UART's fields, or none where a choice byte names no value. -/
def uartCfg : Parser (Option UartCfg) := fun bs => do
  let (rx, r) ← field 1 bs
  let (idle, r) ← switch r
  let (dataBits, r) ← field 1 r
  let (par, r) ← choice 3 r
  let (stopBits, r) ← field 1 r
  let (baud, r) ← field 4 r
  some (if idle = .unknown ∨ par = 3 then none
        else some { rx, idleHigh := idle = .on, dataBits, parity := parityOf par, stopBits, baud }, r)

/-- An SPI slot's fields, or none where a choice byte names no value. -/
def spiCfg : Parser (Option SpiCfg) := fun bs => do
  let (clock, r) ← field 1 bs
  let (select, r) ← optional (field 1) r
  let (active, r) ← switch r
  let (mosi, r) ← field 1 r
  let (miso, r) ← optional (field 1) r
  let (idle, r) ← switch r
  let (edge, r) ← switch r
  let (wordLength, r) ← field 1 r
  let (order, r) ← switch r
  let (gapTimeout, r) ← field 4 r
  some (if active = .unknown ∨ idle = .unknown ∨ edge = .unknown ∨ order = .unknown then none
        else some { clock, select, selectHigh := active = .off, mosi, miso, idleHigh := idle = .off,
                    leading := edge = .on, wordLength, msbFirst := order = .on, gapTimeout }, r)

/-- A strobed slot's fields, or none where its edge kind names no value. -/
def strobeCfg : Parser (Option StrobeCfg) := fun bs => do
  let (data, r) ← counted (field 1) bs
  let (strobe, r) ← field 1 r
  let (e, r) ← choice 3 r
  some (if e = 3 then none else some { data, strobe, edge := edgeOf e }, r)

/-- A protocol from its fields; one with a choice byte that names no value is unknown, with the protocol's code. -/
def protocolOf {α : Type} (mk : α → Protocol) (code : Nat) : Option α → Protocol
  | some c => mk c
  | none => .unknown code

/-- UART, SPI, I2C or the strobed bus (R106). -/
def protocol : Parser Protocol := fun bs => do
  let (v, r) ← below 4 bs
  if v = 0 then
    let (c, r) ← uartCfg r
    some (protocolOf .uart 0 c, r)
  else if v = 1 then
    let (c, r) ← spiCfg r
    some (protocolOf .spi 1 c, r)
  else if v = 2 then
    let (scl, r) ← field 1 r
    let (sda, r) ← field 1 r
    some (.i2c { scl, sda }, r)
  else
    let (c, r) ← strobeCfg r
    some (protocolOf .strobed 3 c, r)

def source : Parser Source := fun bs => do
  let (v, r) ← below 2 bs
  if v = 0 then
    let (seg, r) ← field 1 r
    let (f, r) ← field 6 r
    let (t, r) ← field 6 r
    some (.offline seg f t, r)
  else some (.live, r)

def viewSeg : Parser ViewSeg := fun bs => do
  let (v, r) ← below 2 bs
  if v = 0 then
    let (n, r) ← field 1 r
    some (.number n, r)
  else some (.follow, r)

/-- A tick, or OFF (R151). -/
def cursor : Parser (Option Nat) := fun bs => do
  let (v, r) ← below 2 bs
  if v = 0 then
    let (n, r) ← field 6 r
    some (some n, r)
  else some (none, r)

/-- A layout row: kind, subject, height and colour index (R149). -/
def rowReq : Parser RowReq := fun bs => do
  let (kind, r) ← choice 3 bs
  let (subject, r) ← field 1 r
  let (height, r) ← field 1 r
  let (colour, r) ← field 1 r
  some ({ kind, subject, height, colour }, r)

def initEntry : Parser InitEntry := fun bs => do
  let (v, r) ← below 2 bs
  if v = 0 then
    let (code, r) ← byte r
    let (params, r) ← counted byte r
    some (.command code params, r)
  else
    let (ms, r) ← field 1 r
    some (.delay ms, r)

def panelSetup : Parser PanelSetup := fun bs => do
  let (width, r) ← field 1 bs
  let (colWindow, r) ← byte r
  let (rowWindow, r) ← byte r
  let (memWrite, r) ← byte r
  let (sleepIn, r) ← byte r
  let (sleepOut, r) ← byte r
  let (displayOn, r) ← byte r
  let (displayOff, r) ← byte r
  let (wakeDelay, r) ← field 1 r
  let (teUsed, r) ← switch r
  let (tePolarity, r) ← choice 2 r
  let (init, r) ← counted initEntry r
  some ({ width, colWindow, rowWindow, memWrite, sleepIn, sleepOut, displayOn, displayOff, wakeDelay,
          teUsed, tePolarity, init }, r)

/-- An alert kind, one byte that is its place 1 to 15 (DESIGN CHOICE, log 83), and a level (R201, R214). -/
def alertPair : Parser (Nat × Nat) := fun bs => do
  let (k, r) ← field 1 bs
  let (l, r) ← choice 3 r
  some ((k, l), r)

def selectorOf : Nat → StatusSel
  | 0 => .acquisition | 1 => .store | 2 => .decoders | 3 => .render | 4 => .port | _ => .unknown

/-! ## Payloads -/

/-- A request without fields. -/
def bare (r : Request) : Parser Request := fun bs => some (r, bs)

def one (k : Nat → Request) : Parser Request := fun bs => do
  let (a, r) ← field 1 bs
  some (k a, r)

/-- The fields of the request with kind code `kind` (R214: codes number the requests from 1 in the order of
the request-set table of R193). -/
def payload : Nat → Parser Request
  | 1 => fun bs => do
    let (a, r) ← optional signed16 bs
    let (b, r) ← optional signed16 r
    some (.setPods a b, r)
  | 2 => fun bs => do
    let (d, r) ← field 4 bs
    let (m, r) ← half r
    some (.setClock d m, r)
  | 3 => fun bs => do
    let (w, r) ← watch bs
    some (.setWatch w, r)
  | 4 => fun bs => do
    let (a, r) ← armParams bs
    some (.loadTrigger a, r)
  | 5 => bare .arm
  | 6 => bare .force
  | 7 => bare .halt
  | 8 => fun bs => do
    let (n, r) ← field 2 bs
    some (.setStoreLow n, r)
  | 9 => one .drop
  | 10 => one .keep
  | 11 => one .unkeep
  | 12 => fun bs => do
    let (s, r) ← field 1 bs
    let (f, r) ← field 6 r
    let (t, r) ← field 6 r
    some (.readRecords s f t, r)
  | 13 => fun bs => do
    let (slot, r) ← field 1 bs
    let (p, r) ← protocol r
    let (s, r) ← source r
    let (q, r) ← field 2 r
    let (t, r) ← field 1 r
    some (.decStart slot p s q t, r)
  | 14 => one .decStop
  | 15 => one .decClear
  | 16 => fun bs => do
    let (s, r) ← field 1 bs
    let (n, r) ← field 1 r
    some (.queueTake s n, r)
  | 17 => one .queuePeek
  | 18 => fun bs => do
    let (slot, r) ← field 1 bs
    let (s, r) ← field 1 r
    let (f, r) ← field 6 r
    let (t, r) ← field 6 r
    let (m, r) ← field 2 r
    some (.readNotes slot s f t m, r)
  | 19 => fun bs => do
    let (s, r) ← field 1 bs
    let (a, r) ← field 6 r
    let (b, r) ← field 6 r
    let (m, r) ← half r
    some (.measure s a b m, r)
  | 20 => bare .measureResult
  | 21 => fun bs => do
    let (s, r) ← viewSeg bs
    let (t, r) ← field 6 r
    let (sc, r) ← field 8 r
    let (f, r) ← flag r
    some (.setView s t sc f, r)
  | 22 => fun bs => do
    let (rows, r) ← counted rowReq bs
    some (.setLayout rows, r)
  | 23 => fun bs => do
    let (cs, r) ← many half 8 bs
    some (.setPalette cs, r)
  | 24 => fun bs => do
    let (a, r) ← cursor bs
    let (b, r) ← cursor r
    some (.setCursors a b, r)
  | 25 => one .setLiveDivider
  | 26 => fun bs => do
    let (s, r) ← panelSetup bs
    some (.panelSetup s, r)
  | 27 => bare .panelOn
  | 28 => bare .panelOff
  | 29 => bare .panelSleep
  | 30 => bare .panelWake
  | 31 => fun bs => do
    let (id, r) ← field 1 bs
    let (x, r) ← field 2 r
    let (y, r) ← field 1 r
    let (w, r) ← field 2 r
    let (h, r) ← field 1 r
    some (.overlaySet id x y w h, r)
  | 32 => one .overlayClear
  | 33 => fun bs => do
    let (id, r) ← field 1 bs
    let (o, r) ← field 4 r
    let (px, r) ← counted half r
    some (.overlayPixels id o px, r)
  | 34 => bare .panelStatus
  | 35 => fun bs => do
    let (f, r) ← flag bs
    some (.claim f, r)
  | 36 => bare .release
  | 37 => bare .portReset
  | 38 => bare .readNext
  | 39 => bare .streamCancel
  | 40 => fun bs => do
    let (ps, r) ← counted alertPair bs
    some (.alertLevels ps, r)
  | 41 => bare .alertFetch
  | 42 => bare .identify
  | 43 => bare .nop
  | 44 => fun bs => do
    let (v, r) ← choice 5 bs
    some (.status (selectorOf v), r)
  | 45 => fun bs => do
    let (n, r) ← field 2 bs
    some (.doze n, r)
  | 46 => bare .wakeCausesClear
  | 47 => fun bs => do
    let (a, r) ← field 2 bs
    let (b, r) ← field 2 r
    some (.setBattery a b, r)
  | 48 => bare .resetPart
  | 49 => bare .powerStatus
  | _ => fun _ => none

/-- A payload is well formed when the request's fields take up exactly its length (check 5 of R218). -/
def parsePayload (kind : Nat) (bs : List Byte) : Option Request :=
  match payload kind bs with
  | some (r, []) => some r
  | _ => none

/-! ## Frames (R214, R218) -/

/-- What a received frame turns out to be. -/
inductive RxFrame where
  /-- A console NONE frame: no request (R187). -/
  | none
  | request (kind : Byte) (tag : Tag) (r : Request)
  | malformed (kind : Byte) (tag : Tag)
  deriving DecidableEq, Repr

/-- The kind code byte of a frame, zero when it was not received. -/
def kindByte (bs : List Byte) : Byte := bs.getD 1 0

/-- The tag of a frame, with zero for bytes not received (R189, R218). -/
def tagOf (bs : List Byte) : Tag := BitVec.ofNat 16 (leNat [bs.getD 2 0, bs.getD 3 0])

/-- The payload length field of a frame. -/
def lengthField (bs : List Byte) : Nat := leNat [bs.getD 4 0, bs.getD 5 0]

/-- Checks 2 to 6 of R218 on a frame of type 0x01; `fits` is the tether's test of the transfer's length. -/
def requestFrame (fits : Bool) (bs : List Byte) : RxFrame :=
  if 1 ≤ (kindByte bs).toNat ∧ (kindByte bs).toNat ≤ 49 ∧ lengthField bs ≤ 256 ∧ fits = true ∧
      bs.getD 6 0 = 0 ∧ bs.getD 7 0 = 0 then
    match parsePayload (kindByte bs).toNat ((bs.drop 8).take (lengthField bs)) with
    | some r => .request (kindByte bs) (tagOf bs) r
    | none => .malformed (kindByte bs) (tagOf bs)
  else .malformed (kindByte bs) (tagOf bs)

/-- A frame received in a full console transaction: its first 264 bytes (R187, R218). -/
def consoleFrame (bs : List Byte) : RxFrame :=
  if bs.getD 0 0 = 0 then .none
  else if bs.getD 0 0 = 1 then requestFrame true bs
  else .malformed (kindByte bs) (tagOf bs)

/-- A frame received in an OUT transfer, whose length is 8 plus the payload length (R214, R218). -/
def tetherFrame (bs : List Byte) : RxFrame :=
  if bs.getD 0 0 = 1 then requestFrame (bs.length = 8 + lengthField bs) bs
  else .malformed (kindByte bs) (tagOf bs)

/-! ## The encoder -/

def putOptional (width : Nat) : Option Nat → List Byte
  | none => 0 :: leBytes width 0
  | some v => 1 :: leBytes width v

def putSigned (t : Option Int) : List Byte :=
  putOptional 2 (t.map fun v => (BitVec.ofInt 16 v).toNat)

def putBool (b : Bool) : Byte := if b then 1 else 0

/-- The byte of the first-listed of two values. -/
def putFirst (b : Bool) : Byte := if b then 0 else 1

def putSwitch : Switch → Byte
  | .on => 0 | .off => 1 | .unknown => 2

def putHalf (h : Half) : List Byte := leBytes 2 h.toNat

def putChan : ChanCond → Byte
  | .ignore => 0 | .low => 1 | .high => 2 | .rise => 3 | .fall => 4 | .edge => 5 | .unknown => 6

/-- Under NONE the two bytes of `n` travel as zeros (log 85). -/
def putQualifier : Qualifier → List Byte
  | .none => 0 :: leBytes 2 0
  | .heldAtLeast n => 1 :: leBytes 2 n
  | .heldLessThan n => 2 :: leBytes 2 n
  | .unknown n => 3 :: leBytes 2 n

def putTarget : Target → Byte
  | .stage k => BitVec.ofNat 8 k
  | .final => 4

def putCond : StageCond → List Byte
  | .pattern cs => 0 :: cs.map putChan
  | .decoder slot kind value mask => 1 :: (leBytes 1 slot ++ leBytes 1 kind ++ leBytes 2 value ++ leBytes 2 mask)

def putStage (g : Stage) : List Byte :=
  putCond g.cond ++ putQualifier g.qualifier ++ leBytes 2 g.count ++
    [putTarget g.next, putTarget g.timeoutTarget] ++ leBytes 4 g.timeout

def putParams (a : ArmParams) : List Byte :=
  leBytes 6 a.wPre ++ leBytes 2 a.bPre ++ leBytes 6 a.pPost ++ [putSwitch a.reclaim] ++ leBytes 1 a.sequence ++
    a.stages.flatMap putStage

def putEdge : EdgeKind → Byte
  | .rise => 0 | .fall => 1 | .either => 2

def putParity : Parity → Byte
  | .none => 0 | .even => 1 | .odd => 2

def putProtocol : Protocol → List Byte
  | .uart c => 0 :: (leBytes 1 c.rx ++ [putFirst c.idleHigh] ++ leBytes 1 c.dataBits ++ [putParity c.parity] ++
      leBytes 1 c.stopBits ++ leBytes 4 c.baud)
  | .spi c => 1 :: (leBytes 1 c.clock ++ putOptional 1 c.select ++ [putFirst (!c.selectHigh)] ++ leBytes 1 c.mosi ++
      putOptional 1 c.miso ++ [putFirst (!c.idleHigh), putFirst c.leading] ++ leBytes 1 c.wordLength ++
      [putFirst c.msbFirst] ++ leBytes 4 c.gapTimeout)
  | .i2c c => 2 :: (leBytes 1 c.scl ++ leBytes 1 c.sda)
  | .strobed c => 3 :: (leBytes 1 c.data.length ++ c.data.flatMap (leBytes 1) ++ leBytes 1 c.strobe ++ [putEdge c.edge])
  | .unknown code => leBytes 1 code

def putSource : Source → List Byte
  | .offline s f t => 0 :: (leBytes 1 s ++ leBytes 6 f ++ leBytes 6 t)
  | .live => [1]

def putView : ViewSeg → List Byte
  | .number n => 0 :: leBytes 1 n
  | .follow => [1]

def putCursor : Option Nat → List Byte
  | some t => 0 :: leBytes 6 t
  | none => [1]

def putRow (r : RowReq) : List Byte :=
  leBytes 1 r.kind ++ leBytes 1 r.subject ++ leBytes 1 r.height ++ leBytes 1 r.colour

def putInit : InitEntry → List Byte
  | .command code ps => 0 :: code :: (leBytes 1 ps.length ++ ps)
  | .delay ms => 1 :: leBytes 1 ms

def putSetup (r : PanelSetup) : List Byte :=
  leBytes 1 r.width ++ [r.colWindow, r.rowWindow, r.memWrite, r.sleepIn, r.sleepOut, r.displayOn, r.displayOff] ++
    leBytes 1 r.wakeDelay ++ [putSwitch r.teUsed] ++ leBytes 1 r.tePolarity ++ leBytes 1 r.init.length ++
    r.init.flatMap putInit

def putSelector : StatusSel → Byte
  | .acquisition => 0 | .store => 1 | .decoders => 2 | .render => 3 | .port => 4 | .unknown => 5

/-- The kind code of a request (R214). -/
def code : Request → Nat
  | .setPods .. => 1 | .setClock .. => 2 | .setWatch .. => 3 | .loadTrigger .. => 4 | .arm => 5 | .force => 6
  | .halt => 7 | .setStoreLow .. => 8 | .drop .. => 9 | .keep .. => 10 | .unkeep .. => 11 | .readRecords .. => 12
  | .decStart .. => 13 | .decStop .. => 14 | .decClear .. => 15 | .queueTake .. => 16 | .queuePeek .. => 17
  | .readNotes .. => 18 | .measure .. => 19 | .measureResult => 20 | .setView .. => 21 | .setLayout .. => 22
  | .setPalette .. => 23 | .setCursors .. => 24 | .setLiveDivider .. => 25 | .panelSetup .. => 26 | .panelOn => 27
  | .panelOff => 28 | .panelSleep => 29 | .panelWake => 30 | .overlaySet .. => 31 | .overlayClear .. => 32
  | .overlayPixels .. => 33 | .panelStatus => 34 | .claim .. => 35 | .release => 36 | .portReset => 37
  | .readNext => 38 | .streamCancel => 39 | .alertLevels .. => 40 | .alertFetch => 41 | .identify => 42 | .nop => 43
  | .status .. => 44 | .doze .. => 45 | .wakeCausesClear => 46 | .setBattery .. => 47 | .resetPart => 48
  | .powerStatus => 49

/-- The payload bytes of a request (R214). -/
def putPayload : Request → List Byte
  | .setPods a b => putSigned a ++ putSigned b
  | .setClock d m => leBytes 4 d ++ putHalf m
  | .setWatch none => [0]
  | .setWatch (some (c, e)) => 1 :: (leBytes 1 c ++ leBytes 1 e)
  | .loadTrigger a => putParams a
  | .setStoreLow n => leBytes 2 n
  | .drop s => leBytes 1 s
  | .keep s => leBytes 1 s
  | .unkeep s => leBytes 1 s
  | .readRecords s f t => leBytes 1 s ++ leBytes 6 f ++ leBytes 6 t
  | .decStart slot p s q t => leBytes 1 slot ++ putProtocol p ++ putSource s ++ leBytes 2 q ++ leBytes 1 t
  | .decStop s => leBytes 1 s
  | .decClear s => leBytes 1 s
  | .queueTake s n => leBytes 1 s ++ leBytes 1 n
  | .queuePeek s => leBytes 1 s
  | .readNotes slot s f t m => leBytes 1 slot ++ leBytes 1 s ++ leBytes 6 f ++ leBytes 6 t ++ leBytes 2 m
  | .measure s a b m => leBytes 1 s ++ leBytes 6 a ++ leBytes 6 b ++ putHalf m
  | .setView s t sc f => putView s ++ leBytes 6 t ++ leBytes 8 sc ++ [putBool f]
  | .setLayout rows => leBytes 1 rows.length ++ rows.flatMap putRow
  | .setPalette cs => cs.flatMap putHalf
  | .setCursors a b => putCursor a ++ putCursor b
  | .setLiveDivider n => leBytes 1 n
  | .panelSetup r => putSetup r
  | .overlaySet id x y w h => leBytes 1 id ++ leBytes 2 x ++ leBytes 1 y ++ leBytes 2 w ++ leBytes 1 h
  | .overlayClear id => leBytes 1 id
  | .overlayPixels id o px => leBytes 1 id ++ leBytes 4 o ++ leBytes 1 px.length ++ px.flatMap putHalf
  | .claim f => [putBool f]
  | .alertLevels ps => leBytes 1 ps.length ++ ps.flatMap fun p => leBytes 1 p.1 ++ leBytes 1 p.2
  | .status s => [putSelector s]
  | .doze n => leBytes 2 n
  | .setBattery a b => leBytes 2 a ++ leBytes 2 b
  | .arm | .force | .halt | .measureResult | .panelOn | .panelOff | .panelSleep | .panelWake | .panelStatus
  | .release | .portReset | .readNext | .streamCancel | .alertFetch | .identify | .nop | .wakeCausesClear
  | .resetPart | .powerStatus => []

/-- The request frame of a request: header and payload (R214). -/
def frame (tag : Tag) (r : Request) : List Byte :=
  (1 : Byte) :: BitVec.ofNat 8 (code r) :: (leBytes 2 tag.toNat ++ leBytes 2 (putPayload r).length ++ [0, 0]) ++
    putPayload r

end Wire

end Sys2Proof
end

