-- ==== Sys2Proof/Machine/State.lean ====
section
/-! DEFINITION. The state of the LA-216 as plain data, block by block in the order of the block table of
00_scope.md, its value after a full reset, and the reasons a step may stop. -/

namespace Sys2Proof.Machine

/-- No rule of the manual stops the part on a command, so no meaning answers with a fault. -/
inductive Fault where
  /-- Raised by nobody: it only keeps the type from being empty. Safe. -/
  | unused
  deriving DecidableEq, Repr

/-- Why a command is not run. -/
inductive Refusal where
  /-- Raised by `exec` for a row whose meaning is not written yet. Safe. No arm uses it. -/
  | notModelled (mnemonic : String)
  deriving DecidableEq, Repr

/-! ## Records -/

/-- MARK subkinds (R17, R213). -/
inductive MarkKind where
  | lossBegin | lossEnd | podLost | stop
  deriving DecidableEq, Repr

/-- A record by its fields (R17). -/
inductive Record where
  | base (lossOpen : Bool) (state : Half)
  | trans (delta : Nat) (state : Half)
  | extend (delta : Nat)
  | mark (delta : Nat) (sub : MarkKind) (arg : Nat)
  deriving DecidableEq, Repr

/-- A record with its time. -/
structure TimedRec where
  time : Nat
  item : Record
  deriving DecidableEq, Repr

/-- Seal reasons (R17, R63). -/
inductive SealReason where
  | complete | halted | storeFull | ownerLost | power | timeLimit
  deriving DecidableEq, Repr

/-! ## Pod front end (01) -/

/-- One pod. `sense` is the level of its sense line (attached or not), an input pin; `powered` says whether its
comparators and converter are powered (R15, R16). -/
structure Pod where
  present : Bool
  window : Option Nat
  code : Nat
  blanked : Bool
  sense : Bool
  powered : Bool
  deriving DecidableEq, Repr

/-- Pod front end. `levels`: the sixteen comparator levels (R7). `detector`: the reference level of the watch's
edge detector, absent when it is stopped (R15). `lost`: pods lost, whose event is handed over at the next
sampled tick (R4). -/
structure FrontEnd where
  pod0 : Pod
  pod1 : Pod
  divider : Nat
  mask : Half
  tick : Nat
  watch : Option (Nat × EdgeKind)
  levels : Half
  detector : Option Bool
  lost : List Nat
  deriving DecidableEq, Repr

/-! ## Compressor, staging queue, tap, writer (02) -/

/-- Compressor and staging queue. `heldEnd`: an END waits for the open loss interval to close (R31).
`lastTick`: the last tick whose state was compared (R114). `tickBefore`, `tickLost`: the lost count before the
current tick and the pods lost at it, which a close at this same tick needs (R27, R37). -/
structure Compressor where
  last : Half
  stagingTime : Nat
  tapTime : Nat
  lossOpen : Bool
  lostCount : Nat
  staging : List Record
  heldEnd : Bool
  lastTick : Nat
  tickBefore : Nat
  tickLost : List Nat
  deriving DecidableEq, Repr

/-- A tap entry (R33). `seg` and `divider`: the segment FILLING when it entered, and that segment's latched D
(R108, R109); `seg` becomes absent when that segment is freed. -/
structure TapEntry where
  item : Record
  time : Nat
  gap : Bool
  owed : List Nat
  seg : Option Nat
  divider : Nat
  deriving DecidableEq, Repr

/-- A held END of the tap stream (R37). -/
structure HeldEnd where
  time : Nat
  reason : SealReason
  seg : Option Nat
  divider : Nat
  deriving DecidableEq, Repr

/-- Decoder tap. `joining`: slots awaiting their joining BASE (R34). -/
structure Tap where
  entries : List TapEntry
  gapOpen : Bool
  heldEnd : Option HeldEnd
  joining : List Nat
  deriving DecidableEq, Repr

/-- Capture writer (R28). -/
structure Writer where
  seg : Option Nat
  block : Nat
  written : Nat
  time : Nat
  cur : Half
  lossOpen : Bool
  group : List Record
  deriving DecidableEq, Repr

/-! ## Trigger sequencer (03) -/

/-- The acquisition state (03). -/
inductive AcqState where
  | idle | priming | hunting (k : Nat) | postfill | draining
  deriving DecidableEq, Repr

/-- Trigger sequencer (R38). -/
structure Sequencer where
  acq : AcqState
  params : ArmParams
  seg : Option Nat
  taken : Nat
  primingEnd : Nat
  entryTick : Nat
  matchCount : Nat
  expiry : Option Nat
  held : Bool
  run : Nat
  prev : Half
  stopTick : Option Nat
  reason : Option SealReason
  seqEnd : Bool
  deriving DecidableEq, Repr

/-! ## Capture store (04) -/

/-- Segment entry states (04). -/
inductive SegState where
  | empty | filling | sealed | releasing
  deriving DecidableEq, Repr

/-- A trigger tick with its flags (R50, R63). -/
structure Trigger where
  tick : Nat
  forced : Bool
  clamped : Bool
  deriving DecidableEq, Repr

/-- The values latched at an arm (R11). -/
structure Latched where
  divider : Nat
  mask : Half
  code0 : Nat
  code1 : Nat
  blank0 : Bool
  blank1 : Bool
  deriving DecidableEq, Repr

/-- A pin set (R63, R74). -/
structure Pins where
  view : Bool
  decode : Nat
  measure : Bool
  readConsole : Bool
  readTether : Bool
  deriving DecidableEq, Repr

/-- A segment entry (R63). `burstChain`: while FILLING, the chain length at the last writer burst ended, which the store
status reports (R85); from the arm to the first such end, the length at the arm (DESIGN CHOICE, log 74). -/
structure Segment where
  state : SegState
  owner : Option Port
  chain : List Nat
  burstChain : Nat
  trimmed : Nat
  start : Nat
  stop : Nat
  trigger : Option Trigger
  reason : Option SealReason
  order : Nat
  index : Nat
  latched : Latched
  losses : Nat
  kept : Bool
  pins : Pins
  deriving DecidableEq, Repr

/-- A block map record (R62). -/
structure BlockRec where
  next : Option Nat
  base : Nat
  used : Nat
  deriving DecidableEq, Repr

/-- The SDRAM's bytes: (byte address, value) pairs, addresses strictly rising, no value 0; an unlisted address
reads as 0 (log 1). Halfword `H` of R87 occupies bytes `2H` (its lower half) and `2H + 1`. -/
abbrev Memory := List Host.Cell

/-- Capture store (04). -/
structure Store where
  freeList : List Nat
  blocks : List BlockRec
  segs : List Segment
  sealCounter : Nat
  low : Nat
  armed : Bool
  available : Bool
  mem : Memory
  deriving DecidableEq, Repr

/-! ## Memory controller (05) -/

/-- Controller states (R88). -/
inductive CtlState where
  | initialising | serving | entering | selfRefresh | exiting
  deriving DecidableEq, Repr

/-- How far initialisation has come (R89): before the PLL locks, in the 200 µs wait, in the commands after. -/
inductive InitStep where
  | notStarted | wait | commands
  deriving DecidableEq, Repr

/-- Bank states (R91). -/
inductive Bank where
  | idle | opening (row : Nat) | opened (row : Nat) | closing
  deriving DecidableEq, Repr

/-- The six requesters in circular order (R93). -/
inductive Requester where
  | writer | renderer | decoder | measure | console | tether
  deriving DecidableEq, Repr

/-- A read burst in flight (R92, R94). `halves`: the halfwords of an earlier part (R100); `data`: those this part
transfers, as the SDRAM held them at the grant; `len`: the block's records used at the first part's grant; `tail`:
the block was the chain's last one then; `discard`: the requester no longer wants it (R101); `transferring`: a
halfword of this part is on its way; `delivered`: how many of them have been delivered (R88). -/
structure ReadBurst where
  req : Requester
  slot : Nat
  seg : Nat
  pos : Nat
  block : Nat
  group : Nat
  len : Nat
  tail : Bool
  halves : List Half
  data : List Half
  discard : Bool
  transferring : Bool
  delivered : Nat
  deriving DecidableEq, Repr

/-- What the controller has in flight (R88). A write burst carries `n` records of the staging queue. -/
inductive Flight where
  | refresh
  | write (n : Nat)
  | read (b : ReadBurst)
  deriving DecidableEq, Repr

/-- The remainder of a cut burst (R100). -/
structure Remainder where
  req : Requester
  slot : Nat
  seg : Nat
  pos : Nat
  group : Nat
  len : Nat
  tail : Bool
  halves : List Half
  deriving DecidableEq, Repr

/-- Memory controller (R88). `phase`: which of the three refresh-due intervals runs (R90). The pending burst of
a requester is its remainder, or else the burst its read position wants (`Machine.wants`). -/
structure MemCtl where
  st : CtlState
  init : InitStep
  banks : List Bank
  debt : Nat
  phase : Nat
  last : Requester
  lastSlot : Nat
  flight : Option Flight
  remainders : List Remainder
  deriving DecidableEq, Repr

/-! ## Decoder slots (06) and annotations (07) -/

/-- Slot states (R105). -/
inductive SlotState where
  | free | waiting | running | done | truncated | stopped
  deriving DecidableEq, Repr

/-- Stop causes (R105). -/
inductive StopCause where
  | request | power | period
  deriving DecidableEq, Repr

/-- UART decoder states (R120). -/
inductive UartPhase where
  | hunt | start | bits | stop
  deriving DecidableEq, Repr

/-- A UART decoder and its frame in progress: start edge, number of the next bit, data bits so far, parity bit
as received, whether every bit so far read the active level (R119 to R121). -/
structure UartRx where
  phase : UartPhase
  t0 : Nat
  bit : Nat
  value : Nat
  par : Bool
  allActive : Bool
  deriving DecidableEq, Repr

/-- An SPI decoder: whether the word alignment is known (R123), the bits of the word in progress in the order
received, its first sampling edge and the last sampling edge taken (R122 to R124). -/
structure SpiRx where
  aligned : Bool
  mosi : List Bool
  miso : List Bool
  first : Nat
  lastEdge : Option Nat
  deriving DecidableEq, Repr

/-- An I2C decoder: in a transfer or IDLE, the bits of the byte in progress, its first SCL rise, whether it is an
address byte, and READ as the last ADDRESS set it (R125, R126). -/
structure I2cRx where
  active : Bool
  bits : List Bool
  first : Nat
  isAddress : Bool
  read : Bool
  deriving DecidableEq, Repr

/-- The protocol state of a slot (R105). -/
inductive ProtoState where
  | none
  | uart (r : UartRx)
  | spi (r : SpiRx)
  | i2c (r : I2cRx)
  | strobed
  deriving DecidableEq, Repr

/-- How a slot walks its records (R114): current state, whether it decodes (past its first tick decoded and not
waiting out a loss), the start of the loss it waits out (R116), its known-through tick, and the time of the last
record or entry it took. -/
structure Walk where
  cur : Half
  decoding : Bool
  lossFrom : Option Nat
  known : Nat
  last : Option Nat
  proto : ProtoState
  deriving DecidableEq, Repr

/-- A character queue entry (R129). -/
structure CharEntry where
  value : Nat
  aux : Bool
  parityOk : Bool
  deriving DecidableEq, Repr

/-- The read position of an OFFLINE slot (R105): chain position and place of the next record, and the tick reached. -/
structure ReadPos where
  pos : Nat
  place : Nat
  reached : Nat
  deriving DecidableEq, Repr

/-- A slot record (R105). `joinNext`: started while DRAINING, it owes nothing before the next arm BASE (R34). -/
structure Slot where
  state : SlotState
  starter : Option Port
  proto : Option Protocol
  source : Option Source
  quota : Nat
  tag : Option Nat
  reading : Option ReadPos
  period : Option Nat
  walk : Walk
  queue : List CharEntry
  level : Nat
  drops : Nat
  fullNotice : Bool
  cause : Option StopCause
  truncation : Option Nat
  joinNext : Bool
  deriving DecidableEq, Repr

/-- An annotation entry (R118, R133). -/
structure Note where
  slot : Nat
  seg : Nat
  kind : Nat
  start : Nat
  stop : Nat
  value : Nat
  aux : Option Nat
  read : Bool
  ack : Bool
  parityOk : Bool
  deriving DecidableEq, Repr

/-- Measurement engine states (R141). -/
inductive MeasState where
  | empty | busy | ready
  deriving DecidableEq, Repr

/-- One channel of a measurement result (R145). -/
structure ChanResult where
  chan : Nat
  edges : Nat
  high : Nat
  unknown : Nat
  deriving DecidableEq, Repr

/-- A measurement result (R145). -/
structure MeasResult where
  port : Port
  seg : Nat
  a : Nat
  b : Nat
  mask : Half
  ticks : Nat
  picos : Nat
  chans : List ChanResult
  incomplete : Bool
  deriving DecidableEq, Repr

/-- Measurement engine (R141). `pos` is absent before the first grant (R143); `time` is the time of the last record
read; `cur` is absent while the state is unknown; `acct` is the tick up to which it has accounted; `unknown` is the
same for every masked channel. -/
structure Measure where
  st : MeasState
  port : Port
  seg : Nat
  a : Nat
  b : Nat
  mask : Half
  pos : Option Nat
  place : Nat
  time : Nat
  cur : Option Half
  acct : Nat
  edges : List Nat
  high : List Nat
  unknown : Nat
  result : Option MeasResult
  deriving DecidableEq, Repr

/-! ## Renderer (08) -/

/-- The view record (R148). -/
structure View where
  seg : ViewSeg
  t0 : Nat
  scale : Nat
  follow : Bool
  setter : Option Port
  deriving DecidableEq, Repr

/-- A row kind (R149). -/
inductive RowKind where
  | channel (k : Nat) | annotation (slot : Nat) | blank
  deriving DecidableEq, Repr

/-- A layout row (R149). -/
structure Row where
  kind : RowKind
  height : Nat
  colour : Nat
  deriving DecidableEq, Repr

/-- Frame states (R153). -/
inductive FrameState where
  | idle | classifying | emitting
  deriving DecidableEq, Repr

/-- A trace table cell (R166): a channel class, NONE, or a bar (HATCH or FILL) with its label glyph and glyph
column. -/
inductive Cell where
  | outside | unknown | edge | high | low
  | none
  | bar (hatch : Bool) (label : Option (Nat × Nat))
  deriving DecidableEq, Repr

/-- What one column's span showed, for all sixteen channels at once (R161). -/
inductive ColData where
  | outside
  | unknown
  | known (edges state : Half)
  deriving DecidableEq, Repr

/-- The latched frame (R155). -/
structure Latch where
  seg : Option Nat
  start : Nat
  stop : Nat
  t0 : Nat
  scale : Nat
  layout : List Row
  palette : List Half
  cursorA : Option Nat
  cursorB : Option Nat
  deriving DecidableEq, Repr

/-- The renderer's walk of one slot's annotation list in a frame (R138, R164): the cursor, whether it has passed the
list's end, the selected entries in list order. -/
structure NoteWalk where
  cursor : Nat
  passed : Bool
  selected : List Note
  deriving DecidableEq, Repr

/-- The renderer's reading of records (R156). `frozen`: the columns already classified when blocks were trimmed;
`frameStart`: the frame's start tick; `recs`: the records read since; `walks`: the walk of each slot's annotations
(R164). -/
structure Reader where
  done : Bool
  pos : Option Nat
  place : Nat
  time : Nat
  recs : List TimedRec
  frozen : List ColData
  frameStart : Nat
  walks : List NoteWalk
  deriving DecidableEq, Repr

/-- Renderer (08). -/
structure Render where
  view : View
  layout : List Row
  palette : List Half
  cursorA : Option Nat
  cursorB : Option Nat
  divider : Nat
  liveCount : Nat
  frame : FrameState
  again : Bool
  latch : Latch
  reader : Reader
  drawnA : List Nat
  drawnB : List Nat
  trace : List (List Cell)
  dirty : List Nat
  completed : Nat
  deriving DecidableEq, Repr

/-! ## Panel link (09) -/

/-- Panel states. -/
inductive PanelState where
  | off | starting | showing | sleeping | waking
  deriving DecidableEq, Repr

/-- A rectangle of the panel. -/
structure Rect where
  x : Nat
  y : Nat
  w : Nat
  h : Nat
  deriving DecidableEq, Repr

/-- A run of overlay pixels (R183): its id, the offset of its next pixel, the pixels still to write. -/
structure PixelRun where
  id : Nat
  offset : Nat
  pixels : List Half
  deriving DecidableEq, Repr

/-- Emission (R178): WAITING carries whether it is to start at the next bus boundary. -/
inductive Emission where
  | idle | waiting (go : Bool) | emitting
  deriving DecidableEq, Repr

/-- Command sequences of the bus (R172 to R175); `sleepOut` is a wake whose delay was abandoned before it began. -/
inductive PanelSeq where
  | start | off | sleepIn | wake | sleepOut
  deriving DecidableEq, Repr

/-- What the bus carries (R170). A start sequence holds the init entries not known to be sent: it is in one of the
commands up to the next delay, in that delay, or, with no delay left, in the display-on command; how far it has come
is open until an event shows it (R172, log 60). -/
inductive BusOp where
  | idle
  | start (left : List InitEntry)
  | off
  | sleepIn
  | wakeDelay
  | band (b : Nat)
  | chunk (n : Nat)
  deriving DecidableEq, Repr

/-- One transfer of the panel bus (R170): a command code, or the 16 data lines of a data transfer. -/
inductive Transfer where
  | command (code : Byte)
  | data (lines : Half)
  deriving DecidableEq, Repr

/-- A request whose reply is deferred. -/
structure Deferred where
  port : Port
  kind : Byte
  tag : Tag
  deriving DecidableEq, Repr

/-- A pending overlay change (R182); `rect` absent for a clear. Its reply is lost by a port reset. -/
structure OverlayChange where
  id : Nat
  rect : Option Rect
  reply : Option Deferred
  deriving DecidableEq, Repr

/-- Panel link (09). `handOff`: the bands still to write; `remarked`: the band on the bus was marked dirty again
(R157); `leaving`: the panel left SHOWING while a band was on the bus (R180); `out`: the transfers of the last
thing the bus carried, from its grant on, of a start sequence those known to be sent (R170, log 45). -/
structure Panel where
  setup : Option PanelSetup
  st : PanelState
  dormantSleep : Bool
  teMissing : Bool
  teTimer : Bool
  torn : Nat
  emission : Emission
  handOff : List Nat
  tornMark : Bool
  leaving : Bool
  remarked : Bool
  overlays : List (Option Rect)
  queue : List PixelRun
  bus : BusOp
  waiting : List PanelSeq
  changes : List OverlayChange
  out : List Transfer
  deriving DecidableEq, Repr

/-! ## Request ports (10) -/

/-- Reply statuses (R193), coded as R214 numbers them. -/
inductive Status where
  | ok | accepted | badForm | noClaim | heldElsewhere | wrongState | noSuch | noRoom | outOfRange | foreign
  deriving DecidableEq, Repr

/-- Alert kinds in their fixed order (R200). -/
inductive AlertKind where
  | triggered | sealed | batteryCutoff | batteryLow | charqFull | segmentGone | loss | podChange | decodeDone
  | charqLevel | measureDone | claimChange | storeLow | panelEvent | woken
  deriving DecidableEq, Repr

/-- Alert levels (R200). -/
inductive AlertLevel where
  | off | routine | urgent
  deriving DecidableEq, Repr

/-- An alert in a set: kind, count 1 to 255, last argument (R200). -/
structure Alert where
  kind : AlertKind
  count : Nat
  arg : Nat
  deriving DecidableEq, Repr

/-- What a readout stream delivers (R82, R139). -/
inductive StreamSource where
  | records (seg : Nat)
  | notes (slot seg fromTick toTick : Nat)
  deriving DecidableEq, Repr

/-- A readout stream (R82 to R84, R138 to R140, R197 to R199). `left`: records still to read from the store, or
entries still allowed; `cursor`: the annotation cursor; `ended`: nothing more will be taken; `want`: the deferred
READ_NEXT and the bytes its chunk takes; `acc`: bytes read and not yet delivered; `buffer`: the tether
endpoint's packets; `endQueued`: its last packet has entered; `cancelled`: only the end packet is to follow. -/
structure Stream where
  source : StreamSource
  header : List Byte
  headerSent : Bool
  pos : Nat
  place : Nat
  left : Nat
  cursor : Nat
  ended : Bool
  want : Option (Deferred × Nat)
  acc : List Byte
  buffer : List (List Byte)
  endQueued : Bool
  cancelled : Bool
  delivered : Nat
  deriving DecidableEq, Repr

/-- Tether link states (R192). -/
inductive Link where
  | detached | configured | suspended
  deriving DecidableEq, Repr

/-- Power states (R203). -/
inductive PowerState where
  | startup | run | entry | dormant | wakeup | shutdown
  deriving DecidableEq, Repr

/-- Reset causes (R203, R205). -/
inductive ResetCause where
  | powerOn | pin | request
  deriving DecidableEq, Repr

/-- A wake-cause set (R203, R207). -/
structure WakeSet where
  console : Bool
  tether : Bool
  watch : Bool
  timer : Bool
  charger : Bool
  deriving DecidableEq, Repr

/-- A pod as the acquisition status gives it (R2, R59). -/
structure PodReport where
  effective : Int
  present : Bool
  blanked : Bool
  deriving DecidableEq, Repr

/-- A segment entry as the store status gives it (R85). -/
structure SegReport where
  state : SegState
  owner : Option Port
  chainLength : Nat
  trimmed : Nat
  start : Nat
  stop : Nat
  trigger : Option Trigger
  reason : Option SealReason
  order : Nat
  index : Nat
  losses : Nat
  kept : Bool
  pins : Pins
  deriving DecidableEq, Repr

/-- A slot as the decoder status gives it (R132). -/
structure SlotReport where
  state : SlotState
  starter : Option Port
  proto : Option Protocol
  source : Option Source
  quota : Nat
  notes : Nat
  tag : Option Nat
  reached : Option Nat
  period : Option Nat
  queued : Nat
  drops : Nat
  level : Nat
  cause : Option StopCause
  truncation : Option Nat
  deriving DecidableEq, Repr

/-- The payload of a reply, by its fields; its bytes stand in `Machine/ReplyFrames.lean` (log 7). -/
inductive ReplyBody where
  | none
  | badForm (repeats : Nat)
  | pods (code0 : Nat) (effective0 : Int) (present0 : Bool) (code1 : Nat) (effective1 : Int) (present1 : Bool)
  | clock (divider : Nat) (mask : Half) (picos : Nat)
  | armed (seg index : Nat)
  | tick (t : Nat)
  | storeLow (low freeBlocks : Nat) (armed : Bool)
  | dropped (st : SegState)
  | kept (flag : Bool)
  | recordsStream (fromTick toTick count : Nat)
  | slotStarted (st : SlotState) (period : Option Nat) (range : Option (Nat × Nat))
  | removed (n : Nat)
  | taken (entries : List CharEntry) (level : Nat) (full : Bool) (drops : Nat)
  | peeked (head : Option CharEntry) (level drops : Nat)
  | notesStream (count : Nat)
  | measuring (a b : Nat)
  | measureBusy (seg a b : Nat)
  | measured (r : MeasResult)
  | viewed (t0 scale : Nat)
  | queueLevel (n : Nat)
  | header (bytes : List Byte)
  | chunk (bytes : List Byte)
  | cancelled (bytes : Nat)
  | levels (ls : List AlertLevel)
  | alert (a : Option (Alert × AlertLevel)) (left : Nat)
  | identity (vendor part : String) (revision : Nat)
  | acquisition (acq : AcqState) (matchCount entryTick : Nat) (expiry : Option Nat) (run tick : Nat)
      (seg : Option Nat) (taken sequence : Nat) (trigger : Option Trigger) (stopTick : Option Nat)
      (reason : Option SealReason) (claim : Option Port) (staging : Nat) (lossOpen : Bool) (a b : PodReport)
  | store (freeBlocks low : Nat) (armed : Bool) (sealCounter : Nat) (segs : List SegReport)
  | decoders (slots : List SlotReport) (quotas : Nat)
  | render (view : View) (seg : Option Nat) (start stop t0 first last : Nat) (layout : List Row)
      (palette : List Half) (cursorA cursorB : Option Nat) (divider liveCount : Nat) (frame : FrameState)
      (again : Bool) (dirty : List Nat) (completed : Nat)
  | consolePort (claim : Option Port) (alerts : Nat) (stream : Option (StreamSource × Nat)) (listed : Nat)
      (inService : Bool)
  | tetherPort (claim : Option Port) (alerts : Nat) (stream : Option (StreamSource × Nat)) (link : Link)
      (remoteWake : Bool) (outstanding : Nat)
  | panel (st : PanelState) (dormantSleep loaded : Bool) (width : Nat) (teUsed : Bool) (tePolarity wakeDelay : Nat)
      (teMissing : Bool) (torn : Nat) (emission : Emission) (handOff : List Nat) (overlays : List (Option Rect))
      (level runs : Nat)
  | dozing (secs : Nat)
  | battery (low cutoff : Nat)
  | power (st : PowerState) (cause : ResetCause) (wake : WakeSet) (reading : Option Nat) (charger : Bool)
      (low cutoff : Nat) (armed : Bool) (grace : Option Nat) (ctl : CtlState)
  deriving DecidableEq, Repr

/-- A reply (R193): the kind code and tag of its request, a status, a payload, the LAST flag (R197). -/
structure Reply where
  kind : Byte
  tag : Tag
  status : Status
  body : ReplyBody
  last : Bool
  deriving DecidableEq, Repr

/-- The frame a console transaction sends out, fixed at its chip-select assertion (R187): a reply, or a NONE frame
with its flags and alert count (R214, R219). Its bytes are `OutFrame.bytes`. -/
inductive OutFrame where
  | none (starting waiting : Bool) (alerts : Nat)
  | reply (r : Reply)
  deriving DecidableEq, Repr

/-- What each port holds alike (R200, R197): alert set in the fixed order, a level per kind in that order, the
readout stream. -/
structure PortState where
  alerts : List Alert
  levels : List AlertLevel
  stream : Option Stream
  deriving DecidableEq, Repr

/-- The request ports (10). `outFrame`: the outgoing frame of the console transaction in progress. `attn`: ATTN is
driven low. `resuming`: the part signals resume on the bus (R192). `vbus`: the VBUS sense input. `conOut`, `tethOut`:
the bytes the last console transaction clocked out and the last reply frame the tether computer fetched (log 7). -/
structure Ports where
  claim : Option Port
  con : PortState
  teth : PortState
  conReplies : List Reply
  conService : Option Deferred
  outFrame : Option OutFrame
  attn : Bool
  link : Link
  remoteWake : Bool
  tethReplies : List Reply
  tethService : Nat
  resuming : Bool
  vbus : Bool
  conOut : List Byte
  tethOut : List Byte
  deriving DecidableEq, Repr

/-! ## Power unit (11) -/

/-- The sample PLL (R8). -/
inductive Pll where
  | stopped | starting | locked
  deriving DecidableEq, Repr

/-- The step of DORMANT entry the power unit waits in (R206). -/
inductive EntryStep where
  | frame | panel | sdram
  deriving DecidableEq, Repr

/-- Power unit (R203). `grace`: the remaining milliseconds at the last sample. `inReset`: between a full reset and
the release of reset (R204). `powerHold`: the power-hold line is driven (R210). `tetherReset`: a tether port reset
waits for RUN (R207). -/
structure Power where
  st : PowerState
  cause : ResetCause
  wake : WakeSet
  timer : Nat
  timerOn : Bool
  reading : Option Nat
  charger : Bool
  low : Nat
  cutoff : Nat
  lowArmed : Bool
  grace : Option Nat
  entryStep : EntryStep
  pll : Pll
  inReset : Bool
  powerHold : Bool
  tetherReset : Bool
  deriving DecidableEq, Repr

/-! ## The whole state -/

/-- The state of the part. `free`: the model's own counter, which the opaque constants of Config are applied to.
`pending`: the commands waiting, first in first out. -/
structure State where
  fe : FrontEnd
  comp : Compressor
  tap : Tap
  writer : Writer
  seq : Sequencer
  store : Store
  mc : MemCtl
  slots : List Slot
  notes : List (List Note)
  meas : Measure
  render : Render
  panel : Panel
  ports : Ports
  power : Power
  free : Nat
  pending : List Instr
  deriving DecidableEq, Repr

/-! ## Values after a full reset -/

def Pod.reset : Pod :=
  { present := false, window := none, code := 2380, blanked := false, sense := false, powered := false }

def FrontEnd.reset : FrontEnd :=
  { pod0 := Pod.reset, pod1 := Pod.reset, divider := 4, mask := 0xFFFF, tick := 0, watch := none, levels := 0,
    detector := none, lost := [] }

def Compressor.reset : Compressor :=
  { last := 0, stagingTime := 0, tapTime := 0, lossOpen := false, lostCount := 0, staging := [], heldEnd := false,
    lastTick := 0, tickBefore := 0, tickLost := [] }

def Tap.reset : Tap := { entries := [], gapOpen := false, heldEnd := none, joining := [] }

def Writer.reset : Writer :=
  { seg := none, block := 0, written := 0, time := 0, cur := 0, lossOpen := false, group := [] }

/-- The stage of the reset table (R38). -/
def Stage.reset : Stage :=
  { cond := .pattern (List.replicate 16 .ignore), qualifier := .none, count := 1, next := .final,
    timeoutTarget := .final, timeout := 0 }

/-- The arm parameters after a full reset (R38). -/
def ArmParams.reset : ArmParams :=
  { wPre := 0, bPre := 1, pPost := 0, reclaim := .off, sequence := 1, stages := List.replicate 4 Stage.reset }

def Sequencer.reset : Sequencer :=
  { acq := .idle, params := ArmParams.reset, seg := none, taken := 0, primingEnd := 0, entryTick := 0,
    matchCount := 0, expiry := none, held := false, run := 0, prev := 0, stopTick := none, reason := none,
    seqEnd := false }

/-- The reset values of the front end, which an EMPTY entry's latched fields take (R63). -/
def Latched.reset : Latched :=
  { divider := 4, mask := 0xFFFF, code0 := 2380, code1 := 2380, blank0 := false, blank1 := false }

def Pins.clear : Pins :=
  { view := false, decode := 0, measure := false, readConsole := false, readTether := false }

/-- An EMPTY entry (R63). -/
def Segment.empty : Segment :=
  { state := .empty, owner := none, chain := [], burstChain := 0, trimmed := 0, start := 0, stop := 0,
    trigger := none, reason := none, order := 0, index := 0, latched := Latched.reset, losses := 0, kept := false,
    pins := Pins.clear }

def BlockRec.blank : BlockRec := { next := none, base := 0, used := 0 }

def Store.reset : Store :=
  { freeList := List.range 512, blocks := List.replicate 512 BlockRec.blank, segs := List.replicate 16 Segment.empty,
    sealCounter := 0, low := 32, armed := true, available := false, mem := [] }

def MemCtl.reset : MemCtl :=
  { st := .initialising, init := .notStarted, banks := List.replicate 4 .idle, debt := 0, phase := 0, last := .tether,
    lastSlot := 3, flight := none, remainders := [] }

def Walk.reset : Walk := { cur := 0, decoding := false, lossFrom := none, known := 0, last := none, proto := .none }

/-- A FREE slot (R105). -/
def Slot.empty : Slot :=
  { state := .free, starter := none, proto := none, source := none, quota := 0, tag := none,
    reading := none, period := none, walk := Walk.reset, queue := [], level := 0, drops := 0, fullNotice := false,
    cause := none, truncation := none, joinNext := false }

def Measure.reset : Measure :=
  { st := .empty, port := .console, seg := 0, a := 0, b := 0, mask := 0, pos := none, place := 0, time := 0,
    cur := none, acct := 0, edges := List.replicate 16 0, high := List.replicate 16 0, unknown := 0,
    result := none }

def View.reset : View := { seg := .follow, t0 := 0, scale := 2560, follow := true, setter := none }

/-- The reset layout: 16 channel rows of 15 lines, colour 2 for channels 0 to 7 and 4 for the rest (R149). -/
def layoutReset : List Row :=
  (List.range 16).map fun k => { kind := .channel k, height := 15, colour := if k < 8 then 2 else 4 }

/-- The reset palette (R150). -/
def paletteReset : List Half := [0x0000, 0x7BEF, 0x07E0, 0xFFE0, 0x07FF, 0xF81F, 0xF800, 0x001F]

def Latch.reset : Latch :=
  { seg := none, start := 0, stop := 0, t0 := 0, scale := 2560, layout := layoutReset, palette := paletteReset,
    cursorA := none, cursorB := none }

/-- The walk of a list begins at its head (R138). -/
def NoteWalk.head : NoteWalk := { cursor := 0, passed := false, selected := [] }

def Reader.reset : Reader :=
  { done := true, pos := none, place := 0, time := 0, recs := [], frozen := [], frameStart := 0,
    walks := List.replicate 4 NoteWalk.head }

/-- The trace table after a full reset: OUTSIDE in the rows of the reset layout, NONE elsewhere (R166). -/
def traceReset : List (List Cell) :=
  List.replicate 16 (List.replicate 300 .outside) ++ List.replicate 4 (List.replicate 300 .none)

def Render.reset : Render :=
  { view := View.reset, layout := layoutReset, palette := paletteReset, cursorA := none, cursorB := none, divider := 2,
    liveCount := 0, frame := .idle, again := false, latch := Latch.reset, reader := Reader.reset, drawnA := [],
    drawnB := [], trace := traceReset, dirty := [], completed := 0 }

def Panel.reset : Panel :=
  { setup := none, st := .off, dormantSleep := false, teMissing := false, teTimer := false, torn := 0,
    emission := .idle, handOff := [], tornMark := false, leaving := false, remarked := false,
    overlays := List.replicate 4 none, queue := [], bus := .idle, waiting := [], changes := [], out := [] }

/-- The default levels in the fixed order (R200): the first five URGENT, the rest ROUTINE. -/
def levelsDefault : List AlertLevel := List.replicate 5 .urgent ++ List.replicate 10 .routine

def PortState.reset : PortState := { alerts := [], levels := levelsDefault, stream := none }

def Ports.reset : Ports :=
  { claim := none, con := PortState.reset, teth := PortState.reset, conReplies := [], conService := none,
    outFrame := none, attn := false, link := .detached, remoteWake := false, tethReplies := [], tethService := 0,
    resuming := false, vbus := false, conOut := [], tethOut := [] }

def WakeSet.empty : WakeSet :=
  { console := false, tether := false, watch := false, timer := false, charger := false }

def Power.reset : Power :=
  { st := .startup, cause := .powerOn, wake := WakeSet.empty, timer := 0, timerOn := false, reading := none,
    charger := false, low := 3500, cutoff := 3300, lowArmed := true, grace := none, entryStep := .frame,
    pll := .stopped, inReset := true, powerHold := true, tetherReset := false }

/-- The machine right after the full reset of power-on, before reset is released (R204, R205); the input pins
(sense lines, VBUS, charger sense) show nothing attached (log 2). -/
def State.reset : State :=
  { fe := FrontEnd.reset, comp := Compressor.reset, tap := Tap.reset, writer := Writer.reset, seq := Sequencer.reset,
    store := Store.reset, mc := MemCtl.reset, slots := List.replicate 4 Slot.empty, notes := List.replicate 4 [],
    meas := Measure.reset, render := Render.reset, panel := Panel.reset, ports := Ports.reset, power := Power.reset,
    free := 0, pending := [] }

end Sys2Proof.Machine
end

