-- ==== Sys2Proof/Machine/Operands.lean ====
section
/-! DEFINITION. The conversions, clamps and codings of operands and records, as functions of values alone. -/

namespace Sys2Proof.Machine

/-! ## Pods and clock -/

/-- Clamp a threshold request into -3000 to +5000 mV (R5 step 1). -/
def clampThreshold (v : Int) : Int := if v < -3000 then -3000 else if 5000 < v then 5000 else v

/-- The converter code of a threshold request (R5 steps 1 and 2). -/
def thresholdCode (v : Int) : Nat := (((clampThreshold v + 3000) * 4095 + 4000) / 8000).toNat

/-- The effective threshold of a code in mV (R5 step 3). -/
def effectiveThreshold (code : Nat) : Int := ((code * 8000 + 2047) / 4095 : Nat) - 3000

/-- The pod a channel belongs to (00_scope.md, Channels and states). -/
def podOf (channel : Nat) : Nat := if channel < 8 then 0 else 1

/-- The channels of a pod as a mask. -/
def podMask (pod : Nat) : Half := if pod = 0 then 0x00FF else 0xFF00

/-- The divider SET_CLOCK applies (R9 steps 2 and 3). -/
def effectiveDivider (d : Nat) (mask : Half) : Nat :=
  if clampNat 1 1048576 d = 1 ∧ mask &&& 0xFF00 ≠ 0 then 2 else clampNat 1 1048576 d

/-- One comparator under its hysteresis of 100 mV (R7). -/
def comparator (was : Bool) (threshold input : Int) : Bool :=
  if was then !(input < threshold - 50) else threshold + 50 < input

/-- A comparator that has just been powered: its level against the threshold alone (R7). An input that equals the
threshold reads LOW; R7 leaves that open (DESIGN CHOICE, log 47). -/
def comparatorFresh (threshold input : Int) : Bool := threshold < input

/-- A set of channels from a test of each. -/
def channelsWhere (f : Nat → Bool) : Half :=
  (List.range 16).foldl (fun acc k => if f k then acc ||| (1#16 <<< k) else acc) 0

/-- Whether an edge `was → is` matches an edge kind (R15, R127). -/
def edgeMatches (kind : EdgeKind) (was is : Bool) : Bool :=
  match kind with
  | .rise => !was && is
  | .fall => was && !is
  | .either => was != is

/-! ## Trigger ranges -/

def Qualifier.inRange : Qualifier → Bool
  | .none => true
  | .heldAtLeast n => 1 ≤ n && n ≤ 65535
  | .heldLessThan n => 1 ≤ n && n ≤ 65535
  | .unknown _ => false

def Target.inRange : Target → Bool
  | .stage k => k ≤ 3
  | .final => true

/-- The ranges of one stage (R39); a DECODER stage carries the qualifier NONE, and its kind may be any code. -/
def stageInRange (g : Stage) : Bool :=
  (match g.cond with
    | .pattern cs => cs.length = 16 && !cs.contains .unknown
    | .decoder slot _ value mask => slot ≤ 3 && value ≤ 65535 && mask ≤ 65535 && g.qualifier = .none) &&
  Qualifier.inRange g.qualifier && 1 ≤ g.count && g.count ≤ 65535 && Target.inRange g.next &&
  Target.inRange g.timeoutTarget && g.timeout ≤ 4294967295

/-- The ranges of a complete set of arm parameters (R39). -/
def paramsInRange (a : ArmParams) : Bool :=
  a.wPre ≤ 70368744177663 && 1 ≤ a.bPre && a.bPre ≤ 511 && a.pPost ≤ 70368744177663 && a.reclaim ≠ .unknown &&
  1 ≤ a.sequence && a.sequence ≤ 16 && a.stages.length = 4 && a.stages.all stageInRange

/-! ## Records (R17, R213) -/

/-- The code of a seal reason in an END's argument (R17). -/
def SealReason.code : SealReason → Nat
  | .complete => 1 | .halted => 2 | .storeFull => 3 | .ownerLost => 4 | .power => 5 | .timeLimit => 6

def MarkKind.code : MarkKind → Nat
  | .lossBegin => 0 | .lossEnd => 1 | .podLost => 2 | .stop => 3

def MarkKind.ofCode : Nat → MarkKind
  | 0 => .lossBegin | 1 => .lossEnd | 2 => .podLost | _ => .stop

/-- The record word (R213): kind in bits 31-30. -/
def Record.word : Record → Word
  | .base lossOpen st => BitVec.ofNat 32 ((if lossOpen then 536870912 else 0) + st.toNat)
  | .trans delta st => BitVec.ofNat 32 (1073741824 + delta * 65536 + st.toNat)
  | .extend delta => BitVec.ofNat 32 (2147483648 + delta)
  | .mark delta sub arg => BitVec.ofNat 32 (3221225472 + delta * 65536 + sub.code * 16384 + arg)

/-- The record a word carries (R213). Reserved fields are ignored: the part's readers meet only words its writer
formed (R219). -/
def Record.ofWord (w : Word) : Record :=
  let n := w.toNat
  if n / 1073741824 = 0 then .base (n / 536870912 % 2 = 1) (BitVec.ofNat 16 n)
  else if n / 1073741824 = 1 then .trans (n / 65536 % 16384) (BitVec.ofNat 16 n)
  else if n / 1073741824 = 2 then .extend (n % 1073741824)
  else .mark (n / 65536 % 16384) (MarkKind.ofCode (n / 16384 % 4)) (n % 4096)

/-- A record's delta; a BASE's is 0 (R17). -/
def Record.delta : Record → Nat
  | .base _ _ => 0
  | .trans d _ => d
  | .extend d => d
  | .mark d _ _ => d

/-- The fields of the record lie in the ranges of R17. -/
def Record.inRange : Record → Bool
  | .base _ _ => true
  | .trans d _ => 1 ≤ d && d ≤ Config.maxDelta
  | .extend d => 1 ≤ d && d ≤ Config.maxExtend
  | .mark d _ arg => d ≤ Config.maxDelta && arg ≤ 4095

/-- The EXTENDs the gap arithmetic writes before a record whose gap is `g`, and the gap left for the record
(R18); `fuel` bounds their number. -/
def gapExtends : Nat → Nat → List Record × Nat
  | 0, g => ([], g)
  | fuel + 1, g =>
    if g ≤ Config.maxDelta then ([], g)
    else
      let e := min (g - 1) Config.maxExtend
      let r := gapExtends fuel (g - e)
      (.extend e :: r.1, r.2)

/-- The records of an event: the EXTENDs that gap `g` needs, then `mk` with the remaining gap (R18). -/
def placeRecord (g : Nat) (mk : Nat → Record) : List Record :=
  let r := gapExtends (g / Config.maxExtend + 2) g
  r.1 ++ [mk r.2]

/-- Records with their times, from the time of the record before them. -/
def timeRecords : Nat → List Record → List TimedRec
  | _, [] => []
  | t, r :: rs => { time := t + r.delta, item := r } :: timeRecords (t + r.delta) rs

/-! ## Decoder parameters -/

/-- The bit period P of a UART slot in 1/256 tick (R108), halves kept exact. -/
def uartPeriod (divider baud : Nat) : Nat := (204800000000 + divider * baud) / (2 * (divider * baud))

def distinct (l : List Nat) : Bool := l.Nodup

/-- The ranges of a protocol's parameters and channel assignment, without the period (R106 check 3, R119, R122,
R125, R127). -/
def protocolInRange : Protocol → Bool
  | .uart c => c.rx ≤ 15 && 5 ≤ c.dataBits && c.dataBits ≤ 9 && 1 ≤ c.stopBits && c.stopBits ≤ 2 && 50 ≤ c.baud &&
      c.baud ≤ 25000000
  | .spi c =>
      let chans := [c.clock, c.mosi] ++ c.select.toList ++ c.miso.toList
      chans.all (· ≤ 15) && distinct chans && 4 ≤ c.wordLength && c.wordLength ≤ 16 && c.gapTimeout ≤ 4294967295
  | .i2c c => c.scl ≤ 15 && c.sda ≤ 15 && c.scl ≠ c.sda
  | .strobed c =>
      1 ≤ c.data.length && c.data.length ≤ 8 && (c.strobe :: c.data).all (· ≤ 15) && distinct (c.strobe :: c.data)
  | .unknown _ => false

/-! ## Power -/

/-- The effective LOW threshold (R209 step 1). -/
def effectiveLow (low : Nat) : Nat := clampNat 3100 4200 low

/-- The effective CUTOFF threshold (R209 steps 2 and 3). -/
def effectiveCutoff (low cutoff : Nat) : Nat := min (clampNat 3000 4200 cutoff) (effectiveLow low - 100)

/-! ## Codes of the formats chapter -/

/-- Status codes (R214). -/
def Status.code : Status → Nat
  | .ok => 0 | .accepted => 1 | .badForm => 2 | .noClaim => 3 | .heldElsewhere => 4 | .wrongState => 5
  | .noSuch => 6 | .noRoom => 7 | .outOfRange => 8 | .foreign => 9

/-- A kind's place in the fixed order, 1 to 15 (R200, R215). -/
def AlertKind.place : AlertKind → Nat
  | .triggered => 1 | .sealed => 2 | .batteryCutoff => 3 | .batteryLow => 4 | .charqFull => 5 | .segmentGone => 6
  | .loss => 7 | .podChange => 8 | .decodeDone => 9 | .charqLevel => 10 | .measureDone => 11 | .claimChange => 12
  | .storeLow => 13 | .panelEvent => 14 | .woken => 15

/-- Level codes (R214). -/
def AlertLevel.code : AlertLevel → Nat
  | .off => 0 | .routine => 1 | .urgent => 2

/-- The level a code names, if any (R214). -/
def AlertLevel.ofCode : Nat → Option AlertLevel
  | 0 => some .off | 1 => some .routine | 2 => some .urgent | _ => none

/-- CLAIM_CHANGE's argument (R215). -/
def claimArg : Option Port → Nat
  | none => 0 | some .console => 1 | some .tether => 2

/-- WOKEN's argument (R215). -/
def WakeSet.arg (w : WakeSet) : Nat :=
  w.console.toNat + 2 * w.tether.toNat + 4 * w.watch.toNat + 8 * w.timer.toNat + 16 * w.charger.toNat

def WakeSet.any (w : WakeSet) : Bool := w.console || w.tether || w.watch || w.timer || w.charger

/-- The other port. -/
def other : Port → Port
  | .console => .tether
  | .tether => .console

end Sys2Proof.Machine

namespace Sys2Proof

/-- RECLAIM is on (R39). -/
def ArmParams.reclaims (a : ArmParams) : Bool := a.reclaim = .on

/-- The requests that need the acquisition claim checked before their own rule (R193). -/
def Request.needsClaim : Request → Bool
  | .setPods .. | .setClock .. | .setWatch .. | .loadTrigger .. | .arm | .force | .halt | .setStoreLow .. => true
  | _ => false

/-- The requests answered at their taking even while a console request is in service (R188) and in ENTRY (R207). -/
def Request.alwaysServed : Request → Bool
  | .status _ | .panelStatus | .powerStatus => true
  | _ => false

end Sys2Proof
end

