-- ==== Sys2Proof/Machine/Ops.lean ====
section
/-! DEFINITION. The named operations every block shares: the SDRAM's bytes, entries of the tables, alerts,
replies, annotation lists and cursors, readout-stream packets, and the capture store's own operations. -/

namespace Sys2Proof.Machine

/-! ## The SDRAM (R87) -/

/-- The byte at an address; an unlisted address reads as 0 (log 1). -/
def Memory.read : Memory → Nat → Byte
  | [], _ => 0
  | (k, v) :: r, a => if k = a then v else Memory.read r a

/-- Write one byte, keeping the canonical form: writing 0 removes the entry. -/
def Memory.write : Memory → Nat → Byte → Memory
  | [], a, v => if v = 0 then [] else [(a, v)]
  | (k, w) :: r, a, v =>
    if a < k then (if v = 0 then (k, w) :: r else (a, v) :: (k, w) :: r)
    else if a = k then (if v = 0 then r else (a, v) :: r)
    else (k, w) :: Memory.write r a v

/-- The addresses of `m` rise strictly from `lo` on and no entry is 0. -/
def Memory.wfFrom : Nat → Memory → Bool
  | _, [] => true
  | lo, (k, v) :: r => lo ≤ k && v ≠ 0 && Memory.wfFrom (k + 1) r

/-- The canonical form of the SDRAM's bytes. -/
def Memory.wf (m : Memory) : Bool := Memory.wfFrom 0 m

/-- The halfword at halfword address `h` (R87). -/
def readHalf (m : Memory) (h : Nat) : Half := Memory.read m (2 * h + 1) ++ Memory.read m (2 * h)

def writeHalf (m : Memory) (h : Nat) (v : Half) : Memory :=
  Memory.write (Memory.write m (2 * h) (v.extractLsb' 0 8)) (2 * h + 1) (v.extractLsb' 8 8)

/-- The halfword address of record place `p` of block `b` (R87). -/
def placeHalf (b p : Nat) : Nat := 32768 * b + 2 * p

/-- Write a record word into a place, the lower half at the lower address (R87, R212). -/
def writeWord (m : Memory) (b p : Nat) (w : Word) : Memory :=
  writeHalf (writeHalf m (placeHalf b p) (w.extractLsb' 0 16)) (placeHalf b p + 1) (w.extractLsb' 16 16)

def readWord (m : Memory) (b p : Nat) : Word := readHalf m (placeHalf b p + 1) ++ readHalf m (placeHalf b p)

/-- Write words into consecutive places. -/
def writeWords : Memory → Nat → Nat → List Word → Memory
  | m, _, _, [] => m
  | m, b, p, w :: ws => writeWords (writeWord m b p w) b (p + 1) ws

/-- The column, bank and row of a halfword address (R87). -/
def columnAt (h : Nat) : Nat := h % 512
def bankAt (h : Nat) : Nat := h / 512 % 4
def rowAtHalf (h : Nat) : Nat := h / 2048

/-- The bank and row of record place `p` of block `b`, and its first column; the second half lies in the next
(R87). -/
def bankOf (p : Nat) : Nat := p / 256 % 4
def rowOf (b p : Nat) : Nat := 16 * b + p / 1024
def columnOf (p : Nat) : Nat := 2 * (p % 256)

/-! ## Reading and updating the parts of State -/

def FrontEnd.pod (f : FrontEnd) (n : Nat) : Pod := if n = 0 then f.pod0 else f.pod1

def FrontEnd.setPod (f : FrontEnd) (n : Nat) (p : Pod) : FrontEnd :=
  if n = 0 then { f with pod0 := p } else { f with pod1 := p }

def PodReport.of (p : Pod) : PodReport :=
  { effective := effectiveThreshold p.code, present := p.present, blanked := p.blanked }

def State.seg (s : State) (n : Nat) : Segment := s.store.segs.getD n Segment.empty

def State.setSeg (s : State) (n : Nat) (e : Segment) : State :=
  { s with store := { s.store with segs := s.store.segs.set n e } }

def State.slot (s : State) (n : Nat) : Slot := s.slots.getD n Slot.empty

def State.setSlot (s : State) (n : Nat) (k : Slot) : State := { s with slots := s.slots.set n k }

def State.notesOf (s : State) (n : Nat) : List Note := s.notes.getD n []

def Store.block (st : Store) (b : Nat) : BlockRec := st.blocks.getD b BlockRec.blank

def Ports.port (q : Ports) : Port → PortState
  | .console => q.con
  | .tether => q.teth

def Ports.setPort (q : Ports) (p : Port) (x : PortState) : Ports :=
  match p with
  | .console => { q with con := x }
  | .tether => { q with teth := x }

def Pins.any (p : Pins) : Bool := p.view || p.decode ≠ 0 || p.measure || p.readConsole || p.readTether

/-- The compressor takes samples (R4). -/
def AcqState.sampling : AcqState → Bool
  | .priming => true
  | .hunting _ => true
  | .postfill => true
  | .idle => false
  | .draining => false

/-- A slot decoding live. -/
def Slot.live (k : Slot) : Bool := k.state = .running && k.source = some .live

/-- A slot decoding from the store. -/
def Slot.offline (k : Slot) : Bool := k.state = .running && k.source ≠ some .live

/-- The live RUNNING slots. -/
def State.liveSlots (s : State) : List Nat := (List.range 4).filter fun n => (s.slot n).live

/-- The tap is active while a live slot is RUNNING (R34). -/
def State.tapActive (s : State) : Bool := (s.liveSlots).length ≠ 0

/-- The sample clock runs: the PLL is locked and the part is in RUN or ENTRY (R8). -/
def State.clocked (s : State) : Bool := s.power.pll = .locked && (s.power.st = .run || s.power.st = .entry)

/-- The quotas of all non-FREE slots (R106, R132). -/
def State.quotas (s : State) : Nat := (s.slots.map fun k => if k.state = .free then 0 else k.quota).sum

/-! ## Alerts (R190, R192, R200) -/

def AlertKind.before (a b : AlertKind) : Bool := a.place < b.place

/-- Record a kind: a new entry in its place of the fixed order, or a count raised and the argument replaced. -/
def recordAlert (k : AlertKind) (arg : Nat) : List Alert → List Alert
  | [] => [{ kind := k, count := 1, arg := arg }]
  | a :: r =>
    if a.kind = k then { kind := k, count := satSucc 255 a.count, arg := arg } :: r
    else if k.before a.kind then { kind := k, count := 1, arg := arg } :: a :: r
    else a :: recordAlert k arg r

def PortState.level (q : PortState) (k : AlertKind) : AlertLevel := q.levels.getD (k.place - 1) .off

/-- A raising to one port (R200): nothing at level OFF. -/
def PortState.raised (q : PortState) (k : AlertKind) (arg : Nat) : PortState :=
  if q.level k = .off then q else { q with alerts := recordAlert k arg q.alerts }

/-- ATTN is low while the console alert set holds a kind, and high until RUN is first reached (R190). -/
def State.attnNow (s : State) : Bool := s.power.st ≠ .startup && s.ports.con.alerts.length ≠ 0

def State.refreshAttn (s : State) : State := { s with ports := { s.ports with attn := s.attnNow } }

/-- A kind is raised to the console port; ATTN follows the set (R190, R200). -/
def raiseConsole (k : AlertKind) (arg : Nat) (s : State) : State :=
  State.refreshAttn { s with ports := { s.ports with con := s.ports.con.raised k arg } }

/-- A kind is raised to the tether port: an URGENT kind recorded while SUSPENDED with remote wake allowed makes the
part signal resume (R192, R200). -/
def raiseTether (k : AlertKind) (arg : Nat) (s : State) : State :=
  { s with ports := { s.ports with
      teth := s.ports.teth.raised k arg
      resuming := s.ports.resuming ||
        (s.ports.teth.level k = .urgent && s.ports.link = .suspended && s.ports.remoteWake) } }

def raiseTo (p : Port) (k : AlertKind) (arg : Nat) (s : State) : State :=
  match p with
  | .console => raiseConsole k arg s
  | .tether => raiseTether k arg s

/-- A kind is raised to both ports, to each under its own level (R200). -/
def raiseBoth (k : AlertKind) (arg : Nat) (s : State) : State := raiseTether k arg (raiseConsole k arg s)

/-- A kind raised to a slot's starting port. -/
def raiseStarter (slot : Nat) (k : AlertKind) (s : State) : State :=
  match (s.slot slot).starter with
  | some p => raiseTo p k slot s
  | none => s

/-! ## Replies (R188, R191) -/

/-- A reply joins its port's list or queue at the tail. -/
def pushReply (p : Port) (r : Reply) (s : State) : State :=
  match p with
  | .console => { s with ports := { s.ports with conReplies := s.ports.conReplies ++ [r] } }
  | .tether => { s with ports := { s.ports with tethReplies := s.ports.tethReplies ++ [r] } }

/-- Whom a reply goes to: its request's port, kind code and tag (R193). -/
abbrev Asker := Deferred

/-- Answer a request. -/
def answer (q : Asker) (st : Status) (body : ReplyBody) (s : State) : State :=
  pushReply q.port { kind := q.kind, tag := q.tag, status := st, body := body, last := false } s

/-- Refuse a request. -/
def refuse (q : Asker) (st : Status) (s : State) : State := answer q st .none s

/-- A request whose reply is deferred goes into service (R188, R191). -/
def defer (q : Asker) (s : State) : State :=
  match q.port with
  | .console => { s with ports := { s.ports with conService := some q } }
  | .tether => { s with ports := { s.ports with tethService := s.ports.tethService + 1 } }

/-- A deferred reply is formed: its request leaves service. -/
def answerDeferred (q : Asker) (st : Status) (body : ReplyBody) (last : Bool) (s : State) : State :=
  let s := pushReply q.port { kind := q.kind, tag := q.tag, status := st, body := body, last := last } s
  match q.port with
  | .console => { s with ports := { s.ports with conService := none } }
  | .tether => { s with ports := { s.ports with tethService := s.ports.tethService - 1 } }

/-! ## Annotation export and stream headers (R216, R217) -/

/-- An export entry of 20 bytes (R217). -/
def Note.export (e : Note) : List Byte :=
  leBytes 1 e.slot ++ leBytes 1 e.seg ++ leBytes 1 e.kind ++
    leBytes 1 (e.read.toNat + 2 * e.ack.toNat + 4 * e.parityOk.toNat + 8 * e.aux.isSome.toNat) ++
    leBytes 6 e.start ++ leBytes 6 e.stop ++ leBytes 2 e.value ++ leBytes 2 (e.aux.getD 0)

/-- The header of an annotation stream, 20 bytes (R216). -/
def notesHeader (slot seg fromTick toTick max count : Nat) : List Byte :=
  leBytes 1 2 ++ leBytes 1 slot ++ leBytes 1 seg ++ leBytes 1 0 ++ leBytes 6 fromTick ++ leBytes 6 toTick ++
    leBytes 2 max ++ leBytes 2 count

/-- The header of a records stream, 68 bytes (R83, R216). -/
def recordsHeader (seg fromTick toTick pos base count : Nat) (e : Segment) : List Byte :=
  leBytes 1 1 ++ leBytes 1 seg ++ leBytes 6 fromTick ++ leBytes 6 toTick ++ leBytes 4 pos ++ leBytes 6 base ++
    leBytes 4 count ++ leBytes 6 e.start ++ leBytes 6 e.stop ++
    (match e.trigger with
      | none => leBytes 6 0 ++ leBytes 1 0
      | some g => leBytes 6 g.tick ++ leBytes 1 (1 + 2 * g.forced.toNat + 4 * g.clamped.toNat)) ++
    leBytes 1 ((e.reason.map SealReason.code).getD 0) ++ leBytes 4 e.order ++ leBytes 1 e.index ++
    leBytes 3 e.latched.divider ++ leBytes 2 e.latched.mask.toNat ++ leBytes 2 e.latched.code0 ++
    leBytes 2 e.latched.code1 ++ leBytes 1 (e.latched.blank0.toNat + 2 * e.latched.blank1.toNat) ++ leBytes 1 0 ++
    leBytes 2 e.losses ++ leBytes 2 0

/-! ## Walking an annotation list (R138, R140) -/

/-- The entry is selected by a stream (R139). -/
def noteSelected (seg fromTick toTick : Nat) (e : Note) : Bool :=
  e.seg = seg && fromTick ≤ e.start && e.start ≤ toTick

/-- Deliver the next selected entry a cursor reaches: the entry, if there is one, and the cursor after it. -/
def nextNote (pick : Note → Bool) : List Note → Nat → Option Note × Nat
  | [], cursor => (none, cursor)
  | e :: r, cursor => if pick e then (some e, cursor + 1) else nextNote pick r (cursor + 1)

/-- An annotation stream delivers its next entry into `acc`, or ends (R140). -/
def Stream.stepNotes (x : Stream) (list : List Note) (pick : Note → Bool) : Stream :=
  let r := nextNote pick (list.drop x.cursor) x.cursor
  match r.1 with
  | some e =>
    { x with acc := x.acc ++ e.export, cursor := r.2, left := x.left - 1,
             ended := x.left ≤ 1 || list.length ≤ r.2 }
  | none => { x with cursor := r.2, ended := true }

/-- When no selected entry follows, the cursor passes on to the list's end and the stream ends (R140). -/
def Stream.passRest (x : Stream) (list : List Note) (pick : Note → Bool) : Stream :=
  let r := nextNote pick (list.drop x.cursor) x.cursor
  if r.1.isNone then { x with cursor := r.2, ended := true } else x

/-- Walk on while the stream has not ended and fewer than `room` bytes stand in `acc`; `fuel` bounds the entries. -/
def Stream.walkNotes (list : List Note) (pick : Note → Bool) (room : Nat) : Nat → Stream → Stream
  | 0, x => x
  | fuel + 1, x =>
    if x.ended || room ≤ x.acc.length then x else Stream.walkNotes list pick room fuel (x.stepNotes list pick)

/-! ## The tether endpoint's packets (R198) -/

/-- Cut whole packets of 512 bytes while the buffer has room, then the short or empty last one once the run has
ended. -/
def Stream.cutPackets : Nat → Stream → Stream
  | 0, x => x
  | fuel + 1, x =>
    if 2 ≤ x.buffer.length ∨ x.endQueued then x
    else if 512 ≤ x.acc.length then
      Stream.cutPackets fuel { x with acc := x.acc.drop 512, buffer := x.buffer ++ [x.acc.take 512],
                                      delivered := x.delivered + 512 }
    else if x.ended then
      { x with acc := [], buffer := x.buffer ++ [x.acc], delivered := x.delivered + x.acc.length, endQueued := true }
    else x

/-- The tether port's stream runs on as far as its endpoint has room: the header, then entries of an annotation
stream; records come with their bursts. While the link is SUSPENDED it reads no further (R198). -/
def pumpTether (s : State) : State :=
  match s.ports.teth.stream with
  | none => s
  | some x =>
    if s.ports.link ≠ .configured then s
    else
      let x := if x.headerSent then x else { x with headerSent := true, acc := x.header }
      let x := match x.source with
        | .records _ => x
        | .notes k seg f t =>
          if x.cancelled then x
          else Stream.walkNotes (s.notesOf k) (noteSelected seg f t) (512 * (2 - x.buffer.length)) 64 x
      { s with ports := { s.ports with teth := { s.ports.teth with stream := some (Stream.cutPackets 3 x) } } }

/-! ## The renderer's walk of an annotation list (R138, R159, R164) -/

/-- The column edge `L_c` of a frame with start tick `t0` and scale `scale` (R159). -/
def colEdge (t0 scale c : Nat) : Nat := t0 + c * scale / 256

/-- The end `E_c` of column `c`'s span (R159). -/
def colEnd (t0 scale c : Nat) : Nat := max (colEdge t0 scale (c + 1)) (colEdge t0 scale c + 1)

def Latch.edge (l : Latch) (c : Nat) : Nat := colEdge l.t0 l.scale c
def Latch.colEnd (l : Latch) (c : Nat) : Nat := Machine.colEnd l.t0 l.scale c

/-- The entry is selected: it names the latched segment and meets the view (R164). -/
def Latch.selects (l : Latch) (e : Note) : Bool :=
  l.seg = some e.seg && e.start < l.colEnd 299 && l.edge 0 < e.stop

/-- Examine up to `n` more entries of a list, and then that the list has ended (R138, R164). -/
def NoteWalk.examine (l : Latch) (list : List Note) : Nat → NoteWalk → NoteWalk
  | 0, w => w
  | n + 1, w =>
    if w.passed then w
    else
      match list[w.cursor]? with
      | none => { w with passed := true }
      | some e => NoteWalk.examine l list n
          { w with cursor := w.cursor + 1, selected := if l.selects e then w.selected ++ [e] else w.selected }

/-- The renderer's walk of slot `k`'s list (R138). -/
def State.walkOf (s : State) (k : Nat) : NoteWalk := s.render.reader.walks.getD k NoteWalk.head

/-- Slot `k`'s list is about to change: during CLASSIFY the renderer has come on a free number of entries by then, and
`move` keeps its cursor good over the change (R138, R164; log 59). -/
def keepWalk (k : Nat) (move : NoteWalk → NoteWalk) (s : State) : State :=
  if s.render.frame = .classifying then
    let w := move (NoteWalk.examine s.render.latch (s.notesOf k) (Config.examined s.free) (s.walkOf k))
    let d := { s.render.reader with walks := s.render.reader.walks.set k w }
    { s with free := s.free + 1, render := { s.render with reader := d } }
  else s

/-! ## Removing annotations (R136 to R138) -/

/-- A stream's cursor stays good while entries leave its list, and the stream ends when its cursor comes to stand at
the list's end (R138, R140). -/
def Stream.afterRemoval (x : Stream) (slot : Nat) (list : List Note) (keep : Note → Bool) : Stream :=
  match x.source with
  | .records _ => x
  | .notes k _ _ _ =>
    if k = slot then
      let c := ((list.take x.cursor).filter keep).length
      { x with cursor := c, ended := x.ended || (list.filter keep).length ≤ c }
    else x

/-- Remove from slot `k`'s list the entries `keep` does not hold of. -/
def removeNotes (k : Nat) (keep : Note → Bool) (s : State) : State :=
  let list := s.notesOf k
  let s := keepWalk k (fun w => { w with cursor := ((list.take w.cursor).filter keep).length }) s
  let f := fun (q : PortState) => { q with stream := q.stream.map fun x => x.afterRemoval k list keep }
  { s with notes := s.notes.set k (list.filter keep)
           ports := { s.ports with con := f s.ports.con, teth := f s.ports.teth } }

/-- The purge of a segment that becomes EMPTY: its entries leave all four lists (R136). -/
def purgeSegment (n : Nat) (s : State) : State :=
  let keep := fun (e : Note) => e.seg ≠ n
  pumpTether (removeNotes 3 keep (removeNotes 2 keep (removeNotes 1 keep (removeNotes 0 keep s))))

/-- A stream that reads a slot ends when the slot becomes FREE (R140). -/
def Stream.endedFor (x : Stream) (slot : Nat) : Stream :=
  match x.source with
  | .records _ => x
  | .notes k _ _ _ => if k = slot then { x with ended := true } else x

/-- The purge of a slot that becomes FREE (R137). -/
def purgeSlot (k : Nat) (s : State) : State :=
  let s := keepWalk k (fun w => { w with cursor := 0 }) s
  let f := fun (q : PortState) => { q with stream := q.stream.map fun x => x.endedFor k }
  pumpTether { s with notes := s.notes.set k []
                      ports := { s.ports with con := f s.ports.con, teth := f s.ports.teth } }

/-! ## Withdrawing bursts (R95, R101) -/

/-- A requester stops wanting bursts: a remainder it held is withdrawn, and the halfwords of a burst in flight will be
discarded. Its other pending burst is what its read position wants, so it goes with the want. For the decoder reader
`slot` names the slot; the other requesters have slot 0. -/
def withdraw (q : Requester) (slot : Nat) (s : State) : State :=
  { s with mc := { s.mc with
      remainders := s.mc.remainders.filter fun r => !(r.req = q && r.slot = slot)
      flight := match s.mc.flight with
        | some (.read b) => if b.req = q ∧ b.slot = slot then some (.read { b with discard := true }) else s.mc.flight
        | x => x } }

/-! ## The capture store -/

def Store.freeCount (st : Store) : Nat := st.freeList.length

/-- The STORE_LOW test (R80). -/
def storeLowTest (s : State) : State :=
  if s.store.armed then
    if s.store.freeCount < s.store.low then
      raiseBoth .storeLow s.store.freeCount { s with store := { s.store with armed := false } }
    else s
  else if s.store.low ≤ s.store.freeCount then { s with store := { s.store with armed := true } }
  else s

/-- Tags and tap entries forget a freed segment (R109; log 23). -/
def forgetSegment (n : Nat) (s : State) : State :=
  { s with slots := s.slots.map fun k => if k.live && k.tag = some n then { k with tag := none } else k
           tap := { s.tap with entries := s.tap.entries.map fun e => if e.seg = some n then { e with seg := none } else e
                               heldEnd := s.tap.heldEnd.map fun h => if h.seg = some n then { h with seg := none } else h } }

/-- A segment becomes EMPTY (R64): its blocks join the free-list tail in chain order, its annotations are purged,
SEGMENT_GONE is raised, the STORE_LOW test is made. -/
def freeSegment (n : Nat) (s : State) : State :=
  let chain := (s.seg n).chain
  let s := { s with store := { s.store with freeList := s.store.freeList ++ chain,
                                            segs := s.store.segs.set n Segment.empty } }
  storeLowTest (raiseBoth .segmentGone n (forgetSegment n (purgeSegment n s)))

/-- Change a segment's pin set; a RELEASING segment whose set empties is freed (R76). -/
def dropPin (n : Nat) (f : Pins → Pins) (s : State) : State :=
  let e := s.seg n
  let s := s.setSeg n { e with pins := f e.pins }
  if e.state = .releasing && !(f e.pins).any then freeSegment n s else s

def addPin (n : Nat) (f : Pins → Pins) (s : State) : State :=
  let e := s.seg n
  s.setSeg n { e with pins := f e.pins }

/-- Eligible for reclaim (R65). -/
def Segment.eligible (e : Segment) : Bool := e.state = .sealed && !e.kept && !e.pins.any

/-- The number of the segment `better` prefers among those `ok` holds of, lower numbers first. -/
def bestSegment (ok : Segment → Bool) (better : Segment → Segment → Bool) : List Segment → Nat → Option (Nat × Segment)
  | [], _ => none
  | e :: r, n =>
    match bestSegment ok better r (n + 1) with
    | none => if ok e then some (n, e) else none
    | some (m, b) => if ok e && !better b e then some (n, e) else some (m, b)

/-- The oldest eligible segment: smallest seal order, then lowest number (R65). -/
def State.oldestEligible (s : State) : Option Nat :=
  (bestSegment Segment.eligible (fun a b => a.order < b.order) s.store.segs 0).map (·.1)

/-- The FILLING entry, if any (R38). -/
def State.filling (s : State) : Option Nat :=
  (bestSegment (fun e => e.state = .filling) (fun _ _ => false) s.store.segs 0).map (·.1)

/-- The lowest-numbered EMPTY entry (R66). -/
def State.lowestEmpty (s : State) : Option Nat :=
  (bestSegment (fun e => e.state = .empty) (fun _ _ => false) s.store.segs 0).map (·.1)

/-- The blocks reclaiming could give (R66). -/
def State.eligibleBlocks (s : State) : Nat :=
  (s.store.segs.map fun e => if e.eligible then e.chain.length else 0).sum

/-- Can the store give an entry and room (R66)? -/
def State.hasRoom (s : State) : Bool :=
  let r := s.seq.params.reclaims
  (s.lowestEmpty.isSome || (r && s.oldestEligible.isSome)) &&
    2 ≤ s.store.freeCount + (if r then s.eligibleBlocks else 0)

/-- Reclaim, oldest first, while no entry is EMPTY or fewer than two blocks are free (R66). -/
def reclaimForArm : Nat → State → State
  | 0, s => s
  | fuel + 1, s =>
    if s.lowestEmpty.isSome && 2 ≤ s.store.freeCount then s
    else
      match s.oldestEligible with
      | some n => reclaimForArm fuel (freeSegment n s)
      | none => s

/-- Trim the oldest block of a FILLING segment (R69). -/
def trimSegment (n : Nat) (s : State) : State :=
  let e := s.seg n
  match e.chain with
  | b :: c :: r =>
    { s with store := { s.store with
        freeList := s.store.freeList ++ [b]
        segs := s.store.segs.set n { e with chain := c :: r, trimmed := e.trimmed + 1, start := (s.store.block c).base } } }
  | _ => s

/-- Take the free-list head as the next block of a chain whose last block ends at `base` (R30, R62). -/
def takeBlock (n base : Nat) (s : State) : State × Option Nat :=
  match s.store.freeList with
  | [] => (s, none)
  | b :: rest =>
    let e := s.seg n
    let blocks := match e.chain.getLast? with
      | some l => s.store.blocks.set l { s.store.block l with next := some b }
      | none => s.store.blocks
    ({ s with store := { s.store with
        freeList := rest
        blocks := blocks.set b { next := none, base := base, used := 0 }
        segs := s.store.segs.set n { e with chain := e.chain ++ [b] } } }, some b)

/-- The answer to the writer's block request (R68 before the trigger, R70 after). -/
def requestBlock (n base : Nat) (s : State) : State × Option Nat :=
  let e := s.seg n
  let s :=
    if e.trigger = none ∧ (s.seq.params.bPre + 1 ≤ e.chain.length ∨ (s.store.freeList = [] ∧ 2 ≤ e.chain.length)) then
      trimSegment n s
    else s
  let r := takeBlock n base s
  (storeLowTest r.1, r.2)

/-- The last position of a chain (R62). -/
def Segment.lastPos (e : Segment) : Nat := e.trimmed + e.chain.length - 1

/-- The block at a chain position (R62). -/
def Segment.blockAt (e : Segment) (pos : Nat) : Nat := e.chain.getD (pos - e.trimmed) 0

/-- The position of the last block of the chain whose base tick is at or below `t`, or the first retained one
(R83, R107). -/
def posAtOrBelow (st : Store) (t : Nat) : List Nat → Nat → Nat → Nat
  | [], _, best => best
  | b :: r, pos, best => posAtOrBelow st t r (pos + 1) (if (st.block b).base ≤ t then pos else best)

def State.firstPos (s : State) (n t : Nat) : Nat :=
  let e := s.seg n
  posAtOrBelow s.store t e.chain e.trimmed e.trimmed

/-- The records of `k` places of block `b` from place `p`. -/
def readRecords (m : Memory) (b p : Nat) : Nat → List Record
  | 0 => []
  | k + 1 => Record.ofWord (readWord m b p) :: readRecords m b (p + 1) k

/-- The records of a list of blocks, each up to its records used. -/
def chainRecords (st : Store) : List Nat → List Record
  | [] => []
  | b :: r => readRecords st.mem b 0 (st.block b).used ++ chainRecords st r

/-- How many records from the head have times at or below `t`. -/
def countUpTo (t : Nat) : List TimedRec → Nat
  | [] => 0
  | r :: rs => if r.time ≤ t then countUpTo t rs + 1 else 0

/-- The number of records a stream from chain position `pos` up to tick `t` delivers (R82, R83). -/
def State.streamCount (s : State) (n pos t : Nat) : Nat :=
  let e := s.seg n
  let blocks := e.chain.drop (pos - e.trimmed)
  countUpTo t (timeRecords (s.store.block (e.blockAt pos)).base (chainRecords s.store blocks))

end Sys2Proof.Machine
end

