-- ==== Sys2Proof/Machine/Capture.lean ====
section
/-! DEFINITION. The capture path's shared operations: the delivered state, events of the staging and tap streams,
loss intervals and tap gaps, the capture writer's blocks (R7, R10, R18 to R37). -/

namespace Sys2Proof.Machine

/-! ## Comparators and the delivered state -/

/-- The comparator levels under the input voltages `v`, channel by channel (R7). A channel of an unpowered pod keeps
its level; an input not given rests at 0 mV (01, the note after R4). -/
def FrontEnd.compare (f : FrontEnd) (v : List Int) : FrontEnd :=
  { f with levels := channelsWhere fun k =>
      let p := f.pod (podOf k)
      if p.powered then comparator (f.levels.getLsbD k) (effectiveThreshold p.code) (v.getD k 0)
      else f.levels.getLsbD k }

/-- The comparators of pods just powered begin at the level their input gives against the threshold alone (R7). -/
def FrontEnd.powerUp (f : FrontEnd) (v : List Int) : FrontEnd :=
  { f with
    pod0 := { f.pod0 with powered := true }
    pod1 := { f.pod1 with powered := true }
    levels := channelsWhere fun k =>
      let p := f.pod (podOf k)
      if p.powered then comparator (f.levels.getLsbD k) (effectiveThreshold p.code) (v.getD k 0)
      else comparatorFresh (effectiveThreshold p.code) (v.getD k 0) }

/-- The channels forced LOW by blanking, cleared from a state (R3, R10). -/
def FrontEnd.blank (f : FrontEnd) (st : Half) : Half :=
  let st := if f.pod0.blanked then st &&& ~~~(podMask 0) else st
  if f.pod1.blanked then st &&& ~~~(podMask 1) else st

/-- The state delivered for the current tick: the comparator levels of the latched mask's channels, blanked pods
LOW (R10). -/
def State.delivered (s : State) : Half :=
  let mask := match s.seq.seg with
    | some n => (s.seg n).latched.mask
    | none => s.fe.mask
  s.fe.blank (s.fe.levels &&& mask)

/-! ## The staging stream (R18, R24 to R27) -/

/-- Offer an event of the staging stream at tick `t`: `mk` makes its record from the gap left, `lost` is what a
drop of it adds to the lost count. Accepted up to level 1022 (R24); refused it opens a loss interval (R25); while
one is open it is dropped and counted (R26). -/
def offerStaging (t : Nat) (mk : Nat → Record) (lost : Nat) (c : Compressor) : Compressor :=
  if c.lossOpen then { c with lostCount := min 4095 (c.lostCount + lost) }
  else
    let ev := placeRecord (t - c.stagingTime) mk
    if c.staging.length + ev.length ≤ Config.stagingAccept then
      { c with staging := c.staging ++ ev, stagingTime := t }
    else
      { c with lossOpen := true, lostCount := lost, stagingTime := t,
               staging := c.staging ++ placeRecord (t - c.stagingTime) (fun d => .mark d .lossBegin 0) }

/-- The records that close a loss interval at `t` before the last one: the EXTENDs and the LOSS_END (R27). -/
def closingRecords (c : Compressor) (t lost : Nat) : List Record :=
  placeRecord (t - c.stagingTime) fun d => .mark d .lossEnd lost

/-- A loss interval can close at tick `t`: level 512 or less, and the closing records with one more fit (R27, R31).
It does not close at
the tick it opened at, though the level may have fallen to 512 within it, so an interval lasts at least one tick (DESIGN
CHOICE, log 63). -/
def canCloseLoss (c : Compressor) (t lost : Nat) : Bool :=
  c.lossOpen && c.stagingTime < t && c.staging.length ≤ Config.lossCloseLevel &&
    c.staging.length + (closingRecords c t lost).length + 1 ≤ Config.stagingDepth

/-- Close the loss interval at tick `t` with `final` after the LOSS_END (R27, R31). -/
def closeLoss (c : Compressor) (t lost : Nat) (final : Record) : Compressor :=
  { c with staging := c.staging ++ closingRecords c t lost ++ [final], stagingTime := t, lossOpen := false,
           lostCount := 0, heldEnd := false }

/-- A close raises LOSS and counts the interval (R27). -/
def noteLoss (s : State) : State :=
  match s.seq.seg with
  | some n =>
    let e := s.seg n
    raiseBoth .loss n (s.setSeg n { e with losses := satSucc 65535 e.losses })
  | none => s

/-- Offer the POD_LOST of each pod to the staging stream (R23). -/
def offerPods (t : Nat) : List Nat → Compressor → Compressor
  | [], c => c
  | p :: r, c => offerPods t r (offerStaging t (fun d => .mark d .podLost p) 1 c)

/-- The staging stream at tick `t`, for which state `st` is delivered (R22, R23, R26, R27). -/
def stageTick (t : Nat) (st : Half) (pods : List Nat) (s : State) : State :=
  let c := { s.comp with tickBefore := s.comp.lostCount, tickLost := pods }
  if canCloseLoss c t c.lostCount then
    noteLoss { s with comp := offerPods t pods (closeLoss c t c.lostCount (.base false st)) }
  else
    let c := if st ≠ c.last then offerStaging t (fun d => .trans d st) 1 c else c
    { s with comp := offerPods t pods c }

/-- LOSS_CLOSE within the current tick, after the compressor has taken it: what the tick dropped is not counted, for
the closing BASE stands for it (R27). -/
def closeLossNow (s : State) : State :=
  if s.seq.acq.sampling && canCloseLoss s.comp s.fe.tick s.comp.tickBefore then
    let c := closeLoss s.comp s.fe.tick s.comp.tickBefore (.base false s.comp.last)
    noteLoss { s with comp := offerPods s.fe.tick s.comp.tickLost c }
  else s

/-- The END of the staging stream at stop tick `t` (R31): queued without the test, or held while a loss interval is
open. -/
def endStaging (t : Nat) (reason : SealReason) (c : Compressor) : Compressor :=
  if c.lossOpen then { c with heldEnd := true }
  else { c with staging := c.staging ++ placeRecord (t - c.stagingTime) (fun d => .mark d .stop reason.code),
                stagingTime := t }

/-- A held END is queued with its LOSS_END when the level allows (R31). -/
def closeHeldEnd (s : State) : State :=
  match s.seq.stopTick, s.seq.reason with
  | some t, some reason =>
    if s.comp.heldEnd && canCloseLoss s.comp t s.comp.lostCount then
      noteLoss { s with comp := closeLoss s.comp t s.comp.lostCount (.mark 0 .stop reason.code) }
    else s
  | _, _ => s

/-! ## The tap stream (R33 to R37) -/

/-- The slots that owe the entries of the tap stream now: live RUNNING slots that neither await a joining BASE nor
the next arm BASE (R34, R35). -/
def State.owers (s : State) : List Nat :=
  s.liveSlots.filter fun n => !(s.tap.joining.contains n) && !(s.slot n).joinNext

/-- The slots that owe the entries that close a gap, and an END (R34, R37): every live RUNNING slot but one started in
this DRAINING, which owes nothing of the draining segment (R34, R107), also where a held END closes the gap
(DESIGN CHOICE, log 49). -/
def State.allOwers (s : State) : List Nat := s.liveSlots.filter fun n => !(s.slot n).joinNext

/-- Entries of records entered now, with the segment FILLING and its latched D (R108, R109). -/
def State.entriesOf (s : State) (rs : List TimedRec) (gap : Bool) (owed : List Nat) : List TapEntry :=
  if owed.length = 0 then []
  else rs.map fun r =>
    { item := r.item, time := r.time, gap := gap, owed := owed, seg := s.seq.seg,
      divider := match s.seq.seg with
        | some n => (s.seg n).latched.divider
        | none => s.fe.divider }

/-- An event of the tap stream at tick `t` (R35): entered when it fits, else it opens a gap (R37); dropped while a gap
is open. An event no slot owes takes no place. The tap time advances in every case. -/
def tapEvent (t : Nat) (mk : Nat → Record) (owed : List Nat) (s : State) : State :=
  if s.tapActive then
    let evs := timeRecords s.comp.tapTime (placeRecord (t - s.comp.tapTime) mk)
    let s' := { s with comp := { s.comp with tapTime := t } }
    if s.tap.gapOpen then s'
    else if owed.length = 0 ∨ s.tap.entries.length + evs.length ≤ Config.tapDepth then
      { s' with tap := { s.tap with entries := s.tap.entries ++ s.entriesOf evs false owed } }
    else { s' with tap := { s.tap with gapOpen := true } }
  else s

/-- A BASE placed at tick `t` (arm BASE, joining BASE): entered when it fits, else a gap opens; dropped in a gap. -/
def tapBase (t : Nat) (st : Half) (owed : List Nat) (s : State) : State :=
  if s.tapActive then
    let s' := { s with comp := { s.comp with tapTime := t } }
    if s.tap.gapOpen then s'
    else if s.tap.entries.length + 1 ≤ Config.tapDepth then
      { s' with tap := { s.tap with
          entries := s.tap.entries ++ s.entriesOf [{ time := t, item := .base false st }] false owed } }
    else { s' with tap := { s.tap with gapOpen := true } }
  else s

/-- The POD_LOST entries of a tick (R23, R37). -/
def tapPods (t : Nat) : List Nat → State → State
  | [], s => s
  | p :: r, s => tapPods t r (tapEvent t (fun d => .mark d .podLost p) s.owers s)

/-- A tap gap closes (R37): the held END enters with its GAP flag set; while samples are taken, a flagged BASE with
the state of tick `t` follows, and the POD_LOSTs of the tick. -/
def closeTapGap (t : Nat) (st : Half) (pods : List Nat) (s : State) : State :=
  let owed := s.allOwers
  let ends := match s.tap.heldEnd with
    | some h => if owed.length = 0 then [] else
        [{ item := .mark 0 .stop h.reason.code, time := h.time, gap := true, owed := owed, seg := h.seg,
           divider := h.divider : TapEntry }]
    | none => []
  let bases := if s.seq.acq.sampling then s.entriesOf [{ time := t, item := .base false st }] true owed else []
  let s := { s with
    tap := { entries := s.tap.entries ++ ends ++ bases, gapOpen := false, heldEnd := none, joining := [] }
    comp := { s.comp with tapTime := if s.seq.acq.sampling then t else s.comp.tapTime } }
  if s.seq.acq.sampling then tapPods t pods s else s

/-- A gap can close: the level has fallen to 128, and there is something to close it with (R37). -/
def State.canCloseGap (s : State) : Bool :=
  s.tap.gapOpen && s.tap.entries.length ≤ Config.tapCloseLevel && (s.seq.acq.sampling || s.tap.heldEnd.isSome)

/-- The joining BASEs of a tick, one per slot that awaits one, in the order they started. A slot owes its own alone, and
none formed behind it for another slot of that tick (R34; DESIGN CHOICE, log 64). -/
def joinTap (t : Nat) (st : Half) : List Nat → State → State
  | [], s => s
  | k :: r, s => joinTap t st r (tapBase t st [k] s)

/-- The tap stream at tick `t`: the gap's close, or the TRANSITION and POD_LOSTs of the tick, then the joining
BASEs (R22, R23, R34, R37; log 20). -/
def tapTick (t : Nat) (st was : Half) (pods : List Nat) (s : State) : State :=
  if s.canCloseGap then closeTapGap t st pods s
  else
    let s := if st ≠ was then tapEvent t (fun d => .trans d st) s.owers s else s
    let s := tapPods t pods s
    let joining := s.tap.joining
    joinTap t st joining { s with tap := { s.tap with joining := [] } }

/-- The END of the tap stream at stop tick `t`: entered, or held while a gap is open or when it does not fit
(R36, R37). -/
def endTap (t : Nat) (reason : SealReason) (s : State) : State :=
  if s.tapActive then
    let hold : HeldEnd :=
      { time := t, reason := reason, seg := s.seq.seg,
        divider := match s.seq.seg with
          | some n => (s.seg n).latched.divider
          | none => s.fe.divider }
    let s' := tapEvent t (fun d => .mark d .stop reason.code) s.allOwers s
    if s'.tap.gapOpen then { s' with tap := { s'.tap with heldEnd := some hold, joining := [] } }
    else { s' with tap := { s'.tap with joining := [] } }
  else { s with tap := { s.tap with joining := [] } }

/-- Slot `k` has left RUNNING: it is removed from every owed set, and with the last live slot the tap empties
(R35). -/
def leaveTap (k : Nat) (s : State) : State :=
  if s.tapActive then
    { s with tap := { s.tap with
        entries := (s.tap.entries.map fun e => { e with owed := e.owed.filter (· ≠ k) }).filter fun e => e.owed.length ≠ 0
        joining := s.tap.joining.filter (· ≠ k) } }
  else { s with tap := Tap.reset }

/-- A live slot owes an entry. -/
def State.owes (s : State) (k : Nat) : Bool := s.tap.entries.any fun e => e.owed.contains k

/-- In IDLE no tick is counted, so a held END enters as soon as the level allows (R36, R37; log 21). -/
def closeIdleGap (s : State) : State :=
  if s.seq.acq = .idle && s.canCloseGap then closeTapGap s.fe.tick s.comp.last [] s else s

/-- The live slots that owe nothing return to WAITING once the acquisition is IDLE (R109). -/
def returnSlot (k : Nat) (s : State) : State :=
  if s.seq.acq = .idle && (s.slot k).live && !s.owes k then
    let x := s.slot k
    leaveTap k (s.setSlot k { x with state := .waiting, joinNext := false, walk := { x.walk with decoding := false } })
  else s

def returnSlots (s : State) : State := returnSlot 3 (returnSlot 2 (returnSlot 1 (returnSlot 0 s)))

/-! ## Idle extends (R19) -/

/-- The staging stream's idle extend is due at the current tick. -/
def State.stagingExtendDue (s : State) : Bool :=
  s.seq.acq.sampling && !s.comp.lossOpen && s.comp.stagingTime + Config.maxExtend = s.fe.tick

/-- The tap stream's idle extend is due at the current tick. -/
def State.tapExtendDue (s : State) : Bool :=
  s.seq.acq.sampling && s.tapActive && s.comp.tapTime + Config.maxExtend = s.fe.tick

/-- An event of one EXTEND of the full delta, offered like any other (R19, R24, R25). -/
def extendStaging (s : State) : State :=
  if s.stagingExtendDue then
    let c := s.comp
    let c :=
      if c.staging.length + 1 ≤ Config.stagingAccept then
        { c with staging := c.staging ++ [.extend Config.maxExtend], stagingTime := s.fe.tick }
      else
        { c with lossOpen := true, lostCount := 0, stagingTime := s.fe.tick,
                 staging := c.staging ++ placeRecord Config.maxExtend (fun d => .mark d .lossBegin 0) }
    { s with comp := c }
  else s

def extendTap (s : State) : State :=
  if s.tapExtendDue then
    let s' := { s with comp := { s.comp with tapTime := s.fe.tick } }
    if s.tap.gapOpen then s'
    else if s.tap.entries.length + 1 ≤ Config.tapDepth then
      let e := s.entriesOf [{ time := s.fe.tick, item := .extend Config.maxExtend }] false s.owers
      { s' with tap := { s.tap with entries := s.tap.entries ++ e } }
    else { s' with tap := { s.tap with gapOpen := true } }
  else s

/-! ## The capture writer (R28 to R30) -/

/-- The writer asks for a block when its own is full and a record remains to be written, and writes a writer BASE
into place 0 of the new one (R30). -/
def serveWriter (s : State) : State :=
  match s.writer.seg with
  | none => s
  | some n =>
    if s.writer.written < Config.blockRecords ∨ s.comp.staging.length = 0 then s
    else
      let r := requestBlock n s.writer.time s
      match r.2 with
      | none => r.1
      | some b =>
        let base : Record := .base s.writer.lossOpen s.writer.cur
        { r.1 with
          writer := { r.1.writer with block := b, written := 1, group := [base] }
          store := { r.1.store with
            blocks := r.1.store.blocks.set b { r.1.store.block b with used := 1 }
            mem := writeWord r.1.store.mem b 0 base.word } }

/-- What the writer has written of the records in order: the current state, the loss as written, the time (R28,
R29). -/
def Writer.follow (w : Writer) : List Record → Writer
  | [] => w
  | r :: rs =>
    let w := { w with time := w.time + r.delta }
    Writer.follow (match r with
      | .base _ st => { w with cur := st }
      | .trans _ st => { w with cur := st }
      | .extend _ => w
      | .mark _ .lossBegin _ => { w with lossOpen := true }
      | .mark _ .lossEnd _ => { w with lossOpen := false }
      | .mark _ _ _ => w) rs

/-- The free values written into places of a group no record fills (R29). -/
def meaningless (free : Nat) : Nat → List Word
  | 0 => []
  | k + 1 => Config.meaninglessWord (free + k) :: meaningless free k

def Record.isEnd : Record → Bool
  | .mark _ .stop _ => true
  | _ => false

end Sys2Proof.Machine
end

