-- ==== Sys2Proof/Machine/Sequencing.lean ====
section
/-! DEFINITION. The trigger sequencer's shared operations: stages, the trigger, stops, arms, the seal and what
follows it (R38 to R58, R66, R67, R71, R72). -/

namespace Sys2Proof.Machine

/-! ## Stops (R52 to R54) -/

/-- A stop: the END at stop tick `t` in both streams, and DRAINING (R31, R36, R52). A loss interval that can close at
once does. -/
def stopSegment (t : Nat) (reason : SealReason) (s : State) : State :=
  let s := endTap t reason s
  closeHeldEnd { s with comp := endStaging t reason s.comp
                        seq := { s.seq with acq := .draining, stopTick := some t, reason := some reason } }

/-- A condition raised by another block (R54): it stops a sampling segment, and sets the sequence-end flag in every
non-IDLE state. -/
def stopCondition (t : Nat) (reason : SealReason) (s : State) : State :=
  if s.seq.acq = .idle then s
  else
    let s := { s with seq := { s.seq with seqEnd := true } }
    if s.seq.acq.sampling then stopSegment t reason s else s

/-- A condition whose stop tick is one after the current tick (R54). -/
def stopNow (reason : SealReason) (s : State) : State := stopCondition (s.fe.tick + 1) reason s

/-- The trigger of the FILLING segment. -/
def State.trigger (s : State) : Option Trigger :=
  match s.seq.seg with
  | some n => (s.seg n).trigger
  | none => none

/-- POSTFILL ends at the first tick at or after the trigger tick plus P_post (R52). -/
def postfillTest (s : State) : State :=
  match s.seq.acq, s.trigger with
  | .postfill, some g =>
    if g.tick + s.seq.params.pPost ≤ s.fe.tick then stopSegment (s.fe.tick + 1) .complete s else s
  | _, _ => s

/-! ## The reserve test (R71) -/

/-- Free places in the last block of the FILLING segment. -/
def State.freePlaces (s : State) (n : Nat) : Nat :=
  match (s.seg n).chain.getLast? with
  | some b => Config.blockRecords - (s.store.block b).used
  | none => Config.blockRecords

/-- The reserve test at the trigger (`atTrigger`) or at the end of a writer burst (R71). -/
def reserveTest (atTrigger : Bool) (s : State) : State :=
  match s.seq.seg with
  | none => s
  | some n =>
    if Config.reservePlaces ≤ s.freePlaces n ∨ s.store.freeList ≠ [] then s
    else
      match (if s.seq.params.reclaims then s.oldestEligible else none) with
      | some m => freeSegment m s
      | none => if atTrigger then storeLowTest (trimSegment n s) else stopNow .storeFull s

/-! ## The trigger (R50) -/

/-- The trigger is taken with tick `t`: the reserve test, the clamp to the start tick, the record of it, TRIGGERED,
POSTFILL, and the test of R52 at the same tick. -/
def takeTrigger (t : Nat) (forced : Bool) (s : State) : State :=
  let s := reserveTest true s
  match s.seq.seg with
  | none => s
  | some n =>
    let e := s.seg n
    let g : Trigger := { tick := max t e.start, forced := forced, clamped := t < e.start }
    let s := raiseBoth .triggered n (s.setSeg n { e with trigger := some g })
    postfillTest { s with seq := { s.seq with acq := .postfill, matchCount := 0, run := 0, expiry := none,
                                              held := false } }

/-! ## Stages (R43 to R49) -/

def State.stageAt (s : State) (k : Nat) : Stage := s.seq.params.stages.getD k Stage.reset

/-- The sequencer enters stage `k` at entry tick `e` (R43). -/
def enterStage (k e : Nat) (s : State) : State :=
  let g := s.stageAt k
  { s with seq := { s.seq with
      acq := .hunting k
      entryTick := e
      matchCount := 0
      run := 0
      held := false
      expiry := if g.timeout = 0 then none else some (e + g.timeout)
      prev := s.comp.last } }

/-- Act on a target: enter a stage at tick `e`, or take the trigger with tick `t` (R48, R49). -/
def actOn (g : Target) (e t : Nat) (s : State) : State :=
  match g with
  | .stage k => enterStage k e s
  | .final => takeTrigger t false s

/-- A match of the current stage `k` (R48). -/
def stageMatch (k e t : Nat) (s : State) : State :=
  let g := s.stageAt k
  if g.count ≤ s.seq.matchCount + 1 then actOn g.next e t s
  else { s with seq := { s.seq with matchCount := s.seq.matchCount + 1 } }

/-- One channel condition at a tick with level `is`, and `was` at the tick before (R44). EDGE follows the table of R44: on
a channel that changes at two ticks running it holds at both (DESIGN CHOICE, log 65). -/
def chanHolds (c : ChanCond) (was is : Bool) : Bool :=
  match c with
  | .ignore => true
  | .low => !is
  | .high => is
  | .rise => is && !was
  | .fall => !is && was
  | .edge => is != was
  | .unknown => false

/-- A PATTERN condition (R44). -/
def patternHolds : List ChanCond → Nat → Half → Half → Bool
  | [], _, _, _ => true
  | c :: r, k, was, is => chanHolds c (was.getLsbD k) (is.getLsbD k) && patternHolds r (k + 1) was is

/-- The run length after a tick, and whether the stage matches at it (R45, R46). -/
def qualify (q : Qualifier) (held holds : Bool) (run : Nat) : Nat × Bool :=
  match q with
  | .none => (run, holds && !held)
  | .heldAtLeast n =>
    if holds then (satSucc 65535 run, run < n && satSucc 65535 run = n) else (0, false)
  | .heldLessThan n => if holds then (satSucc 65535 run, false) else (0, 1 ≤ run && run < n)
  | .unknown _ => (run, false)

/-- The evaluation of the current PATTERN stage at tick `t` with state `st` (R44 to R46, R48). -/
def evaluatePattern (t : Nat) (st : Half) (s : State) : State :=
  match s.seq.acq with
  | .hunting k =>
    match (s.stageAt k).cond with
    | .pattern cs =>
      let holds := patternHolds cs 0 s.seq.prev st
      let r := qualify (s.stageAt k).qualifier s.seq.held holds s.seq.run
      let s := { s with seq := { s.seq with run := r.1, held := holds, prev := st } }
      if r.2 then stageMatch k t t s else s
    | .decoder _ _ _ _ => { s with seq := { s.seq with prev := st } }
  | _ => s

/-- An annotation is offered by live slot `slot` with segment tag `seg` (R47, R48, R50). -/
def offerNote (slot seg kind stop value : Nat) (s : State) : State :=
  match s.seq.acq with
  | .hunting k =>
    match (s.stageAt k).cond with
    | .decoder gSlot gKind gValue gMask =>
      if slot = gSlot ∧ some seg = s.seq.seg ∧ kind = gKind ∧ value &&& gMask = gValue &&& gMask then
        stageMatch k s.fe.tick (min stop s.fe.tick) s
      else s
    | .pattern _ => s
  | _ => s

/-! ## Events due at the current tick (R42, R49, R52) -/

/-- The pre-trigger minimum has passed (R42). -/
def endPriming (s : State) : State :=
  if s.seq.acq = .priming ∧ s.seq.primingEnd ≤ s.fe.tick then enterStage 0 s.seq.primingEnd s else s

/-- The current stage times out (R49). -/
def timeoutStage (s : State) : State :=
  match s.seq.acq, s.seq.expiry with
  | .hunting k, some e => if e ≤ s.fe.tick then actOn (s.stageAt k).timeoutTarget e e s else s
  | _, _ => s

/-- The tick counter reaches its limit while samples are taken (R13, R54). In DRAINING it passes the limit with no
flag set, and the sequence ends by R56's own test of the counter (DEDUCED, log 79). -/
def timeLimitTest (s : State) : State :=
  if s.seq.acq.sampling ∧ Config.tickLimit ≤ s.fe.tick + 1 then
    stopCondition Config.tickLimit .timeLimit { s with fe := { s.fe with tick := Config.tickLimit } }
  else s

/-- Every event due at the current tick and not commanded by itself, before the next tick begins. -/
def settle (s : State) : State := postfillTest (timeoutStage (endPriming (extendTap (extendStaging s))))

/-! ## Arms (R21, R41, R57, R67) -/

/-- The values an arm latches (R3, R11). -/
def FrontEnd.latch (f : FrontEnd) : Latched :=
  { divider := f.divider, mask := f.mask, code0 := f.pod0.code, code1 := f.pod1.code, blank0 := !f.pod0.present,
    blank1 := !f.pod1.present }

/-- A live slot at an arm: WAITING becomes RUNNING, and none is left for a later arm BASE (R34, R109). The time of the
last entry it consumed stays, for a GAP is measured from it (R117). A tag it still held is cleared (DESIGN CHOICE,
log 53). From the arm on a slot started in DRAINING owes the entries that close a gap still open, its held END among
them, for they stand for the arm BASE (DESIGN CHOICE, log 49). -/
def Slot.atArm (k : Slot) : Slot :=
  if k.source = some .live ∧ k.state = .waiting then
    { k with state := .running, joinNext := false, tag := none,
             walk := { Walk.reset with last := k.walk.last } }
  else if k.live then { k with joinNext := false }
  else k

/-- The compressor, the tap and the writer start the new segment's stream at arm tick `t` (R21, R28, R34). Its first
state is made of the levels that the last comparison left (DESIGN CHOICE, log 77). -/
def startStream (n b t : Nat) (s : State) : State :=
  let st := s.delivered
  let c : Compressor :=
    { last := st, stagingTime := t, tapTime := t, lossOpen := false, lostCount := 0, staging := [.base false st],
      heldEnd := false, lastTick := t, tickBefore := 0, tickLost := [] }
  let s := { s with comp := c
                    writer := { seg := some n, block := b, written := 0, time := t, cur := s.writer.cur,
                                lossOpen := false, group := [] }
                    slots := s.slots.map Slot.atArm
                    tap := { s.tap with joining := [] } }
  tapBase t st s.liveSlots s

/-- The arm or re-arm is taken at tick `t` for port `owner` with sequence index `index` (R41, R57, R67). The store has
an EMPTY entry and a free block. -/
def armSegment (owner : Option Port) (index t : Nat) (s : State) : State :=
  match s.lowestEmpty, s.store.freeList with
  | some n, b :: rest =>
    let l := s.fe.latch
    let fe := { s.fe with tick := t, lost := [], pod0 := { s.fe.pod0 with blanked := l.blank0 }
                          pod1 := { s.fe.pod1 with blanked := l.blank1 } }
    let e : Segment := { Segment.empty with state := .filling, owner := owner, chain := [b], burstChain := 1, start := t,
                                            stop := t, index := index, latched := l }
    let s := storeLowTest { s with
      fe := fe
      store := { s.store with freeList := rest
                              blocks := s.store.blocks.set b { next := none, base := t, used := 0 }
                              segs := s.store.segs.set n e } }
    startStream n b t { s with seq := { s.seq with
      acq := .priming, seg := some n, taken := index, primingEnd := t + s.seq.params.wPre, stopTick := none,
      reason := none } }
  | _, _ => s

/-! ## The seal and after (R56 to R58, R72) -/

/-- The store seals the FILLING segment (R72). -/
def sealEntry (n t : Nat) (reason : SealReason) (s : State) : State :=
  let order := satSucc 4294967295 s.store.sealCounter
  { s with store := { s.store with
      sealCounter := order
      segs := s.store.segs.set n { s.seg n with state := .sealed, reason := some reason, stop := t, order := order } } }

/-- The sequence ends: IDLE, nothing is filled, and live slots that owe nothing wait (R58, R109). -/
def endSequence (s : State) : State :=
  returnSlots (closeIdleGap { s with seq := { s.seq with acq := .idle, seg := none } })

/-- The sequence continues: a re-arm at the seal tick, or STORE_LOW for want of room (R57, R58). -/
def rearm (s : State) : State :=
  if s.hasRoom then
    let s := if s.seq.params.reclaims then reclaimForArm Config.segmentCount s else s
    armSegment s.ports.claim (s.seq.taken + 1) s.fe.tick s
  else raiseBoth .storeLow s.store.freeCount (endSequence s)

/-- The writer reports the segment's last record written (R32, R56). -/
def sealSegment (s : State) : State :=
  match s.seq.seg, s.seq.stopTick, s.seq.reason with
  | some n, some t, some reason =>
    let s := raiseBoth .sealed n (sealEntry n t reason { s with writer := { s.writer with seg := none, group := [] } })
    let s := { s with seq := { s.seq with stopTick := none, reason := none } }
    if reason = .complete ∧ s.seq.seqEnd = false ∧ s.seq.taken < s.seq.params.sequence ∧
        s.fe.tick < Config.tickLimit then
      rearm s
    else endSequence s
  | _, _, _ => s

end Sys2Proof.Machine
end

