-- ==== Sys2Proof/Machine/AcquisitionRequests.lean ====
section
/-! DEFINITION. What the front end's and the sequencer's requests do once taken, the claim already checked
(R6, R9, R14, R39 to R41, R51, R53). -/

namespace Sys2Proof.Machine

/-- The code a SET_PODS gives a pod: the converted threshold, or the code it had (R6). -/
def newCode (t : Option Int) (code : Nat) : Nat :=
  match t with
  | some v => thresholdCode v
  | none => code

/-- SET_PODS (R6). The comparators keep their levels until inputs are next compared, at a SAMPLE_TICK (DESIGN CHOICE,
log 77). -/
def doSetPods (q : Asker) (t0 t1 : Option Int) (s : State) : State :=
  if s.seq.acq ≠ .idle then refuse q .wrongState s
  else
    let a := { s.fe.pod0 with code := newCode t0 s.fe.pod0.code }
    let b := { s.fe.pod1 with code := newCode t1 s.fe.pod1.code }
    answer q .ok (.pods a.code (effectiveThreshold a.code) a.present b.code (effectiveThreshold b.code) b.present)
      { s with fe := { s.fe with pod0 := a, pod1 := b } }

/-- SET_CLOCK (R9). -/
def doSetClock (q : Asker) (d : Nat) (mask : Half) (s : State) : State :=
  if s.seq.acq ≠ .idle then refuse q .wrongState s
  else
    let e := effectiveDivider d mask
    answer q .ok (.clock e mask (e * 2500)) { s with fe := { s.fe with divider := e, mask := mask } }

/-- The edge kind a code names (R14). -/
def edgeKind : Nat → Option EdgeKind
  | 0 => some .rise
  | 1 => some .fall
  | 2 => some .either
  | _ => none

/-- SET_WATCH (R14). -/
def doSetWatch (q : Asker) (w : Option (Nat × Nat)) (s : State) : State :=
  match w with
  | none => answer q .ok .none { s with fe := { s.fe with watch := none } }
  | some (c, k) =>
    match edgeKind k with
    | some e =>
      if c ≤ 15 then answer q .ok .none { s with fe := { s.fe with watch := some (c, e) } }
      else refuse q .outOfRange s
    | none => refuse q .outOfRange s

/-- LOAD_TRIGGER (R39). -/
def doLoadTrigger (q : Asker) (a : ArmParams) (s : State) : State :=
  if s.seq.acq ≠ .idle then refuse q .wrongState s
  else if paramsInRange a then answer q .ok .none { s with seq := { s.seq with params := a } }
  else refuse q .outOfRange s

/-- ARM (R40, R41, R66). -/
def doArm (q : Asker) (s : State) : State :=
  if s.seq.acq ≠ .idle ∨ s.store.available = false then refuse q .wrongState s
  else if s.hasRoom = false then refuse q .noRoom s
  else
    let s := if s.seq.params.reclaims then reclaimForArm Config.segmentCount s else s
    let s := armSegment (some q.port) 1 0 { s with seq := { s.seq with seqEnd := false } }
    answer q .accepted (.armed (s.seq.seg.getD 0) 1) s

/-- FORCE is taken in PRIMING and HUNTING (R51). -/
def AcqState.forcible : AcqState → Bool
  | .priming => true
  | .hunting _ => true
  | .idle => false
  | .postfill => false
  | .draining => false

/-- FORCE (R51). -/
def doForce (q : Asker) (s : State) : State :=
  if s.seq.acq.forcible then answer q .ok (.tick s.fe.tick) (takeTrigger s.fe.tick true s)
  else refuse q .wrongState s

/-- HALT (R53). -/
def doHalt (q : Asker) (s : State) : State :=
  if s.seq.acq.sampling then
    answer q .ok (.tick (s.fe.tick + 1))
      (stopSegment (s.fe.tick + 1) .halted { s with seq := { s.seq with seqEnd := true } })
  else refuse q .wrongState s

/-- The acquisition status (R59). Outside HUNTING there is no current stage: the match count, entry tick, expiry and
run length it carries are then the last stage's as they were left (DESIGN CHOICE, log 50). -/
def acquisitionStatus (s : State) : ReplyBody :=
  .acquisition s.seq.acq s.seq.matchCount s.seq.entryTick s.seq.expiry s.seq.run s.fe.tick s.seq.seg s.seq.taken
    s.seq.params.sequence s.trigger s.seq.stopTick s.seq.reason s.ports.claim s.comp.staging.length s.comp.lossOpen
    (PodReport.of s.fe.pod0) (PodReport.of s.fe.pod1)

end Sys2Proof.Machine
end

