-- ==== Sys2Proof/Machine/Protocols.lean ====
section
/-! DEFINITION. The four protocol decoders as functions of their own state: what they form at a sample point and at
an edge (R119 to R127). -/

namespace Sys2Proof.Machine

/-- An annotation as a decoder forms it, before its slot and segment are known (R118). -/
structure Formed where
  kind : Nat
  start : Nat
  stop : Nat
  value : Nat
  aux : Option Nat
  read : Bool
  ack : Bool
  parityOk : Bool
  deriving DecidableEq, Repr

/-- An annotation with no aux and no flag. -/
def Formed.plain (kind start stop value : Nat) : Formed :=
  { kind, start, stop, value, aux := none, read := false, ack := false, parityOk := false }

/-- The character queue entry a kind feeds (R121, R122, R125, R127, R129). -/
def Formed.feeds (f : Formed) : Option CharEntry :=
  if f.kind = 2 ∨ f.kind = 3 then some { value := f.value, aux := f.aux = some 1, parityOk := f.parityOk }
  else if f.kind = 6 ∨ f.kind = 14 then some { value := f.value, aux := false, parityOk := true }
  else if f.kind = 11 then some { value := f.value, aux := f.ack, parityOk := true }
  else none

/-- The level of a channel in a state. -/
def levelOf (st : Half) (ch : Nat) : Bool := st.getLsbD ch

/-! ## UART (R119 to R121) -/

def UartRx.hunt : UartRx := { phase := .hunt, t0 := 0, bit := 0, value := 0, par := false, allActive := true }

/-- The sample point of bit `i` of a frame that starts at `t0` (R119). -/
def samplePoint (period t0 i : Nat) : Nat := t0 + (2 * i + 1) * period / 512

/-- Number of parity bits. -/
def uartParityBits (c : UartCfg) : Nat := if c.parity = .none then 0 else 1

/-- Ones in a value's low bits. -/
def popCount : Nat → Nat → Nat
  | 0, _ => 0
  | n + 1, v => v % 2 + popCount n (v / 2)

/-- Parity NONE, or correct (R119). -/
def uartParityGood (c : UartCfg) (value : Nat) (par : Bool) : Bool :=
  match c.parity with
  | .none => true
  | .even => (popCount 9 value + par.toNat) % 2 = 0
  | .odd => (popCount 9 value + par.toNat) % 2 = 1

/-- The annotation of a frame that ends at sample point `t`, its last stop good or bad (R121). -/
def uartFrame (c : UartCfg) (r : UartRx) (t : Nat) (stopGood allActive : Bool) : Formed :=
  let good := uartParityGood c r.value r.par
  let aux := if c.parity = .none then none else some r.par.toNat
  if stopGood then
    { kind := if good then 2 else 3, start := r.t0, stop := t + 1, value := r.value, aux := aux, read := false,
      ack := false, parityOk := good }
  else if allActive then Formed.plain 5 r.t0 (t + 1) 0
  else
    { kind := 4, start := r.t0, stop := t + 1, value := r.value, aux := aux, read := false, ack := false,
      parityOk := good }

/-- Take one sample at tick `t`: `one` says the line is at its idle level, bit value 1 (R120). -/
def uartSample (c : UartCfg) (r : UartRx) (t : Nat) (one : Bool) : UartRx × List Formed :=
  match r.phase with
  | .hunt => (r, [])
  | .start => if one then (UartRx.hunt, []) else ({ r with phase := .bits, bit := 1, allActive := true }, [])
  | .bits =>
    let r :=
      if r.bit ≤ c.dataBits then { r with value := r.value + one.toNat * 2 ^ (r.bit - 1) } else { r with par := one }
    ({ r with phase := if r.bit < c.dataBits + uartParityBits c then .bits else .stop, bit := r.bit + 1,
              allActive := r.allActive && !one }, [])
  | .stop =>
    if one then
      if r.bit < c.dataBits + uartParityBits c + c.stopBits then ({ r with bit := r.bit + 1, allActive := false }, [])
      else (UartRx.hunt, [uartFrame c r t true false])
    else (UartRx.hunt, [uartFrame c r t false r.allActive])

/-- Take every sample point at or before `limit` with state `cur`; a frame has at most 13 (R114). -/
def uartAdvance (c : UartCfg) (period : Nat) (cur : Half) (limit : Nat) : Nat → UartRx → UartRx × List Formed
  | 0, r => (r, [])
  | fuel + 1, r =>
    if r.phase = .hunt then (r, [])
    else
      let t := samplePoint period r.t0 r.bit
      if limit < t then (r, [])
      else
        let x := uartSample c r t (levelOf cur c.rx == c.idleHigh)
        let y := uartAdvance c period cur limit fuel x.1
        (y.1, x.2 ++ y.2)

/-- A start edge is a change of RX from the idle level to the active level, seen in HUNT (R119, R120). -/
def uartEdge (c : UartCfg) (r : UartRx) (was is : Half) (t : Nat) : UartRx :=
  if r.phase = .hunt ∧ levelOf was c.rx = c.idleHigh ∧ levelOf is c.rx ≠ c.idleHigh then
    { UartRx.hunt with phase := .start, t0 := t }
  else r

/-! ## SPI (R122 to R124) -/

/-- The value of bits in the order received, under a bit order (R122). -/
def bitsValue (msbFirst : Bool) (bits : List Bool) : Nat :=
  (if msbFirst then bits else bits.reverse).foldl (fun v b => 2 * v + b.toNat) 0

/-- The sampling edge of a clock mode (R122). -/
def spiSamplesOn (c : SpiCfg) (was is : Bool) : Bool :=
  if c.idleHigh = c.leading then was && !is else !was && is

/-- The SHORT_WORD of the bits received (R123). -/
def spiShort (c : SpiCfg) (r : SpiRx) : List Formed :=
  match r.lastEdge with
  | some l =>
    if r.mosi.length = 0 then []
    else [{ kind := 7, start := r.first, stop := l + 1, value := bitsValue c.msbFirst r.mosi,
            aux := some r.mosi.length, read := false, ack := false, parityOk := false }]
  | none => []

def SpiRx.emptied (r : SpiRx) : SpiRx := { r with mosi := [], miso := [] }

/-- A sampling edge taken at `t`: the bits come from the state before it; a full word forms a WORD (R122). -/
def spiTake (c : SpiCfg) (r : SpiRx) (was : Half) (t : Nat) : SpiRx × List Formed :=
  let first := if r.mosi.length = 0 then t else r.first
  let mosi := r.mosi ++ [levelOf was c.mosi]
  let miso := match c.miso with
    | some m => r.miso ++ [levelOf was m]
    | none => []
  let r := { r with first := first, mosi := mosi, miso := miso, lastEdge := some t }
  if c.wordLength ≤ mosi.length then
    (r.emptied, [{ kind := 6, start := first, stop := t + 1, value := bitsValue c.msbFirst mosi,
                   aux := c.miso.map fun _ => bitsValue c.msbFirst miso, read := false, ack := false,
                   parityOk := false }])
  else (r, [])

/-- One TRANSITION of an SPI slot, in the order of R123 with a select channel, by R124 without. -/
def spiEdge (c : SpiCfg) (r : SpiRx) (was is : Half) (t : Nat) : SpiRx × List Formed :=
  let sampling := spiSamplesOn c (levelOf was c.clock) (levelOf is c.clock)
  match c.select with
  | some ch =>
    let before := levelOf was ch == c.selectHigh
    let after := levelOf is ch == c.selectHigh
    let r := if !before && after then r.emptied else r
    let x := if sampling && after && r.aligned then spiTake c r was t else (r, [])
    if before && !after then ({ x.1.emptied with aligned := true }, x.2 ++ spiShort c x.1) else x
  | none =>
    if sampling then
      let late := match r.lastEdge with
        | some l => c.gapTimeout ≠ 0 && c.gapTimeout < t - l
        | none => false
      if late then
        let x := spiTake c r.emptied was t
        (x.1, spiShort c r ++ x.2)
      else spiTake c r was t
    else (r, [])

/-! ## I2C (R125, R126) -/

def I2cRx.idle : I2cRx := { active := false, bits := [], first := 0, isAddress := false, read := false }

/-- The annotation of a byte whose acknowledge is sampled at `t`; `bits` are its eight (R125). -/
def i2cByte (r : I2cRx) (ack : Bool) (t : Nat) : Formed :=
  let v := bitsValue true r.bits
  if r.isAddress then
    { kind := 10, start := r.first, stop := t + 1, value := v / 2, aux := none, read := v % 2 = 1, ack := ack,
      parityOk := false }
  else
    { kind := 11, start := r.first, stop := t + 1, value := v, aux := none, read := r.read, ack := ack,
      parityOk := false }

/-- The BUS_ERR of a condition inside a byte (R126). -/
def i2cBroken (r : I2cRx) (t : Nat) : List Formed :=
  if r.bits.length = 0 then [] else [Formed.plain 13 r.first (t + 1) r.bits.length]

/-- One TRANSITION of an I2C slot (R125, R126). -/
def i2cEdge (c : I2cCfg) (r : I2cRx) (was is : Half) (t : Nat) : I2cRx × List Formed :=
  let sclWas := levelOf was c.scl
  let sclIs := levelOf is c.scl
  let sdaWas := levelOf was c.sda
  let sdaIs := levelOf is c.sda
  if sclWas && sclIs && sdaWas && !sdaIs then
    ({ I2cRx.idle with active := true, isAddress := true },
     if r.active then i2cBroken r t ++ [Formed.plain 9 t (t + 1) 0] else [Formed.plain 8 t (t + 1) 0])
  else if sclWas && sclIs && !sdaWas && sdaIs then
    if r.active then (I2cRx.idle, i2cBroken r t ++ [Formed.plain 12 t (t + 1) 0]) else (r, [])
  else if !sclWas && sclIs && r.active then
    if r.bits.length < 8 then
      ({ r with bits := r.bits ++ [sdaWas], first := if r.bits.length = 0 then t else r.first }, [])
    else
      let f := i2cByte r (!sdaWas) t
      ({ r with bits := [], isAddress := false, read := if r.isAddress then f.read else r.read }, [f])
  else (r, [])

/-! ## Strobed (R127) -/

/-- The VALUE at an edge of the strobe: bit `j` is the level of the `j`-th data channel before the edge. -/
def strobeEdge (c : StrobeCfg) (was is : Half) (t : Nat) : List Formed :=
  if edgeMatches c.edge (levelOf was c.strobe) (levelOf is c.strobe) then
    [Formed.plain 14 t (t + 1) (bitsValue false (c.data.map (levelOf was)))]
  else []

/-! ## Every protocol alike (R114, R115) -/

/-- The protocol state at the first tick decoded, in state `cur` (R115, R120, R123, R125). -/
def protoStart (p : Protocol) (cur : Half) : ProtoState :=
  match p with
  | .uart _ => .uart UartRx.hunt
  | .spi c =>
    .spi { aligned := match c.select with
             | some ch => levelOf cur ch != c.selectHigh
             | none => true
           mosi := [], miso := [], first := 0, lastEdge := none }
  | .i2c _ => .i2c I2cRx.idle
  | .strobed _ => .strobed
  | .unknown _ => .none

/-- Take the sample points at or before `limit` (R114). -/
def protoAdvance (p : Protocol) (period : Nat) (cur : Half) (limit : Nat) (st : ProtoState) :
    ProtoState × List Formed :=
  match p, st with
  | .uart c, .uart r =>
    let x := uartAdvance c period cur limit 16 r
    (.uart x.1, x.2)
  | _, _ => (st, [])

/-- A TRANSITION `was → is` at `t` (R114). -/
def protoEdge (p : Protocol) (was is : Half) (t : Nat) (st : ProtoState) : ProtoState × List Formed :=
  match p, st with
  | .uart c, .uart r => (.uart (uartEdge c r was is t), [])
  | .spi c, .spi r => let x := spiEdge c r was is t; (.spi x.1, x.2)
  | .i2c c, .i2c r => let x := i2cEdge c r was is t; (.i2c x.1, x.2)
  | .strobed c, .strobed => (.strobed, strobeEdge c was is t)
  | _, _ => (st, [])

end Sys2Proof.Machine
end

