-- ==== Sys2Proof/Machine/Decoding.lean ====
section
/-! DEFINITION. The decoder slots' shared operations: handing annotations on, the character queue, the walk of the
record stream offline and live, and leaving RUNNING (R105 to R117, R128, R129, R135). -/

namespace Sys2Proof.Machine

/-! ## Leaving RUNNING -/

/-- The segment of an OFFLINE slot. -/
def Slot.segment (x : Slot) : Nat :=
  match x.source with
  | some (.offline n _ _) => n
  | _ => 0

/-- An OFFLINE slot leaves RUNNING for state `st`: its burst is withdrawn and its DECODE pin drops (R74, R101). -/
def finishOffline (k : Nat) (st : SlotState) (s : State) : State :=
  let x := s.slot k
  let s := withdraw .decoder k (s.setSlot k { x with state := st })
  dropPin x.segment (fun p => { p with decode := p.decode - 1 }) s

/-- A live slot leaves RUNNING for STOPPED: it leaves the owed sets (R35, R111), and its segment tag becomes none
(DESIGN CHOICE, log 51: no rule says what becomes of it). -/
def stopLive (k : Nat) (cause : StopCause) (s : State) : State :=
  let x := s.slot k
  leaveTap k (s.setSlot k { x with state := .stopped, cause := some cause, tag := none, joinNext := false })

/-- A RUNNING or WAITING slot becomes STOPPED (R111, R113). -/
def stopSlot (k : Nat) (cause : StopCause) (s : State) : State :=
  let x := s.slot k
  if x.live then stopLive k cause s
  else if x.offline then finishOffline k .stopped (s.setSlot k { x with cause := some cause })
  else if x.state = .waiting then s.setSlot k { x with state := .stopped, cause := some cause }
  else s

/-- A slot becomes FREE, stopping first when it runs; its annotations are purged (R112, R137). -/
def freeSlot (k : Nat) (s : State) : State :=
  let s := stopSlot k .request s
  purgeSlot k (s.setSlot k Slot.empty)

/-! ## Handing annotations on (R128, R129, R135) -/

/-- Add a character queue entry (R129). -/
def queueEntry (k : Nat) (e : CharEntry) (s : State) : State :=
  let x := s.slot k
  if x.queue.length < 32 then
    let s := s.setSlot k { x with queue := x.queue ++ [e] }
    if x.level ≠ 0 ∧ x.queue.length + 1 = x.level then raiseStarter k .charqLevel s else s
  else
    let s := s.setSlot k { x with drops := satSucc 255 x.drops, fullNotice := true }
    if x.fullNotice then s else raiseStarter k .charqFull s

def feedQueue (k : Nat) (f : Formed) (s : State) : State :=
  match f.feeds with
  | some e => queueEntry k e s
  | none => s

/-- The annotation entry of slot `k` on segment `n` (R133). -/
def Formed.entry (f : Formed) (k n : Nat) : Note :=
  { slot := k, seg := n, kind := f.kind, start := f.start, stop := f.stop, value := f.value, aux := f.aux,
    read := f.read, ack := f.ack, parityOk := f.parityOk }

/-- An entry joins the tail of a slot's list (R135). -/
def appendNote (k : Nat) (e : Note) (s : State) : State :=
  let s := keepWalk k id s
  { s with notes := s.notes.set k (s.notesOf k ++ [e]) }

/-- The head of a list leaves it; a cursor on it names the entry after it (R135, R138). -/
def Stream.afterHead (x : Stream) (k : Nat) : Stream :=
  match x.source with
  | .records _ => x
  | .notes j _ _ _ => if j = k then { x with cursor := x.cursor - 1 } else x

/-- The live ring: the head of the slot's list makes room for the new entry (R135). -/
def ringNote (k : Nat) (e : Note) (s : State) : State :=
  let s := keepWalk k (fun w => { w with cursor := w.cursor - 1 }) s
  let f := fun (q : PortState) => { q with stream := q.stream.map fun x => x.afterHead k }
  { s with notes := s.notes.set k ((s.notesOf k).drop 1 ++ [e])
           ports := { s.ports with con := f s.ports.con, teth := f s.ports.teth } }

/-- An OFFLINE slot's annotation on segment `n`: stored and queued, or the slot is TRUNCATED (R128, R135). -/
def handOffline (k n : Nat) (f : Formed) (s : State) : State :=
  let x := s.slot k
  if (s.notesOf k).length < x.quota then feedQueue k f (appendNote k (f.entry k n) s)
  else
    raiseStarter k .decodeDone (finishOffline k .truncated (s.setSlot k { x with truncation := some f.start }))

/-- A live slot's annotation: offered and stored when the tag names a segment, and queued (R109, R128, R135). -/
def handLive (k : Nat) (f : Formed) (s : State) : State :=
  let x := s.slot k
  match x.tag with
  | none => feedQueue k f s
  | some n =>
    let s := offerNote k n f.kind f.stop f.value s
    let e := f.entry k n
    feedQueue k f (if (s.notesOf k).length < x.quota then appendNote k e s else ringNote k e s)

/-- An annotation is handed on (R128). A slot that is not RUNNING forms nothing. -/
def handOn (k : Nat) (f : Formed) (s : State) : State :=
  let x := s.slot k
  if x.live then handLive k f s
  else if x.offline then handOffline k x.segment f s
  else s

def handAll (k : Nat) : List Formed → State → State
  | [], s => s
  | f :: r, s => handAll k r (handOn k f s)

/-! ## The walk (R114) -/

/-- Update a slot's walk. -/
def setWalk (k : Nat) (w : Walk) (s : State) : State := s.setSlot k { s.slot k with walk := w }

/-- The slot's known-through tick becomes `limit`, and it takes its sample points up to there with its current state
(R114). -/
def takeSamples (k limit : Nat) (s : State) : State :=
  let x := s.slot k
  match x.proto with
  | some p =>
    if x.state = .running ∧ x.walk.decoding = true then
      let r := protoAdvance p (x.period.getD 0) x.walk.cur limit x.walk.proto
      handAll k r.2 (setWalk k { x.walk with proto := r.1, known := limit } s)
    else s
  | none => s

/-- Take the sample points before tick `t`. -/
def samplesBefore (k t : Nat) (s : State) : State := if t = 0 then s else takeSamples k (t - 1) s

/-- Decoding begins in the walk's current state (R115). -/
def Walk.begin (w : Walk) (p : Option Protocol) : Walk :=
  { w with
    decoding := true
    lossFrom := none
    proto := match p with
      | some p => protoStart p w.cur
      | none => .none }

/-- The frame in progress is abandoned, and no sample point or edge is seen (R115 to R117). -/
def Walk.abandon (w : Walk) : Walk := { w with decoding := false, proto := .none }

/-- A TRANSITION to `st` at tick `t`: an edge when the slot decodes, and the new state (R114). -/
def applyEdge (k t : Nat) (st : Half) (s : State) : State :=
  let x := s.slot k
  match x.proto with
  | some p =>
    if x.state = .running ∧ x.walk.decoding = true then
      let r := protoEdge p x.walk.cur st t x.walk.proto
      handAll k r.2 (setWalk k { x.walk with cur := st, proto := r.1 } s)
    else setWalk k { x.walk with cur := st } s
  | none => setWalk k { x.walk with cur := st } s

/-- The GAP annotation from `a` to `b` with value `v`, when it covers a tick (R116, R117, R133). -/
def gapNote (a b v : Nat) : List Formed := if a < b then [Formed.plain 1 a b v] else []

/-! ## Offline (R110, R115, R116) -/

/-- Decoding begins at from tick `lo` when a record at or after it is read and no loss is waited out (R115). -/
def beginAt (k lo t : Nat) (s : State) : State :=
  let x := s.slot k
  if x.walk.decoding = false ∧ x.walk.lossFrom = none ∧ lo ≤ t then setWalk k (x.walk.begin x.proto) s else s

/-- A BASE without LOSS_OPEN while the slot decodes: one of the state in force changes nothing. Another state is that of
a closing BASE behind a writer BASE of its own tick, so the tick's state, the first decoded, is the later one and
decoding begins again in it (R27, R30, R115; log 75). -/
def Walk.rebase (w : Walk) (p : Option Protocol) (st : Half) : Walk :=
  if st = w.cur then w else { w with cur := st }.begin p

/-- The effect of a record at tick `t` on a slot that decodes `[lo, hi]`, its earlier sample points taken
(R114, R116). -/
def applyOffline (k lo hi t : Nat) (r : Record) (s : State) : State :=
  let x := s.slot k
  match r with
  | .base false st =>
    if x.walk.decoding then setWalk k (x.walk.rebase x.proto st) s
    else beginAt k lo t (setWalk k { x.walk with cur := st, lossFrom := none } s)
  | .base true _ => setWalk k { x.walk.abandon with lossFrom := some (x.walk.lossFrom.getD t) } s
  | .trans _ st => applyEdge k t st s
  | .extend _ => s
  | .mark _ .lossBegin _ => setWalk k { x.walk.abandon with lossFrom := some t } s
  | .mark _ .lossEnd v => handAll k (gapNote (max (x.walk.lossFrom.getD t) lo) (min t (hi + 1)) v) s
  | .mark _ .podLost _ => s
  | .mark _ .stop _ => s

def Record.isBase : Record → Bool
  | .base _ _ => true
  | _ => false

def Record.isLossEnd : Record → Bool
  | .mark _ .lossEnd _ => true
  | _ => false

/-- The tick an OFFLINE slot has reached (R105); none before its DEC_START. -/
def Slot.reached (x : Slot) : Nat :=
  match x.reading with
  | some p => p.reached
  | none => 0

/-- The tick reached becomes `t`. -/
def Slot.reach (x : Slot) (t : Nat) : Slot := { x with reading := x.reading.map fun p => { p with reached := t } }

/-- The chain position of an OFFLINE slot's next record (R105). -/
def Slot.pos (x : Slot) : Nat :=
  match x.reading with
  | some p => p.pos
  | none => 0

/-- The place of an OFFLINE slot's next record (R105). -/
def Slot.place (x : Slot) : Nat :=
  match x.reading with
  | some p => p.place
  | none => 0

/-- The known-through tick of an OFFLINE slot becomes the time of the record just read (R114). -/
def knowThrough (k t : Nat) (s : State) : State :=
  if (s.slot k).offline then setWalk k { (s.slot k).walk with known := t } s else s

/-- A RUNNING OFFLINE slot completes (R110). -/
def offlineDone (k : Nat) (s : State) : State :=
  if (s.slot k).offline then raiseStarter k .decodeDone (finishOffline k .done s) else s

/-- An OFFLINE slot on `[lo, hi]` reads one record (R110, R114 to R116). A LOSS_END after the to tick still forms its
GAP, whose end R116 holds to the to tick plus 1. -/
def offlineRecord (k lo hi : Nat) (r : Record) (s : State) : State :=
  let x := s.slot k
  if x.offline then
    let t := x.reached + r.delta
    let s := s.setSlot k (x.reach t)
    let s := if r.isBase then s else beginAt k lo t s
    let s := samplesBefore k (min t (hi + 1)) s
    if r.isEnd then offlineDone k s
    else if hi < t then offlineDone k (if r.isLossEnd then applyOffline k lo hi t r s else s)
    else knowThrough k t (applyOffline k lo hi t r s)
  else s

def offlineRecords (k lo hi : Nat) : List Record → State → State
  | [], s => s
  | r :: rs, s => offlineRecords k lo hi rs (offlineRecord k lo hi r s)

/-! ## Live (R108, R109, R117) -/

/-- The next entry slot `k` owes, and the entries once it is consumed (R35). -/
def takeEntry (k : Nat) : List TapEntry → Option (TapEntry × List TapEntry)
  | [] => none
  | e :: r =>
    if e.owed.contains k then
      let owed := e.owed.filter (· ≠ k)
      some (e, if owed.length = 0 then r else { e with owed := owed } :: r)
    else
      match takeEntry k r with
      | some (x, r') => some (x, e :: r')
      | none => none

/-- The GAP annotation of a flagged entry at tick `t` (R117). Before a first consumed entry its start is a free
value. -/
def liveGap (k t : Nat) (s : State) : State :=
  match (s.slot k).walk.last with
  | some l => handAll k (gapNote (l + 1) t 0) s
  | none =>
    handAll k (gapNote (Config.gapStart s.free % t) t 0) { s with free := s.free + 1 }

/-- A UART slot's bit period for divider `d` (R108). -/
def Protocol.periodFor (p : Option Protocol) (d : Nat) : Option Nat :=
  match p with
  | some (.uart c) => some (uartPeriod d c.baud)
  | _ => none

/-- The period is under 4 ticks (R108). -/
def periodShort : Option Nat → Bool
  | some p => p < 1024
  | none => false

/-- A live slot takes the sample points through the last entry it consumed: those at that entry's own tick follow it,
and none inside a gap is taken (R114, R117). -/
def samplesThroughLast (k : Nat) (s : State) : State :=
  match (s.slot k).walk.last with
  | some l => takeSamples k l s
  | none => s

/-- A live slot takes a BASE: its tag, its period, the GAP of a flagged one, and decoding from its state
(R108, R109, R115, R117). A period under 4 ticks stops the slot before a flagged BASE's GAP is formed, which the rules
leave open (DESIGN CHOICE, log 52). The GAP of a flagged BASE carries the tag that BASE sets (DESIGN CHOICE, log 67). -/
def liveBase (k : Nat) (e : TapEntry) (st : Half) (s : State) : State :=
  let s := if e.gap then samplesThroughLast k s else s
  let x := s.slot k
  let period := Protocol.periodFor x.proto e.divider
  let s := s.setSlot k { x with tag := e.seg, period := period, walk := x.walk.abandon }
  if periodShort period then stopLive k .period s
  else
    let s := if e.gap then liveGap k e.time s else s
    let w := { (s.slot k).walk with cur := st, known := e.time }
    setWalk k (w.begin x.proto) s

/-- A live slot ends its segment at an END (R109, R115, R117). -/
def liveEnd (k : Nat) (e : TapEntry) (s : State) : State :=
  let s :=
    if e.gap then
      let s := samplesThroughLast k s
      liveGap k e.time (setWalk k (s.slot k).walk.abandon s)
    else samplesBefore k e.time s
  let x := s.slot k
  s.setSlot k { x with tag := none, walk := x.walk.abandon }

/-- What a live slot does with an entry it consumes. -/
def liveEntry (k : Nat) (e : TapEntry) (s : State) : State :=
  match e.item with
  | .base _ st => liveBase k e st s
  | .trans _ st => applyEdge k e.time st (samplesBefore k e.time s)
  | .mark _ .stop _ => liveEnd k e s
  | _ => samplesBefore k e.time s

/-- A live slot that owes nothing knows the state through the last tick compared, or while a gap is open through the
last entry it consumed (R114, R117). -/
def liveSync (k : Nat) (s : State) : State :=
  if (s.slot k).live && !s.owes k then
    if s.tap.gapOpen then samplesThroughLast k s else takeSamples k s.comp.lastTick s
  else s

/-- The live slots take their sample points of a tick from slot 0 to slot 3 (DESIGN CHOICE, log 54: the order between
slots is left open). -/
def liveSyncAll (s : State) : State := liveSync 3 (liveSync 2 (liveSync 1 (liveSync 0 s)))

/-- A live slot consumes its next owed entry (R35, R114). -/
def consumeEntry (k : Nat) (s : State) : State :=
  match takeEntry k s.tap.entries with
  | some (e, rest) =>
    let s := liveEntry k e { s with tap := { s.tap with entries := rest } }
    let x := s.slot k
    let s := if x.live then setWalk k { x.walk with last := some e.time } s else s
    returnSlots (closeIdleGap (liveSync k s))
  | none => s

end Sys2Proof.Machine
end

