-- ==== Sys2Proof/Machine/Measuring.lean ====
section
/-! DEFINITION. The measurement engine: accounting of records, completion, the TRIMMED answer, cancelling
(R141 to R147). -/

namespace Sys2Proof.Machine

/-- Add `n` to the count of every channel whose bit of `bits` is set. -/
def bumpFrom (bits : Half) (n : Nat) : Nat → List Nat → List Nat
  | _, [] => []
  | k, c :: r => (if bits.getLsbD k then c + n else c) :: bumpFrom bits n (k + 1) r

/-- Account for the ticks from the accounting tick up to `t`, held to B, in the state in force (R144). -/
def Measure.account (m : Measure) (t : Nat) : Measure :=
  let e := min t m.b
  if e ≤ m.acct then m
  else
    match m.cur with
    | some st => { m with high := bumpFrom st (e - m.acct) 0 m.high, acct := e }
    | none => { m with unknown := m.unknown + (e - m.acct), acct := e }

/-- The edges of a TRANSITION to `st` at time `t` are counted when A < t < B (R144). -/
def Measure.countEdges (m : Measure) (t : Nat) (st : Half) : Measure :=
  match m.cur with
  | some was => if m.a < t ∧ t < m.b then { m with edges := bumpFrom (was ^^^ st) 1 0 m.edges } else m
  | none => m

/-- What a record does to the current state, its time accounted (R143). -/
def Measure.apply (m : Measure) (t : Nat) (r : Record) : Measure :=
  match r with
  | .base false st => { m with cur := some st }
  | .base true _ => { m with cur := none }
  | .trans _ st => { m.countEdges t st with cur := some st }
  | .extend _ => m
  | .mark _ .lossBegin _ => { m with cur := none }
  | .mark _ .lossEnd _ => { m with cur := none }
  | .mark _ .podLost _ => m
  | .mark _ .stop _ => { m with cur := none }

/-- Read records until the engine stops; the flag says that it has (R143). -/
def Measure.read : List Record → Measure → Measure × Bool
  | [], m => (m, false)
  | r :: rs, m =>
    let t := m.time + r.delta
    let m := { m.account t with time := t, place := m.place + 1 }
    if m.b ≤ t then (m, true)
    else
      match r with
      | .mark _ .stop _ => ({ m with cur := none }, true)
      | _ => Measure.read rs (m.apply t r)

/-- The results of the masked channels from channel `k` up (R145). -/
def chanResults (mask : Half) (unknown : Nat) : Nat → List Nat → List Nat → List ChanResult
  | k, e :: es, h :: hs =>
    let r := chanResults mask unknown (k + 1) es hs
    if mask.getLsbD k then { chan := k, edges := e, high := h, unknown := unknown } :: r else r
  | _, _, _ => []

/-- The result once every tick is accounted for, with the segment's latched D (R145). -/
def Measure.resultOf (m : Measure) (divider : Nat) : MeasResult :=
  { port := m.port, seg := m.seg, a := m.a, b := m.b, mask := m.mask, ticks := m.b - m.a,
    picos := (m.b - m.a) * divider * 2500, chans := chanResults m.mask m.unknown 0 m.edges m.high,
    incomplete := m.unknown ≠ 0 }

/-- The measurement completes: the ticks left up to B are accounted in the state in force, the pin drops and
MEASURE_DONE is raised to the requesting port (R145). -/
def completeMeasure (s : State) : State :=
  let m := s.meas.account s.meas.b
  let res := m.resultOf (s.seg m.seg).latched.divider
  let s := { s with meas := { Measure.reset with st := .ready, result := some res } }
  raiseTo m.port .measureDone m.seg (dropPin m.seg (fun p => { p with measure := false }) s)

/-- A burst's records reach the engine: `recs` from its place on; `full` says that they end the block as it stood at
the grant, `tail` that the block was then the chain's last (R143). -/
def measureRecords (recs : List Record) (full tail : Bool) (s : State) : State :=
  let r := s.meas.read recs
  let s := { s with meas := r.1 }
  if r.2 then completeMeasure s
  else if full then
    if tail ∧ (s.seg s.meas.seg).state = .filling then
      completeMeasure { s with meas := { s.meas with cur := none } }
    else if tail ∧ s.meas.place < Config.blockRecords then s
    else { s with meas := { s.meas with pos := some (s.meas.pos.getD 0 + 1), place := 0 } }
  else s

/-- The TRIMMED answer: on from the first retained block, the ticks up to its base tick unknown (R143). Where B is not past
that tick nothing is left to account, and the measurement completes (`finishMeasure`). -/
def measureTrimmed (s : State) : State :=
  let e := s.seg s.meas.seg
  let m := { s.meas with cur := none }.account e.start
  { s with meas := { m with pos := some e.trimmed, place := 0, time := e.start } }

/-- Every tick of [A, B) is accounted for: the measurement in flight completes (R145). -/
def finishMeasure (s : State) : State :=
  if s.meas.st = .busy ∧ s.meas.b ≤ s.meas.acct then completeMeasure s else s

/-- The first grant fixes where the engine reads from (R143). -/
def measureLocate (s : State) : State :=
  match s.meas.pos with
  | some _ => s
  | none =>
    let e := s.seg s.meas.seg
    let p := s.firstPos s.meas.seg (max s.meas.a e.start)
    { s with meas := { s.meas with pos := some p, place := 0, time := (s.store.block (e.blockAt p)).base } }

/-- A measurement in flight is cancelled (R146). -/
def cancelMeasure (s : State) : State :=
  if s.meas.st = .busy then
    let n := s.meas.seg
    let s := withdraw .measure 0 { s with meas := Measure.reset }
    dropPin n (fun p => { p with measure := false }) s
  else s

end Sys2Proof.Machine
end

