-- ==== Sys2Proof/Machine/Streams.lean ====
section
/-! DEFINITION. The ports' readout streams: what a burst of records brings them, their chunks and packets, their end
and cancel (R84, R140, R197 to R199). -/

namespace Sys2Proof.Machine

/-- The requester that reads a port's records stream (R93). -/
def readRequester : Port → Requester
  | .console => .console
  | .tether => .tether

/-- The pin a port's records stream holds (R74). -/
def clearRead (p : Port) (pins : Pins) : Pins :=
  match p with
  | .console => { pins with readConsole := false }
  | .tether => { pins with readTether := false }

def setRead (p : Port) (pins : Pins) : Pins :=
  match p with
  | .console => { pins with readConsole := true }
  | .tether => { pins with readTether := true }

def setStream (p : Port) (x : Option Stream) (s : State) : State :=
  { s with ports := s.ports.setPort p { s.ports.port p with stream := x } }

/-- The bytes of record words, four each, least significant first (R212). -/
def wordBytes (ws : List Word) : List Byte := ws.flatMap fun w => leBytes 4 w.toNat

/-- Record words reach a records stream: those it still owes join its bytes (R83). -/
def Stream.takeWords (x : Stream) (ws : List Word) : Stream :=
  let ws := ws.take x.left
  { x with acc := x.acc ++ wordBytes ws, left := x.left - ws.length, ended := x.left ≤ ws.length,
           place := x.place + ws.length }

/-- A console stream gives its chunk when the bursts for it have been read (R197). -/
def formChunk (s : State) : State :=
  match s.ports.con.stream with
  | none => s
  | some x =>
    match x.want with
    | none => s
    | some (q, n) =>
      if n ≤ x.acc.length ∨ x.ended = true then
        let chunk := x.acc.take n
        let last := x.ended && x.acc.length ≤ n
        let x' := { x with acc := x.acc.drop n, want := none, delivered := x.delivered + chunk.length }
        answerDeferred q .ok (.chunk chunk) last (setStream .console (if last then none else some x') s)
      else s

/-- A burst of a port's records stream ends with `ws`; `full` says that they end the block as it stood at the grant,
`tail` that the block was the chain's last. The READ pin drops with the last record (R84). -/
def streamWords (p : Port) (seg : Nat) (ws : List Word) (full tail : Bool) (s : State) : State :=
  match (s.ports.port p).stream with
  | none => s
  | some x =>
    let x := x.takeWords ws
    let x := if full && !tail then { x with pos := x.pos + 1, place := 0 } else x
    let s := setStream p (some x) s
    let s := if x.ended then dropPin seg (clearRead p) s else s
    match p with
    | .console => formChunk s
    | .tether => pumpTether s

/-- The segment of a records stream still reading from the store. -/
def Stream.reading (x : Stream) : Option Nat :=
  match x.source with
  | .records n => if x.ended then none else some n
  | .notes _ _ _ _ => none

/-- A stream's store reads end: its burst is withdrawn, its READ pin dropped (R84, R101). -/
def stopReading (p : Port) (s : State) : State :=
  match (s.ports.port p).stream with
  | none => s
  | some x =>
    match x.reading with
    | none => s
    | some n => dropPin n (clearRead p) (withdraw (readRequester p) 0 s)

/-- A stream cut short on the tether port: what the buffer holds is fetched as usual, and a zero-length packet follows
(R199). -/
def Stream.cutShort (x : Stream) : Stream :=
  if x.cancelled then x
  else { x with acc := [], ended := true, endQueued := false, cancelled := true, headerSent := true }

/-- A port's stream is cancelled by STREAM_CANCEL or the battery cutoff; a deferred READ_NEXT is answered WRONG_STATE
(R199, R210). -/
def cancelStream (p : Port) (s : State) : State :=
  let s := stopReading p s
  match (s.ports.port p).stream with
  | none => s
  | some x =>
    match p with
    | .console =>
      let s := setStream .console none s
      match x.want with
      | some (q, _) => answerDeferred q .wrongState .none false s
      | none => s
    | .tether => pumpTether (setStream .tether (some x.cutShort) s)

/-- A port reset cancels the stream: the endpoint buffer empties at once and no end packet is sent (R199). -/
def dropStream (p : Port) (s : State) : State := setStream p none (stopReading p s)

end Sys2Proof.Machine
end

