-- ==== Sys2Proof/Machine/StoreRequests.lean ====
section
/-! DEFINITION. What the capture store's requests do once taken (R77, R78, R81, R82, R85). -/

namespace Sys2Proof.Machine

/-- SET_STORE_LOW (R81). -/
def doSetStoreLow (q : Asker) (n : Nat) (s : State) : State :=
  let s := storeLowTest { s with store := { s.store with low := min 512 n } }
  answer q .ok (.storeLow s.store.low s.store.freeCount s.store.armed) s

/-- No such segment: above 15, or EMPTY. -/
def State.noSegment (s : State) (n : Nat) : Bool := 15 < n || (s.seg n).state = .empty

/-- The entry belongs to the other port (R77). -/
def Segment.foreign (e : Segment) (p : Port) : Bool := e.owner = some (other p)

/-- DROP (R77). -/
def doDrop (q : Asker) (n : Nat) (s : State) : State :=
  if s.noSegment n then refuse q .noSuch s
  else if (s.seg n).foreign q.port then refuse q .foreign s
  else
    match (s.seg n).state with
    | .filling => refuse q .wrongState s
    | .sealed =>
      if (s.seg n).pins.any then
        answer q .ok (.dropped .releasing) (s.setSeg n { s.seg n with state := .releasing })
      else answer q .ok (.dropped .empty) (freeSegment n s)
    | .releasing => answer q .ok (.dropped .releasing) s
    | .empty => refuse q .noSuch s

/-- KEEP or UNKEEP: the kept flag takes `flag` (R78). -/
def setKept (flag : Bool) (q : Asker) (n : Nat) (s : State) : State :=
  if s.noSegment n then refuse q .noSuch s
  else if (s.seg n).foreign q.port then refuse q .foreign s
  else if (s.seg n).state = .releasing then refuse q .wrongState s
  else answer q .ok (.kept flag) (s.setSeg n { s.seg n with kept := flag })

def doKeep (q : Asker) (n : Nat) (s : State) : State := setKept true q n s
def doUnkeep (q : Asker) (n : Nat) (s : State) : State := setKept false q n s

/-- READ_RECORDS (R82, R83, R86): `lo` and `hi` are the from and to ticks. -/
def doReadRecords (q : Asker) (n lo hi : Nat) (s : State) : State :=
  let e := s.seg n
  if s.store.available = false then refuse q .wrongState s
  else if s.noSegment n then refuse q .noSuch s
  else if e.state ≠ .sealed then refuse q .wrongState s
  else if (s.ports.port q.port).stream.isSome then refuse q .wrongState s
  else if min hi e.stop < max lo e.start then refuse q .outOfRange s
  else
    let lo := max lo e.start
    let hi := min hi e.stop
    let p := s.firstPos n lo
    let base := (s.store.block (e.blockAt p)).base
    let count := s.streamCount n p hi
    let x : Stream :=
      { source := .records n, header := recordsHeader n lo hi p base count e, headerSent := false, pos := p, place := 0,
        left := count, cursor := 0, ended := false, want := none, acc := [], buffer := [], endQueued := false,
        cancelled := false, delivered := 0 }
    let s := answer q .accepted (.recordsStream lo hi count) (addPin n (setRead q.port) s)
    let s := setStream q.port (some x) s
    match q.port with
    | .console => s
    | .tether => pumpTether s

/-- What the store status says of an entry; of a FILLING one, the chain length at the last writer burst ended (R85). -/
def SegReport.of (e : Segment) : SegReport :=
  { state := e.state, owner := e.owner,
    chainLength := if e.state = .filling then e.burstChain else e.chain.length, trimmed := e.trimmed, start := e.start,
    stop := e.stop, trigger := e.trigger, reason := e.reason, order := e.order, index := e.index, losses := e.losses,
    kept := e.kept, pins := e.pins }

/-- The store status (R85). -/
def storeStatus (s : State) : ReplyBody :=
  .store s.store.freeCount s.store.low s.store.armed s.store.sealCounter (s.store.segs.map SegReport.of)

end Sys2Proof.Machine
end

