-- ==== Sys2Proof/Machine/DecoderRequests.lean ====
section
/-! DEFINITION. What the decoder slots', the annotation store's and the measurement engine's requests do once taken
(R106 to R108, R111, R112, R130 to R132, R139, R142, R147). -/

namespace Sys2Proof.Machine

/-! ## DEC_START (R106 to R108) -/

/-- The divider a slot's bit period comes from (R108). -/
def State.sourceDivider (s : State) : Source → Nat
  | .offline n _ _ => (s.seg n).latched.divider
  | .live =>
    match s.seq.seg with
    | some n => (s.seg n).latched.divider
    | none => s.fe.divider

/-- The checks of an OFFLINE source in turn (R106 step 5). -/
def sourceCheck (s : State) : Source → Option Status
  | .live => none
  | .offline n lo hi =>
    let e := s.seg n
    if s.store.available = false then some .wrongState
    else if s.noSegment n then some .noSuch
    else if e.state ≠ .sealed then some .wrongState
    else if min hi e.stop < max lo e.start then some .outOfRange
    else none

/-- The first check of R106 that fails. -/
def startCheck (slot : Nat) (proto : Protocol) (src : Source) (quota level : Nat) (s : State) : Option Status :=
  if 3 < slot then some .noSuch
  else if (s.slot slot).state ≠ .free then some .wrongState
  else if !(protocolInRange proto && 1 ≤ quota && quota ≤ Config.noteCount && level ≤ 32) then some .outOfRange
  else if Config.noteCount < s.quotas + quota then some .noRoom
  else
    match sourceCheck s src with
    | some st => some st
    | none => if periodShort (Protocol.periodFor (some proto) (s.sourceDivider src)) then some .outOfRange else none

/-- A slot record filled by DEC_START (R107). -/
def filledSlot (q : Asker) (proto : Protocol) (src : Source) (quota level : Nat) (s : State) : Slot :=
  { Slot.empty with
    state := .running
    starter := some q.port
    proto := some proto
    source := some src
    quota := quota
    level := level
    period := Protocol.periodFor (some proto) (s.sourceDivider src) }

/-- A LIVE slot starts: WAITING in IDLE; RUNNING otherwise, with its starting entry from the tap (R34, R107). Where it
makes the tap active while samples are taken, the tap t_last is the current tick (DESIGN CHOICE, log 73): the inactive
tap placed no records, and an event is one or two (R35). -/
def startLive (q : Asker) (k : Nat) (proto : Protocol) (quota level : Nat) (s : State) : State :=
  let x := filledSlot q proto .live quota level s
  match s.seq.acq with
  | .idle => answer q .accepted (.slotStarted .waiting x.period none) (s.setSlot k { x with state := .waiting })
  | .draining => answer q .accepted (.slotStarted .running x.period none) (s.setSlot k { x with joinNext := true })
  | _ =>
    let joining := if s.tap.gapOpen then s.tap.joining else s.tap.joining ++ [k]
    answer q .accepted (.slotStarted .running x.period none)
      { s.setSlot k x with
        tap := { s.tap with joining := joining }
        comp := { s.comp with tapTime := if s.tapActive then s.comp.tapTime else s.fe.tick } }

/-- An OFFLINE slot starts on segment `n` (R107). Before its first record the tick reached is the base tick of the block
it reads from, which R107 leaves open (DESIGN CHOICE, log 58). -/
def startOffline (q : Asker) (k : Nat) (proto : Protocol) (n lo hi quota level : Nat) (s : State) : State :=
  let e := s.seg n
  let lo := max lo e.start
  let hi := min hi e.stop
  let p := s.firstPos n lo
  let x := filledSlot q proto (.offline n lo hi) quota level s
  let x := { x with reading := some { pos := p, place := 0, reached := (s.store.block (e.blockAt p)).base } }
  answer q .accepted (.slotStarted .running x.period (some (lo, hi)))
    (addPin n (fun pins => { pins with decode := pins.decode + 1 }) (s.setSlot k x))

/-- DEC_START (R106, R107). -/
def doDecStart (q : Asker) (slot : Nat) (proto : Protocol) (src : Source) (quota level : Nat) (s : State) : State :=
  match startCheck slot proto src quota level s with
  | some st => refuse q st s
  | none =>
    match src with
    | .live => startLive q slot proto quota level s
    | .offline n lo hi => startOffline q slot proto n lo hi quota level s

/-! ## The other slot requests -/

/-- Steps 1 and 2 of R111. -/
def slotCheck (q : Asker) (k : Nat) (s : State) : Option Status :=
  if 3 < k ∨ (s.slot k).state = .free then some .noSuch
  else if (s.slot k).starter ≠ some q.port then some .foreign
  else none

/-- DEC_STOP (R111). -/
def doDecStop (q : Asker) (k : Nat) (s : State) : State :=
  match slotCheck q k s with
  | some st => refuse q st s
  | none =>
    if (s.slot k).state = .running ∨ (s.slot k).state = .waiting then answer q .ok .none (stopSlot k .request s)
    else refuse q .wrongState s

/-- DEC_CLEAR (R112). A pin it drops may purge some of the slot's annotations first; the count is of all removed. -/
def doDecClear (q : Asker) (k : Nat) (s : State) : State :=
  match slotCheck q k s with
  | some st => refuse q st s
  | none => answer q .ok (.removed (s.notesOf k).length) (freeSlot k s)

/-- QUEUE_TAKE (R130). -/
def doQueueTake (q : Asker) (k n : Nat) (s : State) : State :=
  match slotCheck q k s with
  | some st => refuse q st s
  | none =>
    if 32 < n then refuse q .outOfRange s
    else
      let x := s.slot k
      let left := x.queue.drop n
      answer q .ok (.taken (x.queue.take n) x.queue.length (x.queue.length = 32) x.drops)
        (s.setSlot k { x with queue := left, drops := 0,
                              fullNotice := if left.length < 32 then false else x.fullNotice })

/-- QUEUE_PEEK (R131). -/
def doQueuePeek (q : Asker) (k : Nat) (s : State) : State :=
  let x := s.slot k
  if 3 < k ∨ x.state = .free then refuse q .noSuch s
  else answer q .ok (.peeked x.queue.head? x.queue.length x.drops) s

/-- READ_NOTES (R139). -/
def doReadNotes (q : Asker) (k n lo hi limit : Nat) (s : State) : State :=
  if 3 < k ∨ (s.slot k).state = .free then refuse q .noSuch s
  else if s.noSegment n then refuse q .noSuch s
  else if limit = 0 ∨ 4096 < limit ∨ hi < lo then refuse q .outOfRange s
  else if (s.ports.port q.port).stream.isSome then refuse q .wrongState s
  else
    let list := s.notesOf k
    let count := min limit (list.filter (noteSelected n lo hi)).length
    let x : Stream :=
      { source := .notes k n lo hi, header := notesHeader k n lo hi limit count, headerSent := false, pos := 0, place := 0,
        left := limit, cursor := 0, ended := list.length = 0, want := none, acc := [], buffer := [],
        endQueued := false, cancelled := false, delivered := 0 }
    let s := setStream q.port (some x) (answer q .accepted (.notesStream count) s)
    match q.port with
    | .console => s
    | .tether => pumpTether s

def SlotReport.of (s : State) (k : Nat) : SlotReport :=
  let x := s.slot k
  { state := x.state, starter := x.starter, proto := x.proto, source := x.source, quota := x.quota,
    notes := (s.notesOf k).length, tag := x.tag, reached := x.reading.map (·.reached), period := x.period, queued := x.queue.length,
    drops := x.drops, level := x.level, cause := x.cause, truncation := x.truncation }

/-- The decoder status (R132). -/
def decoderStatus (s : State) : ReplyBody := .decoders ((List.range 4).map (SlotReport.of s)) s.quotas

/-! ## Measurements -/

/-- MEASURE (R142, R145). -/
def doMeasure (q : Asker) (n a b : Nat) (mask : Half) (s : State) : State :=
  if s.store.available = false then refuse q .wrongState s
  else if s.meas.st = .busy then refuse q .wrongState s
  else if s.noSegment n then refuse q .noSuch s
  else if (s.seg n).state = .releasing then refuse q .wrongState s
  else
    let lo := min a b
    let hi := max a b
    let s := answer q .accepted (.measuring lo hi) (addPin n (fun p => { p with measure := true }) s)
    let s := { s with meas := { Measure.reset with st := .busy, port := q.port, seg := n, a := lo, b := hi, mask := mask,
                                                   acct := lo } }
    if lo = hi then completeMeasure s else s

/-- MEASURE_RESULT (R147). -/
def doMeasureResult (q : Asker) (s : State) : State :=
  match s.meas.st, s.meas.result with
  | .empty, _ => refuse q .noSuch s
  | .busy, _ => answer q .wrongState (.measureBusy s.meas.seg s.meas.a s.meas.b) s
  | .ready, some r => answer q .ok (.measured r) s
  | .ready, none => refuse q .noSuch s

end Sys2Proof.Machine
end

