-- ==== Sys2Proof/Machine/Rendering.lean ====
section
/-! DEFINITION. The renderer: column edges, classes, annotation cells, the frame from LATCH to its hand-off, and the
pixels the cells stand for (R148 to R169). -/

namespace Sys2Proof.Machine

/-! ## Columns (R159, R163) -/

/-- The columns a cursor is drawn in (R163). -/
def cursorColumns (l : Latch) : Option Nat → List Nat
  | none => []
  | some a => (List.range 300).filter fun c => l.edge c ≤ a && a < l.colEnd c

/-! ## Channel classes (R160, R161) -/

/-- The scan of records for one span: the state in force, the start of the loss it is in, the state at the span's
first tick, the edges inside, whether a loss touches the span. -/
structure Scan where
  cur : Half
  loss : Option Nat
  state : Half
  edges : Half
  hit : Bool

/-- One record met while `[lo, hi)` is scanned (R160). -/
def Scan.step (lo hi : Nat) (x : Scan) (r : TimedRec) : Scan :=
  match r.item with
  | .base false st => { x with cur := st, state := if r.time ≤ lo then st else x.state }
  | .base true _ => { x with loss := some (x.loss.getD r.time) }
  | .trans _ st =>
    { x with cur := st, state := if r.time ≤ lo then st else x.state,
             edges := if lo < r.time ∧ r.time < hi then x.edges ||| (x.cur ^^^ st) else x.edges }
  | .extend _ => x
  | .mark _ .lossBegin _ => { x with loss := some (x.loss.getD r.time) }
  | .mark _ .lossEnd _ =>
    { x with loss := none, hit := x.hit || (match x.loss with
        | some a => a < hi && lo < r.time
        | none => false) }
  | .mark _ _ _ => x

/-- What a span `[a, b)` of a segment from `start` to `stop` shows, from its records (R161). A loss still open extends
to the end tick (R156). -/
def colData (recs : List TimedRec) (start stop a b : Nat) : ColData :=
  let lo := max a start
  let hi := min b stop
  if hi ≤ lo then .outside
  else
    let x := recs.foldl (Scan.step lo hi) { cur := 0, loss := none, state := 0, edges := 0, hit := false }
    let openHit := match x.loss with
      | some t => t < hi
      | none => false
    if x.hit || openHit then .unknown else .known x.edges x.state

/-- The class of channel `k` in a column (R161). -/
def ColData.cell (d : ColData) (k : Nat) : Cell :=
  match d with
  | .outside => .outside
  | .unknown => .unknown
  | .known edges state =>
    if edges.getLsbD k then .edge else if state.getLsbD k then .high else .low

/-- The columns from `c0` up, `n` of them. -/
def Latch.columns (l : Latch) (recs : List TimedRec) (start : Nat) : Nat → Nat → List ColData
  | _, 0 => []
  | c, n + 1 => colData recs start l.stop (l.edge c) (l.colEnd c) :: Latch.columns l recs start (c + 1) n

/-- All columns of a frame: those classified before a trim stand (R156). -/
def allColumns (l : Latch) (d : Reader) : List ColData :=
  match l.seg with
  | none => List.replicate 300 .outside
  | some _ => d.frozen ++ l.columns d.recs d.frameStart d.frozen.length (300 - d.frozen.length)

/-! ## Annotation cells (R164, R165) -/

/-- The kinds drawn hatched: GAP, PARITY_ERR, FRAME_ERR, BUS_ERR (R164). -/
def hatchedKind (kind : Nat) : Bool := kind = 1 || kind = 3 || kind = 4 || kind = 13

/-- The columns an entry covers (R164). -/
def coveredColumns (l : Latch) (e : Note) : List Nat :=
  (List.range 300).filter fun c => l.edge c < e.stop && e.start < l.colEnd c

/-- Digits of a label (R165). -/
def labelDigits (v : Nat) : Nat := if v ≤ 0xFF then 2 else if v ≤ 0x1FF then 3 else 4

/-- The hexadecimal digit `i` of `digits`, the most significant first. -/
def hexDigit (v digits i : Nat) : Nat := v / 16 ^ (digits - 1 - i) % 16

/-- The label of an entry over the row's labels so far (R165): glyph and glyph column per column, the sixth column of a
glyph's cell blank. -/
def putLabel (l : Latch) (height : Nat) (labels : List (Option (Nat × Nat))) (e : Note) : List (Option (Nat × Nat)) :=
  let cols := coveredColumns l e
  let n := cols.length
  let d := labelDigits e.value
  if 6 * d + 2 ≤ n ∧ 9 ≤ height then
    let first := cols.headD 0 + (n - 6 * d) / 2
    (List.range 300).map fun c =>
      if first ≤ c ∧ c < first + 6 * d then some (hexDigit e.value d ((c - first) / 6), (c - first) % 6)
      else labels.getD c none
  else labels

/-- The fill of an entry over the row's fills so far: covered, and hatched or not. -/
def putFill (l : Latch) (fills : List (Option Bool)) (e : Note) : List (Option Bool) :=
  (List.range 300).map fun c =>
    if l.edge c < e.stop ∧ e.start < l.colEnd c then some (hatchedKind e.kind) else fills.getD c none

/-- The cells of an ANNOTATION row over the selected entries `sel` of a slot's list, in list order (R164, R165). -/
def annotationRow (l : Latch) (height : Nat) (sel : List Note) : List Cell :=
  let fills := sel.foldl (putFill l) (List.replicate 300 none)
  let labels := sel.foldl (putLabel l height) (List.replicate 300 none)
  (List.range 300).map fun c =>
    match fills.getD c none with
    | some h => .bar h (labels.getD c none)
    | none => .none

/-! ## The trace table and dirty bands (R166 to R168) -/

/-- The walk of slot `k`'s list at the end of CLASSIFY: the entries left are examined then (R164; log 59). The list of
a FREE slot is empty. -/
def State.finishedWalk (s : State) (k : Nat) : NoteWalk :=
  NoteWalk.examine s.render.latch (s.notesOf k) ((s.notesOf k).length + 1) (s.walkOf k)

/-- The cells of one layout row. -/
def rowCells (s : State) (cols : List ColData) (r : Row) : List Cell :=
  match r.kind with
  | .channel k => cols.map fun d => d.cell k
  | .annotation k => annotationRow s.render.latch r.height (s.finishedWalk k).selected
  | .blank => List.replicate 300 .none

/-- The new trace table: the layout's rows, NONE beyond them (R156, R166). -/
def newTrace (s : State) : List (List Cell) :=
  let cols := allColumns s.render.latch s.render.reader
  let rows := s.render.latch.layout.map (rowCells s cols)
  rows ++ List.replicate (20 - rows.length) (List.replicate 300 .none)

/-- All fifteen bands. -/
def allBands : List Nat := List.range 15

/-- The bands a row from line `y` of height `h` touches (R167). -/
def rowBands (y h : Nat) : List Nat := allBands.filter fun b => y < 16 * b + 16 && 16 * b < y + h

/-- The bands of the rows that differ between two tables. -/
def changedBands : Nat → List Row → List (List Cell) → List (List Cell) → List Nat
  | y, r :: rs, a :: as, b :: bs =>
    (if a = b then [] else rowBands y r.height) ++ changedBands (y + r.height) rs as bs
  | _, _, _, _ => []

/-- The bands any layout row touches. -/
def layoutBands : Nat → List Row → List Nat
  | _, [] => []
  | y, r :: rs => rowBands y r.height ++ layoutBands (y + r.height) rs

/-- Add bands to a dirty set, kept in ascending order. -/
def addBands (dirty more : List Nat) : List Nat := allBands.filter fun b => dirty.contains b || more.contains b

/-- Bands marked dirty: one on the bus is marked again (R157). -/
def markBands (bands : List Nat) (s : State) : State :=
  let again := match s.panel.bus with
    | .band b => bands.contains b
    | _ => false
  { s with render := { s.render with dirty := addBands s.render.dirty bands }
           panel := { s.panel with remarked := s.panel.remarked || again } }

/-! ## LATCH (R75, R155) -/

/-- The SEALED segment with the greatest seal order, the lower number where two are equal. -/
def State.latestSealed (s : State) : Option Nat :=
  (bestSegment (fun e => e.state = .sealed) (fun a b => b.order < a.order) s.store.segs 0).map (·.1)

/-- The segment a view record resolves to (R155). -/
def State.resolve (s : State) : ViewSeg → Option Nat
  | .number n => some n
  | .follow => s.filling.orElse fun _ => s.latestSealed

/-- The segment that holds the VIEW pin, if any. -/
def State.viewed (s : State) : Option Nat :=
  (bestSegment (fun e => e.pins.view) (fun _ _ => false) s.store.segs 0).map (·.1)

/-- The VIEW pin moves to the named segment; the answer is that segment when it is available (R75). -/
def moveView (named : Option Nat) (s : State) : State × Option Nat :=
  let s := match s.viewed with
    | some v => if named = some v then s else dropPin v (fun p => { p with view := false }) s
    | none => s
  match named with
  | none => (s, none)
  | some n =>
    let e := s.seg n
    match e.state with
    | .filling => (addPin n (fun p => { p with view := true }) s, some n)
    | .sealed => (addPin n (fun p => { p with view := true }) s, some n)
    | .releasing => (s, if e.pins.view then some n else none)
    | .empty => (s, none)

/-- The latched T0 (R155). -/
def latchedT0 (v : View) (seg : Option Nat) (start stop : Nat) : Nat :=
  if v.follow ∧ seg ≠ none then
    if stop < 300 * v.scale / 256 then start else max start (stop - 300 * v.scale / 256)
  else v.t0

/-- No record is read for the frame (R156). -/
def Latch.readsNothing (l : Latch) : Bool :=
  l.seg = none || l.stop ≤ max (l.edge 0) l.start || l.colEnd 299 ≤ l.start

/-- LATCH fixes the frame's inputs and CLASSIFY begins; a changed layout or palette dirties every band
(R155, R156, R168). With no segment latched its start and end ticks are 0, which R155 leaves open (DESIGN CHOICE,
log 55). -/
def latchFrame (s : State) : State :=
  let r := s.render
  let m := moveView (s.resolve r.view.seg) s
  let s := m.1
  let start := match m.2 with
    | some n => (s.seg n).start
    | none => 0
  let stop := match m.2 with
    | some n => (s.seg n).stop
    | none => 0
  let l : Latch :=
    { seg := m.2, start := start, stop := stop, t0 := latchedT0 r.view m.2 start stop, scale := r.view.scale,
      layout := r.layout, palette := r.palette, cursorA := r.cursorA, cursorB := r.cursorB }
  let s := { s with render := { s.render with
    latch := l
    frame := .classifying
    reader := { done := l.readsNothing, pos := none, place := 0, time := 0, recs := [], frozen := [],
                frameStart := start, walks := List.replicate 4 NoteWalk.head } } }
  if l.layout ≠ r.latch.layout ∨ l.palette ≠ r.latch.palette then markBands allBands s else s

/-- A frame is requested (R153). -/
def requestFrame (s : State) : State :=
  if s.render.frame = .idle ∧ s.power.st ≠ .entry then latchFrame s
  else { s with render := { s.render with again := true } }

/-- The frame completes (R153, R157). -/
def completeFrame (s : State) : State :=
  let s := { s with render := { s.render with completed := (s.render.completed + 1) % 65536, frame := .idle } }
  if s.render.again ∧ s.power.st ≠ .entry then latchFrame { s with render := { s.render with again := false } }
  else s

/-! ## CLASSIFY (R156) -/

/-- The first grant fixes where the renderer reads from. When a trim since LATCH has left no block with a base tick at
or below the first tick needed, it reads from the first retained block, the latched start tick stands, and columns
before that block's base classify from state 0 (DESIGN CHOICE, log 56). -/
def renderLocate (s : State) : State :=
  match s.render.reader.pos, s.render.latch.seg with
  | none, some n =>
    let l := s.render.latch
    let p := s.firstPos n (max (l.edge 0) l.start)
    let t := (s.store.block ((s.seg n).blockAt p)).base
    { s with render := { s.render with reader := { s.render.reader with pos := some p, place := 0, time := t } } }
  | _, _ => s

/-- Read records until the frame needs no more (R156). -/
def Reader.read (lastEnd stop : Nat) : List Record → Reader → Reader
  | [], d => d
  | r :: rs, d =>
    let t := d.time + r.delta
    let d := { d with time := t, place := d.place + 1 }
    if lastEnd ≤ t ∨ stop < t then { d with done := true }
    else
      let d := { d with recs := d.recs ++ [{ time := t, item := r }] }
      match r with
      | .mark _ .stop _ => { d with done := true }
      | _ => Reader.read lastEnd stop rs d

/-- A burst's records reach the renderer: `full` says that they end the block as it stood at the grant, `tail` that the
block was then the chain's last. -/
def renderRecords (recs : List Record) (full tail : Bool) (s : State) : State :=
  let l := s.render.latch
  let d := Reader.read (l.colEnd 299) l.stop recs s.render.reader
  let d :=
    if d.done || !full then d
    else if tail then { d with done := true }
    else { d with pos := some (d.pos.getD 0 + 1), place := 0 }
  { s with render := { s.render with reader := d } }

/-- The TRIMMED answer: the columns complete so far stand, and reading resumes at the first retained block
(R156). -/
def renderTrimmed (s : State) : State :=
  match s.render.latch.seg with
  | none => s
  | some n =>
    let l := s.render.latch
    let d := s.render.reader
    let e := s.seg n
    let whole := ((List.range 300).filter fun c => l.colEnd c ≤ d.time).length
    { s with render := { s.render with reader :=
        { d with frozen := (allColumns l d).take (max whole d.frozen.length), recs := [], frameStart := e.start,
                 pos := some e.trimmed, place := 0, time := e.start } } }

/-- CLASSIFY ends: the walks are finished, the new cells are compared with the trace table and written into it (R156,
R164, R167). -/
def classifyCells (s : State) : State :=
  let r := s.render
  let table := newTrace s
  let a := cursorColumns r.latch r.latch.cursorA
  let b := cursorColumns r.latch r.latch.cursorB
  let bands :=
    if a ≠ r.drawnA ∨ b ≠ r.drawnB then layoutBands 0 r.latch.layout
    else changedBands 0 r.latch.layout r.trace table
  let s := markBands bands s
  { s with render := { s.render with
    trace := table
    drawnA := a
    drawnB := b
    reader := { s.render.reader with walks := (List.range 4).map s.finishedWalk } } }

/-! ## The live count (R154) -/

/-- The live condition. -/
def State.liveCondition (s : State) : Bool :=
  match s.resolve s.render.view.seg with
  | some n =>
    (s.seg n).state = .filling && (s.render.latch.seg ≠ some n || (s.seg n).stop ≠ s.render.latch.stop)
  | none => false

/-- A count event: the count rises up to the divider, and the live condition is tested at the divider (R154). -/
def countEvent (s : State) : State :=
  let c := min s.render.divider (s.render.liveCount + 1)
  let s := { s with render := { s.render with liveCount := c } }
  if c = s.render.divider ∧ s.liveCondition = true then
    requestFrame { s with render := { s.render with liveCount := 0 } }
  else s

/-! ## Drawing (R162 to R165, R179) -/

/-- The row a line falls in: its number, its first line, and the row. -/
def rowAt (y : Nat) : Nat → Nat → List Row → Option (Nat × Nat × Row)
  | _, _, [] => none
  | i, y0, r :: rs => if y < y0 + r.height then some (i, y0, r) else rowAt y (i + 1) (y0 + r.height) rs

/-- The palette index of pixel (`x`, `y`) of a row cell, `left` being the cell to its left (R162, R164, R165). -/
def cellIndex (cell : Cell) (left : Option Cell) (x y y0 : Nat) (r : Row) : Nat :=
  let inside := y0 + 1 ≤ y && y ≤ y0 + r.height - 2
  if !inside then 0
  else
    match cell with
    | .outside => 0
    | .none => 0
    | .unknown => if (x + y) % 4 = 0 then 1 else 0
    | .edge => r.colour
    | .low => if y = y0 + r.height - 2 ∨ left = some .high then r.colour else 0
    | .high => if y = y0 + 1 ∨ left = some .low then r.colour else 0
    | .bar hatch label =>
      let ground := if !hatch || (x + y) % 4 = 0 then r.colour else 0
      match label with
      | none => ground
      | some (digit, column) =>
        let line := y0 + (r.height - 7) / 2
        if line ≤ y ∧ y < line + 7 ∧ column < 5 ∧ Config.glyph digit (y - line) column = true then 0 else ground

/-- The colour of plot pixel (`x`, `y`) of the latched frame (R162 to R165, R179). -/
def State.pixel (s : State) (x y : Nat) : Half :=
  let r := s.render
  let c := x - 20
  let last := (r.latch.layout.map (·.height)).sum
  let colour := fun (i : Nat) => r.latch.palette.getD i 0
  if y < last ∧ r.drawnB.contains c = true then colour 7
  else if y < last ∧ r.drawnA.contains c = true then colour 6
  else
    match rowAt y 0 0 r.latch.layout with
    | none => colour 0
    | some (i, y0, row) =>
      let cells := r.trace.getD i []
      let left := if c = 0 then none else some (cells.getD (c - 1) .none)
      colour (cellIndex (cells.getD c .none) left x y y0 row)

end Sys2Proof.Machine
end

