-- ==== Sys2Proof/Machine/PanelLink.lean ====
section
/-! DEFINITION. The panel link: window transfers, band and chunk plans, the bus arbiter, emission, overlay changes and
the panel's state moves (R170 to R185). -/

namespace Sys2Proof.Machine

/-! ## Transfers (R170) -/

/-- A parameter byte on the data lines; the upper eight are low. -/
def param (b : Nat) : Transfer := .data (BitVec.ofNat 16 (b % 256))

/-- A pixel: one transfer on a 16-bit bus, high byte first on an 8-bit one. -/
def pixelTransfers (width : Nat) (p : Half) : List Transfer :=
  if width = 8 then [param (p.toNat / 256), param p.toNat] else [.data p]

/-- A window write of columns `x0` to `x1` and lines `y0` to `y1`. -/
def windowTransfers (r : PanelSetup) (x0 x1 y0 y1 : Nat) (pixels : List Half) : List Transfer :=
  [.command r.colWindow, param (x0 / 256), param x0, param (x1 / 256), param x1,
   .command r.rowWindow, param (y0 / 256), param y0, param (y1 / 256), param y1, .command r.memWrite] ++
    pixels.flatMap (pixelTransfers r.width)

/-! ## Bands (R179) -/

/-- Pixel (`x`, `y`) lies in a registered overlay. -/
def covered (list : List (Option Rect)) (x y : Nat) : Bool :=
  list.any fun o =>
    match o with
    | some r => r.x ≤ x && x < r.x + r.w && r.y ≤ y && y < r.y + r.h
    | none => false

/-- The written set of line `y`: the panel columns of the plot under no overlay. -/
def writtenSet (list : List (Option Rect)) (y : Nat) : List Nat :=
  ((List.range 300).map (· + 20)).filter fun x => !covered list x y

/-- Maximal runs of consecutive columns, as first and last. -/
def columnRuns : List Nat → List (Nat × Nat)
  | [] => []
  | x :: xs =>
    match columnRuns xs with
    | (a, b) :: r => if a = x + 1 then (x, b) :: r else (x, x) :: (a, b) :: r
    | [] => [(x, x)]

/-- Consecutive lines with equal written sets: first line, last line, set. -/
def lineGroups : List (Nat × List Nat) → List (Nat × Nat × List Nat)
  | [] => []
  | (y, w) :: r =>
    match lineGroups r with
    | (a, b, v) :: g => if v = w then (y, b, v) :: g else (y, y, w) :: (a, b, v) :: g
    | [] => [(y, y, w)]

/-- The windows of band `b`: columns and lines, first and last (R179). -/
def bandWindows (list : List (Option Rect)) (b : Nat) : List (Nat × Nat × Nat × Nat) :=
  (lineGroups ((List.range 16).map fun i => (16 * b + i, writtenSet list (16 * b + i)))).flatMap fun g =>
    (columnRuns g.2.2).map fun c => (c.1, c.2, g.1, g.2.1)

/-- The numbers from `a` to `b`. -/
def span (a b : Nat) : List Nat := (List.range (b + 1 - a)).map (· + a)

/-- The transfers of band `b`. -/
def bandTransfers (s : State) (r : PanelSetup) (b : Nat) : List Transfer :=
  (bandWindows s.panel.overlays b).flatMap fun w =>
    windowTransfers r w.1 w.2.1 w.2.2.1 w.2.2.2
      ((span w.2.2.1 w.2.2.2).flatMap fun y => (span w.1 w.2.1).map fun x => s.pixel x y)

/-! ## Overlay chunks (R184) -/

/-- The windows of a chunk of `n` pixels from `offset` in rectangle `r`: one per line it touches. -/
def chunkTransfers (p : PanelSetup) (r : Rect) : Nat → Nat → List Half → List Transfer
  | 0, _, _ => []
  | fuel + 1, offset, pixels =>
    if pixels.length = 0 ∨ r.w = 0 then []
    else
      let j := offset / r.w
      let i := offset % r.w
      let n := min (r.w - i) pixels.length
      windowTransfers p (r.x + i) (r.x + i + n - 1) (r.y + j) (r.y + j) (pixels.take n) ++
        chunkTransfers p r fuel (offset + n) (pixels.drop n)

/-- The setup record. While it is unloaded nothing is sent, and PANEL_STATUS reports bus width 16, TE not used, RISING and
wake delay 0, for which R186 gives no values (DESIGN CHOICE, log 71). -/
def Panel.codes (p : Panel) : PanelSetup :=
  p.setup.getD { width := 16, colWindow := 0, rowWindow := 0, memWrite := 0, sleepIn := 0, sleepOut := 0, displayOn := 0,
                 displayOff := 0, wakeDelay := 0, teUsed := .off, tePolarity := 0, init := [] }

def Panel.teUsed (p : Panel) : Bool := p.codes.teUsed = .on

/-- The queue's level in pixels. -/
def queueLevel (q : List PixelRun) : Nat := (q.map fun r => r.pixels.length).sum

/-- Grant a chunk of the head run. -/
def grantChunk (s : State) : State :=
  match s.panel.queue with
  | [] => s
  | run :: _ =>
    let n := min 256 run.pixels.length
    let rect := (s.panel.overlays.getD run.id none).getD { x := 0, y := 0, w := 0, h := 0 }
    { s with panel := { s.panel with
        bus := .chunk n
        out := chunkTransfers s.panel.codes rect 256 run.offset (run.pixels.take n) } }

/-- The chunk's pixels leave the queue, and with its last pixel the run. -/
def dropChunk (n : Nat) : List PixelRun → List PixelRun
  | [] => []
  | r :: rs =>
    if r.pixels.length ≤ n then rs else { r with offset := r.offset + n, pixels := r.pixels.drop n } :: rs

/-! ## Ending emission (R178, R180, R181) -/

/-- Emission ends, the torn mark is counted, and the frame completes. -/
def endEmission (s : State) : State :=
  let p := s.panel
  completeFrame { s with panel := { p with
    emission := .idle
    handOff := []
    torn := if p.tornMark then satSucc 65535 p.torn else p.torn
    tornMark := false
    leaving := false } }

/-- Band `b` is reported written (R157, R178). -/
def reportBand (b : Nat) (s : State) : State :=
  let dirty := if s.panel.remarked then s.render.dirty else s.render.dirty.filter (· ≠ b)
  let s := { s with render := { s.render with dirty := dirty }
                    panel := { s.panel with handOff := s.panel.handOff.filter (· ≠ b), remarked := false } }
  if s.panel.leaving ∨ s.panel.handOff = [] then endEmission s else s

/-- The panel leaves SHOWING: the TE watch stops and emission ends, after the band on the bus if there is one
(R173, R174, R177, R180). -/
def leaveShowing (s : State) : State :=
  let s := { s with panel := { s.panel with teTimer := false, teMissing := false } }
  match s.panel.emission, s.panel.bus with
  | .idle, _ => s
  | .emitting, .band _ => { s with panel := { s.panel with leaving := true } }
  | _, _ => endEmission s

/-! ## Command sequences (R172 to R174) -/

/-- The transfers of an init command. -/
def initTransfers (code : Byte) (params : List Byte) : List Transfer :=
  .command code :: params.map fun b => param b.toNat

/-- The init commands before the next delay, or before the display-on command (R172), each with its transfers. -/
def initCommands : List InitEntry → List (List Transfer)
  | .command code ps :: r => initTransfers code ps :: initCommands r
  | _ => []

/-- The init entries after the next delay, if there is one (R172). -/
def afterDelay : List InitEntry → Option (List InitEntry)
  | [] => none
  | .delay _ :: r => some r
  | .command _ _ :: r => afterDelay r

/-- What the rest of a start sequence sends before it is abandoned when it has come on by `n` init commands: the command
in progress completes, a delay is cut short, a display-on command on the bus ends (R173; log 27, log 60). -/
def sentInit (displayOn : Byte) (left : List InitEntry) (n : Nat) : List Transfer :=
  ((initCommands left).take (n + 1)).flatten ++
    (if (initCommands left).length ≤ n ∧ afterDelay left = none then [.command displayOn] else [])

/-- Run a command sequence. -/
def runSeq (q : PanelSeq) (s : State) : State :=
  let p := s.panel
  let c := p.codes
  match q with
  | .start => { s with panel := { p with out := [], bus := .start c.init } }
  | .off => { s with panel := { p with out := [.command c.displayOff, .command c.sleepIn], bus := .off } }
  | .sleepIn => { s with panel := { p with out := [.command c.sleepIn], bus := .sleepIn } }
  | .wake => { s with panel := { p with out := [.command c.sleepOut], bus := .wakeDelay } }
  | .sleepOut => { s with panel := { p with out := [.command c.sleepOut] } }

/-- The command sequences that wait are granted the bus: the first of them, with the one command of each wake before it
that was abandoned while it waited (R173, R175; log 28). -/
def runWaiting : List PanelSeq → State → State
  | [], s => s
  | q :: rest, s =>
    let s := runSeq q { s with panel := { s.panel with waiting := rest } }
    if q = .sleepOut ∧ rest ≠ [] then
      let t := runWaiting rest s
      { t with panel := { t.panel with out := s.panel.out ++ t.panel.out } }
    else s

/-! ## Overlay changes (R182) -/

/-- Band `b` holds a plot pixel of rectangle `r` that no overlay of `list` covers. -/
def uncoversBand (list : List (Option Rect)) (r : Rect) (b : Nat) : Bool :=
  (List.range r.h).any fun j =>
    (r.y + j) / 16 = b && (List.range r.w).any fun i => 20 ≤ r.x + i && !covered list (r.x + i) (r.y + j)

/-- An overlay change is applied: the list, the runs of its id, the bands uncovered, its reply, a frame. -/
def applyChange (c : OverlayChange) (s : State) : State :=
  let old := s.panel.overlays.getD c.id none
  let list := s.panel.overlays.set c.id c.rect
  let s := { s with panel := { s.panel with overlays := list, queue := s.panel.queue.filter fun r => r.id ≠ c.id } }
  let s := match old with
    | some r => markBands (allBands.filter (uncoversBand list r)) s
    | none => s
  let s := match c.reply with
    | some q => answerDeferred q .ok .none false s
    | none => s
  requestFrame s

/-- Apply the pending changes in the order taken. -/
def applyChanges : List OverlayChange → State → State
  | [], s => s
  | c :: r, s => applyChanges r (applyChange c s)

/-! ## The bus arbiter (R185) -/

/-- An emission told to start becomes EMITTING at the boundary (R178). -/
def beginEmission (s : State) : State :=
  if s.panel.emission = .waiting true then
    { s with panel := { s.panel with emission := .emitting, tornMark := false } }
  else s

/-- Start the next band; one wholly under overlays is reported at once (R179). -/
def startBand (s : State) : State :=
  match s.panel.handOff with
  | [] => endEmission s
  | b :: _ =>
    if bandWindows s.panel.overlays b = [] then reportBand b { s with panel := { s.panel with remarked := false } }
    else { s with panel := { s.panel with bus := .band b, remarked := false,
                                          out := bandTransfers s s.panel.codes b } }

/-- The grant at a bus boundary; `afterBand` says that a band has just ended. `fuel` bounds the things that end at the
boundary they start at. The boundary at which a covered band is reported is not the end of a band: no chunk is granted
there before the next band (DESIGN CHOICE, log 70). -/
def busGrant : Nat → Bool → State → State
  | 0, _, s => s
  | fuel + 1, afterBand, s =>
    let s := beginEmission s
    match s.panel.waiting with
    | q :: rest =>
      let s := runWaiting (q :: rest) s
      if s.panel.bus = .idle then busGrant fuel false s else s
    | [] =>
      let pixels := s.panel.queue ≠ [] && s.panel.st = .showing
      if s.panel.emission = .emitting then
        if afterBand && pixels then grantChunk s
        else
          let s := startBand s
          if s.panel.bus = .idle then busGrant fuel false s else s
      else if pixels then grantChunk s
      else s

/-- A bus boundary: pending overlay changes are applied, then the bus is granted (R182, R185). -/
def busBoundary (afterBand : Bool) (s : State) : State :=
  if s.panel.bus = .idle then
    busGrant 64 afterBand (applyChanges s.panel.changes { s with panel := { s.panel with changes := [] } })
  else s

/-- While the bus is idle every moment is a boundary; the pending overlay changes wait for their own event, or for the
next grant (log 40). -/
def pokeBus (s : State) : State :=
  let p := s.panel
  let wants := p.waiting ≠ [] || p.emission = .emitting || p.emission = .waiting true ||
    (p.queue ≠ [] && p.st = .showing)
  if p.bus = .idle && wants then busBoundary false s else s

/-- What the bus carried ends: a bus boundary. -/
def busEnds (afterBand : Bool) (s : State) : State :=
  busBoundary afterBand { s with panel := { s.panel with bus := .idle } }

/-! ## The hand-off (R157, R178) -/

/-- After CLASSIFY: the frame completes, or its dirty bands go to the panel link. -/
def handOffFrame (s : State) : State :=
  if s.render.dirty = [] ∨ s.panel.st ≠ .showing then completeFrame s
  else
    let go := !(s.panel.teUsed && !s.panel.teMissing)
    pokeBus { s with
      render := { s.render with frame := .emitting }
      panel := { s.panel with handOff := s.render.dirty, tornMark := false,
                              emission := if go then .emitting else .waiting false } }

/-! ## Panel states (R172 to R175) -/

/-- The panel reaches SHOWING from WAKING or STARTING: the TE watch starts (R177). -/
def startTeWatch (s : State) : State := { s with panel := { s.panel with teTimer := s.panel.teUsed } }

/-- The arrival at SHOWING from STARTING (R172). -/
def reachShowing (s : State) : State :=
  let lost := s.panel.overlays.any (·.isSome)
  let s := { s with panel := { s.panel with st := .showing, overlays := List.replicate 4 none, queue := [] } }
  let s := if lost then raiseBoth .panelEvent 2 s else s
  startTeWatch (requestFrame (markBands allBands s))

/-- A start or wake in progress is abandoned: what still waits is not sent, a delay is cut short (R173, R175). -/
def Panel.abandon (p : Panel) : Panel :=
  { p with
    waiting := (p.waiting.filter (· ≠ .start)).map fun q => if q = .wake then .sleepOut else q
    bus := match p.bus with
      | .start _ => .idle
      | .wakeDelay => .idle
      | b => b }

/-- The panel turns OFF: a start or wake in progress is abandoned and the off sequence queued (R173). -/
def queueOff (s : State) : State :=
  let s := leaveShowing { s with panel := { s.panel.abandon with st := .off, dormantSleep := false } }
  pokeBus { s with panel := { s.panel with waiting := s.panel.waiting ++ [.off] } }

/-- The panel turns OFF (R173). Of a start sequence on the bus the init command in progress completes, and the off
sequence follows it; how far the sequence has come is a free value (log 60). -/
def turnOff (s : State) : State :=
  match s.panel.bus with
  | .start left =>
    let sent := s.panel.out ++ sentInit s.panel.codes.displayOn left (Config.initSent s.free)
    let s := queueOff { s with free := s.free + 1 }
    { s with panel := { s.panel with out := sent ++ s.panel.out } }
  | _ => queueOff s

/-- The panel goes to sleep from SHOWING or WAKING (R174, R175); `dormant` sets the dormant-sleep flag. -/
def sleepPanel (dormant : Bool) (s : State) : State :=
  let s := leaveShowing { s with panel := { s.panel.abandon with st := .sleeping, dormantSleep := dormant } }
  pokeBus { s with panel := { s.panel with waiting := s.panel.waiting ++ [.sleepIn] } }

/-- The wake sequence is taken (R174). -/
def wakePanel (s : State) : State :=
  pokeBus { s with panel := { s.panel with st := .waking, waiting := s.panel.waiting ++ [.wake] } }

/-- The power unit asks for the panel's sleep at DORMANT entry (R175). -/
def sleepForEntry (s : State) : State :=
  match s.panel.st with
  | .showing => sleepPanel true s
  | .waking => sleepPanel true s
  | .starting => turnOff s
  | .off => { s with panel := { s.panel with dormantSleep := false } }
  | .sleeping => { s with panel := { s.panel with dormantSleep := false } }

/-- The power unit asks for the panel's sleep at a battery cutoff (R175). -/
def sleepForCutoff (s : State) : State :=
  match s.panel.st with
  | .showing => sleepPanel s.panel.dormantSleep s
  | .waking => sleepPanel s.panel.dormantSleep s
  | .starting => s
  | .off => s
  | .sleeping => s

/-- The bus carries or awaits a command sequence (R171). -/
def Panel.seqBusy (p : Panel) : Bool :=
  p.waiting ≠ [] ||
    match p.bus with
    | .start _ => true
    | .off => true
    | .sleepIn => true
    | .wakeDelay => true
    | _ => false

/-- The ranges of a setup record (R171). -/
def setupInRange (r : PanelSetup) : Bool :=
  (r.width = 8 || r.width = 16) && r.wakeDelay ≤ 255 && r.teUsed ≠ .unknown && r.tePolarity ≤ 1 &&
    r.init.length ≤ 32 &&
    r.init.all fun e =>
      match e with
      | .command _ ps => ps.length ≤ 4
      | .delay ms => 1 ≤ ms && ms ≤ 255

end Sys2Proof.Machine
end

