-- ==== Sys2Proof/Machine/DisplayRequests.lean ====
section
/-! DEFINITION. What the renderer's and the panel link's requests do once taken (R148 to R152, R169, R171 to R174,
R182, R183, R186). -/

namespace Sys2Proof.Machine

/-- SET_VIEW (R148). -/
def doSetView (q : Asker) (seg : ViewSeg) (t0 scale : Nat) (follow : Bool) (s : State) : State :=
  let bad : Bool := match seg with
    | .number n => 15 < n
    | .follow => false
  if bad then refuse q .outOfRange s
  else
    let t0 := min t0 140737488355327
    let scale := clampNat 16 4294967296 scale
    requestFrame (answer q .ok (.viewed t0 scale)
      { s with render := { s.render with view := { seg := seg, t0 := t0, scale := scale, follow := follow,
                                                   setter := some q.port } } })

/-- A row as SET_LAYOUT carries it, when it is legal (R149). -/
def rowOf? (r : RowReq) : Option Row :=
  let kind : Option RowKind :=
    if r.kind = 0 ∧ r.subject ≤ 15 then some (.channel r.subject)
    else if r.kind = 1 ∧ r.subject ≤ 3 then some (.annotation r.subject)
    else if r.kind = 2 then some .blank
    else none
  match kind with
  | some k => if 4 ≤ r.height ∧ r.height ≤ 32 ∧ r.colour ≤ 7 then some { kind := k, height := r.height, colour := r.colour }
              else none
  | none => none

/-- A whole layout, when every row is legal and there are 1 to 20 (R149). -/
def layoutOf? (rows : List RowReq) : Option (List Row) :=
  if 1 ≤ rows.length ∧ rows.length ≤ 20 then rows.mapM rowOf? else none

/-- SET_LAYOUT (R149). -/
def doSetLayout (q : Asker) (rows : List RowReq) (s : State) : State :=
  match layoutOf? rows with
  | none => refuse q .outOfRange s
  | some l => requestFrame (answer q .ok .none { s with render := { s.render with layout := l } })

/-- SET_PALETTE (R150). No frame carries another number of colours than eight (R218). -/
def doSetPalette (q : Asker) (colours : List Half) (s : State) : State :=
  if colours.length = 8 then
    requestFrame (answer q .ok .none { s with render := { s.render with palette := colours } })
  else refuse q .badForm s

/-- SET_CURSORS (R151). -/
def doSetCursors (q : Asker) (a b : Option Nat) (s : State) : State :=
  requestFrame (answer q .ok .none { s with render := { s.render with cursorA := a, cursorB := b } })

/-- SET_LIVE_DIVIDER (R152). -/
def doSetLiveDivider (q : Asker) (n : Nat) (s : State) : State :=
  if 1 ≤ n ∧ n ≤ 8 then
    answer q .ok .none { s with render := { s.render with divider := n, liveCount := min n s.render.liveCount } }
  else refuse q .outOfRange s

/-- The render status (R169). -/
def renderStatus (s : State) : ReplyBody :=
  let r := s.render
  .render r.view r.latch.seg r.latch.start r.latch.stop r.latch.t0 (r.latch.edge 0) (r.latch.colEnd 299) r.layout
    r.palette r.cursorA r.cursorB r.divider r.liveCount r.frame r.again r.dirty r.completed

/-- PANEL_SETUP (R171). -/
def doPanelSetup (q : Asker) (r : PanelSetup) (s : State) : State :=
  if s.panel.st ≠ .off ∨ s.panel.seqBusy = true then refuse q .wrongState s
  else if setupInRange r then answer q .ok .none { s with panel := { s.panel with setup := some r } }
  else refuse q .outOfRange s

/-- PANEL_ON (R172). -/
def doPanelOn (q : Asker) (s : State) : State :=
  if s.panel.st = .off ∧ s.panel.setup.isSome = true then
    pokeBus (answer q .accepted .none
      { s with panel := { s.panel with st := .starting, torn := 0, waiting := s.panel.waiting ++ [.start] } })
  else refuse q .wrongState s

/-- PANEL_OFF (R173). -/
def doPanelOff (q : Asker) (s : State) : State :=
  if s.panel.st = .off then refuse q .wrongState s else turnOff (answer q .ok .none s)

/-- PANEL_SLEEP (R174). -/
def doPanelSleep (q : Asker) (s : State) : State :=
  if s.panel.st = .showing then sleepPanel s.panel.dormantSleep (answer q .ok .none s) else refuse q .wrongState s

/-- PANEL_WAKE (R174). -/
def doPanelWake (q : Asker) (s : State) : State :=
  if s.panel.st = .sleeping then wakePanel (answer q .accepted .none s) else refuse q .wrongState s

/-- An overlay change joins those pending; its reply is deferred (R182, R188). -/
def pendChange (q : Asker) (id : Nat) (r : Option Rect) (s : State) : State :=
  defer q { s with panel := { s.panel with changes := s.panel.changes ++ [{ id := id, rect := r, reply := some q }] } }

/-- OVERLAY_SET (R182). -/
def doOverlaySet (q : Asker) (id x y w h : Nat) (s : State) : State :=
  if 3 < id then refuse q .noSuch s
  else if w = 0 ∨ h = 0 ∨ 320 < x + w ∨ 240 < y + h then refuse q .outOfRange s
  else pendChange q id (some { x := x, y := y, w := w, h := h }) s

/-- OVERLAY_CLEAR (R182). -/
def doOverlayClear (q : Asker) (id : Nat) (s : State) : State :=
  if 3 < id ∨ s.panel.overlays.getD id none = none then refuse q .noSuch s
  else pendChange q id none s

/-- OVERLAY_PIXELS (R183). -/
def doOverlayPixels (q : Asker) (id offset : Nat) (pixels : List Half) (s : State) : State :=
  match (if 3 < id then none else s.panel.overlays.getD id none) with
  | none => refuse q .noSuch s
  | some r =>
    if pixels.length = 0 ∨ r.w * r.h < offset + pixels.length then refuse q .outOfRange s
    else if Config.overlayPixels < queueLevel s.panel.queue + pixels.length then refuse q .noRoom s
    else
      pokeBus (answer q .ok (.queueLevel (queueLevel s.panel.queue + pixels.length))
        { s with panel := { s.panel with
            queue := s.panel.queue ++ [{ id := id, offset := offset, pixels := pixels }] } })

/-- The panel status (R186). -/
def panelStatus (s : State) : ReplyBody :=
  let p := s.panel
  .panel p.st p.dormantSleep p.setup.isSome p.codes.width p.teUsed p.codes.tePolarity p.codes.wakeDelay
    p.teMissing p.torn p.emission p.handOff p.overlays (queueLevel p.queue) p.queue.length

/-- PANEL_STATUS (R186). -/
def doPanelStatus (q : Asker) (s : State) : State := answer q .ok (panelStatus s) s

end Sys2Proof.Machine
end

