-- ==== Sys2Proof/Machine/MemoryControl.lean ====
section
/-! DEFINITION. The memory controller: pending bursts, grants, the arbiter, the cut of a read burst, the delivery of a
burst's records, the writer's bursts (R29, R32, R87 to R103). -/

namespace Sys2Proof.Machine

/-! ## Pending bursts (R93, R95) -/

/-- The writer wants a burst: records are queued, and its block has a free place (R29). -/
def State.writerWants (s : State) : Bool :=
  s.writer.seg.isSome && s.comp.staging.length ≠ 0 && s.writer.written < Config.blockRecords

/-- The writer is urgent (R29, R99). -/
def State.urgent (s : State) : Bool := Config.urgentLevel ≤ s.comp.staging.length

/-- The slot the decoder reader serves next: the first offline RUNNING one after the last served (R95). -/
def State.nextSlot (s : State) : Option Nat :=
  ([1, 2, 3, 4].map fun i => (s.mc.lastSlot + i) % 4).find? fun k => (s.slot k).offline

/-- A port's records stream wants a burst (R84, R197, R198). On the tether port a suspended link wants none, one that
pended before the suspend included (DESIGN CHOICE, log 80). -/
def State.streamWants (s : State) : Port → Bool
  | .console =>
    match s.ports.con.stream with
    | some x => x.reading.isSome && x.want.isSome
    | none => false
  | .tether =>
    match s.ports.teth.stream with
    | some x => x.reading.isSome && x.buffer.length < 2 && s.ports.link = .configured
    | none => false

def State.remainder (s : State) (q : Requester) : Option Remainder := s.mc.remainders.find? fun r => r.req = q

/-- A requester has a pending burst (R93). A suspended tether link keeps a remainder pending and lets no fresh burst
pend (DESIGN CHOICE, log 80). -/
def State.wants (s : State) (q : Requester) : Bool :=
  (s.remainder q).isSome ||
    match q with
    | .writer => s.writerWants
    | .renderer => s.render.frame = .classifying && !s.render.reader.done
    | .decoder => s.nextSlot.isSome
    | .measure => s.meas.st = .busy && s.meas.acct < s.meas.b
    | .console => s.streamWants .console
    | .tether => s.streamWants .tether

/-- The circular order (R93). -/
def circle : List Requester := [.writer, .renderer, .decoder, .measure, .console, .tether]

/-- The circular order from the requester after `q`. -/
def circleAfter (q : Requester) : List Requester :=
  match q with
  | .writer => [.renderer, .decoder, .measure, .console, .tether, .writer]
  | .renderer => [.decoder, .measure, .console, .tether, .writer, .renderer]
  | .decoder => [.measure, .console, .tether, .writer, .renderer, .decoder]
  | .measure => [.console, .tether, .writer, .renderer, .decoder, .measure]
  | .console => [.tether, .writer, .renderer, .decoder, .measure, .console]
  | .tether => circle

/-! ## Banks (R91, R92) -/

/-- The next step of a bank towards `row` open (R91): a bank open on another row closes, a closing one becomes IDLE, an
IDLE one opens, an opening one is open on its row. -/
def Bank.step (row : Nat) : Bank → Bank
  | .opened r => if r = row then .opened r else .closing
  | .closing => .idle
  | .idle => .opening row
  | .opening r => .opened r

/-- The next step of a bank towards IDLE (R91, R97, R102). -/
def Bank.shut : Bank → Bank
  | .opened _ => .closing
  | .opening _ => .closing
  | .closing => .idle
  | .idle => .idle

/-- `n` steps of one kind. -/
def stepBank (f : Bank → Bank) : Nat → Bank → Bank
  | 0, x => x
  | n + 1, x => stepBank f n (f x)

/-- The steps a burst in `row` needs before its access: close, become IDLE, open (R92). A bank open on another row has
first to be closed, which waits for its least open time and its write recovery (R91). -/
def Bank.leadSteps (row : Nat) : Bank → Nat
  | .opened r => if r = row then 0 else 4
  | .closing => 3
  | .idle => 2
  | .opening _ => 1

/-- A burst in place `p` of block `b` is granted: an empty access opens its bank at once, a hit leaves it open, and in a
conflict it stays open on the old row until its close begins (R91, R92). -/
def touchBank (b p : Nat) (banks : List Bank) : List Bank :=
  banks.set (bankOf p)
    (match banks.getD (bankOf p) .idle with
      | .idle => .opening (rowOf b p)
      | x => x)

/-- The burst ends with its bank open on its row. -/
def openBank (b p : Nat) (banks : List Bank) : List Bank := banks.set (bankOf p) (.opened (rowOf b p))

def idleBanks : List Bank := List.replicate 4 .idle

/-! ## Grants (R94, R95, R98, R101) -/

/-- A refresh starts; the banks still open are closed as it comes on (R97). -/
def startRefresh (s : State) : State := { s with mc := { s.mc with flight := some .refresh } }

/-- The capture writer is granted: its burst carries what completes the group (R29). -/
def grantWriter (s : State) : State :=
  let n := min (4 - s.writer.group.length) s.comp.staging.length
  { s with mc := { s.mc with flight := some (.write n), last := .writer,
                             banks := touchBank s.writer.block s.writer.written s.mc.banks } }

/-- The name of a requester's fresh burst: slot, segment, chain position, group. -/
def State.burstName (s : State) (q : Requester) : Nat × Nat × Nat × Nat :=
  match q with
  | .writer => (0, 0, 0, 0)
  | .renderer =>
    (0, s.render.latch.seg.getD 0, s.render.reader.pos.getD 0, s.render.reader.place / 4)
  | .decoder =>
    let k := s.nextSlot.getD 0
    (k, (s.slot k).segment, (s.slot k).pos, (s.slot k).place / 4)
  | .measure => (0, s.meas.seg, s.meas.pos.getD 0, s.meas.place / 4)
  | .console =>
    match s.ports.con.stream with
    | some x => (0, x.reading.getD 0, x.pos, x.place / 4)
    | none => (0, 0, 0, 0)
  | .tether =>
    match s.ports.teth.stream with
    | some x => (0, x.reading.getD 0, x.pos, x.place / 4)
    | none => (0, 0, 0, 0)

/-- The requester's pending burst, its remainder first (R95, R100). -/
def State.pendingRead (s : State) (q : Requester) : Remainder :=
  match s.remainder q with
  | some r => r
  | none =>
    let n := s.burstName q
    let e := s.seg n.2.1
    { req := q, slot := n.1, seg := n.2.1, pos := n.2.2.1, group := n.2.2.2,
      len := (s.store.block (e.blockAt n.2.2.1)).used, tail := n.2.2.1 = e.lastPos, halves := [] }

/-- The halfwords of a group from the `k`-th on (R87). -/
def groupHalves (m : Memory) (b group k : Nat) : List Half :=
  (List.range (8 - k)).map fun i => readHalf m (placeHalf b (4 * group) + k + i)

/-- A read burst is served (R92). -/
def startRead (r : Remainder) (s : State) : State :=
  let b := (s.seg r.seg).blockAt r.pos
  { s with mc := { s.mc with
      banks := touchBank b (4 * r.group) s.mc.banks
      flight := some (.read { req := r.req, slot := r.slot, seg := r.seg, pos := r.pos, block := b, group := r.group,
                              len := r.len, tail := r.tail, halves := r.halves,
                              data := groupHalves s.store.mem b r.group r.halves.length, discard := false,
                              transferring := false, delivered := 0 }) } }

/-- A requester is told TRIMMED (R73, R94); only the renderer and the measurement engine read FILLING segments. -/
def answerTrimmed (q : Requester) (s : State) : State :=
  match q with
  | .renderer => renderTrimmed s
  | .measure => measureTrimmed s
  | _ => s

/-- The first grant of a frame or a measurement fixes where it reads from. -/
def locate (q : Requester) (s : State) : State :=
  match q with
  | .renderer => renderLocate s
  | .measure => measureLocate s
  | _ => s

/-- A read requester is granted: the store checks the name, and the burst is served or answered TRIMMED (R94). -/
def grantRead (q : Requester) (s : State) : State :=
  let s := locate q s
  let fresh := (s.remainder q).isNone
  let r := s.pendingRead q
  let s := { s with mc := { s.mc with
    last := q
    lastSlot := if q = .decoder ∧ fresh = true then r.slot else s.mc.lastSlot
    remainders := s.mc.remainders.filter fun x => x.req ≠ q } }
  if r.pos < (s.seg r.seg).trimmed then answerTrimmed q s else startRead r s

def grant (q : Requester) (s : State) : State := if q = .writer then grantWriter s else grantRead q s

/-- The arbiter at grant points, until something is in flight or there is nothing to do (R98). A burst answered TRIMMED
takes no time, so the next grant point follows; `fuel` bounds those. -/
def grantPoint : Nat → State → State
  | 0, s => s
  | fuel + 1, s =>
    if s.mc.flight.isSome then s
    else if 8 ≤ s.mc.debt then startRefresh s
    else if s.urgent && s.writerWants then grantWriter s
    else
      match (circleAfter s.mc.last).find? fun q => s.wants q with
      | some q => grantPoint fuel (grant q s)
      | none => if 1 ≤ s.mc.debt then startRefresh s else s

/-- Whatever the controller can start now (R98, R102). -/
def arbitrate (s : State) : State :=
  match s.mc.st with
  | .serving => grantPoint 8 s
  | .entering => if s.mc.flight.isNone ∧ 1 ≤ s.mc.debt then startRefresh s else s
  | .initialising => s
  | .selfRefresh => s
  | .exiting => s

/-! ## Delivery (R73, R92) -/

/-- Words from halfwords, the lower half first. -/
def pairHalves : List Half → List Word
  | a :: b :: r => (b ++ a) :: pairHalves r
  | _ => []

/-- An offline slot takes a burst's records, and moves to the next block at the end of one (R110). -/
def decoderRecords (k : Nat) (recs : List Record) (full tail : Bool) (s : State) : State :=
  match (s.slot k).source with
  | some (.offline _ lo hi) =>
    let s := offlineRecords k lo hi recs s
    let x := s.slot k
    if x.offline then
      s.setSlot k { x with reading := x.reading.map fun p =>
        if full && !tail then { p with pos := p.pos + 1, place := 0 } else { p with place := p.place + recs.length } }
    else s
  | _ => s

/-- The place a requester's next record stands at. -/
def State.readPlace (s : State) (q : Requester) (slot : Nat) : Nat :=
  match q with
  | .writer => 0
  | .renderer => s.render.reader.place
  | .decoder => (s.slot slot).place
  | .measure => s.meas.place
  | .console => (s.ports.con.stream.map (·.place)).getD 0
  | .tether => (s.ports.teth.stream.map (·.place)).getD 0

/-- A group wholly read reaches its requester: the places up to the block's length, from the next it needs. -/
def deliver (b : ReadBurst) (s : State) : State :=
  if b.discard then s
  else
    let words := ((pairHalves (b.halves ++ b.data)).take (b.len - 4 * b.group)).drop
      (s.readPlace b.req b.slot - 4 * b.group)
    let full := b.len ≤ 4 * b.group + 4
    match b.req with
    | .writer => s
    | .renderer => renderRecords (words.map Record.ofWord) full b.tail s
    | .decoder => decoderRecords b.slot (words.map Record.ofWord) full b.tail s
    | .measure => measureRecords (words.map Record.ofWord) full b.tail s
    | .console => streamWords .console b.seg words full b.tail s
    | .tether => streamWords .tether b.seg words full b.tail s

/-- A read burst ends (R92). -/
def endRead (b : ReadBurst) (s : State) : State :=
  deliver b { s with mc := { s.mc with flight := none, banks := openBank b.block (4 * b.group) s.mc.banks } }

/-! ## What is in flight comes on (R88, R91, R92, R97, R102) -/

/-- A burst in flight, `k` steps on from its access: the first starts the transfer, each further one delivers a
halfword, and the last halfword ends the burst, which has an event of its own. -/
def ReadBurst.onward (b : ReadBurst) (k : Nat) : ReadBurst :=
  { b with
    transferring := b.transferring || k ≠ 0
    delivered := min (b.data.length - 1) (b.delivered + (if b.transferring then k else k - 1)) }

/-- `n` steps of a burst in bank `i`, row `row`: its bank comes first, and what is left is the access. -/
def leadBank (i row n : Nat) (banks : List Bank) : List Bank × Nat :=
  let x := banks.getD i .idle
  (banks.set i (stepBank (Bank.step row) n x), n - x.leadSteps row)

/-- Bank `i` of a refresh or of ENTERING, a free number of steps on towards IDLE. -/
def shutBanks (free : Nat) : Nat → List Bank → List Bank
  | _, [] => []
  | i, x :: r => stepBank Bank.shut (Config.progress (free + i)) x :: shutBanks free (i + 1) r

/-- What the controller has in flight comes on a free number of steps between two commands (log 8). In ENTERING, with
nothing in flight, the open banks close (R102). -/
def progress (s : State) : State :=
  let n := Config.progress s.free
  match s.mc.flight with
  | some (.read b) =>
    let x := leadBank (bankOf (4 * b.group)) (rowOf b.block (4 * b.group)) n s.mc.banks
    { s with free := s.free + 1, mc := { s.mc with banks := x.1, flight := some (.read (b.onward x.2)) } }
  | some (.write _) =>
    let x := leadBank (bankOf s.writer.written) (rowOf s.writer.block s.writer.written) n s.mc.banks
    { s with free := s.free + 1, mc := { s.mc with banks := x.1 } }
  | some .refresh => { s with free := s.free + 4, mc := { s.mc with banks := shutBanks s.free 0 s.mc.banks } }
  | none =>
    if s.mc.st = .entering then
      { s with free := s.free + 4, mc := { s.mc with banks := shutBanks s.free 0 s.mc.banks } }
    else s

/-! ## The cut (R100) -/

/-- A bank at the cut of the burst it works for: OPENING becomes OPEN, CLOSING becomes IDLE. -/
def Bank.cut : Bank → Bank
  | .opening r => .opened r
  | .closing => .idle
  | x => x

/-- The halfwords of a burst that a cut leaves delivered: those delivered and the one in flight, or none before the
access (R100). -/
def ReadBurst.cutCount (b : ReadBurst) : Nat := if b.transferring then b.delivered + 1 else 0

/-- The remainder of a burst cut (R100). One no longer wanted leaves none. -/
def ReadBurst.remainder (b : ReadBurst) : List Remainder :=
  if b.discard then []
  else [{ req := b.req, slot := b.slot, seg := b.seg, pos := b.pos, group := b.group, len := b.len, tail := b.tail,
          halves := b.halves ++ b.data.take b.cutCount }]

/-- The cut of a read burst in flight; one cut in its last halfword is complete (R100). -/
def cutRead (s : State) : State :=
  match s.mc.flight with
  | some (.read b) =>
    if b.transferring ∧ b.data.length ≤ b.cutCount then endRead b s
    else
      let i := bankOf (4 * b.group)
      { s with mc := { s.mc with
          flight := none
          banks := s.mc.banks.set i (s.mc.banks.getD i .idle).cut
          remainders := s.mc.remainders ++ b.remainder } }
  | _ => s

/-- The writer becomes urgent between two states while SERVING (R99, R100, R102). -/
def cutIfUrgent (before s : State) : State :=
  if before.urgent = false ∧ s.urgent = true ∧ s.mc.st = .serving then cutRead s else s

/-! ## The writer's burst ends (R29, R32, R71) -/

/-- The records of the burst stand in the SDRAM, and the counts follow (R29). -/
def writeGroup (n : Nat) (s : State) : State :=
  let w := s.writer
  let recs := s.comp.staging.take n
  let group := w.group ++ recs
  let p := w.written - w.group.length
  let words := group.map Record.word ++ meaningless s.free (4 - group.length)
  let written := w.written + recs.length
  let w' := { w.follow recs with written := written, group := if 4 ≤ group.length then [] else group }
  let s := { s with
    free := s.free + (4 - group.length)
    comp := { s.comp with staging := s.comp.staging.drop n }
    writer := w'
    store := { s.store with mem := writeWords s.store.mem w.block p words
                            blocks := s.store.blocks.set w.block { s.store.block w.block with used := written } } }
  match w.seg with
  | some m => s.setSeg m { s.seg m with stop := w'.time, burstChain := (s.seg m).chain.length }
  | none => s

/-- A writer burst ends: its records are written, then the seal, or the reserve test of POSTFILL (R29, R32, R71). -/
def endWrite (n : Nat) (s : State) : State :=
  let ended := (s.comp.staging.take n).any Record.isEnd
  let p := s.writer.written
  let s := writeGroup n { s with mc := { s.mc with
    flight := none, banks := openBank s.writer.block p s.mc.banks } }
  if ended then sealSegment s
  else if s.seq.acq = .postfill then reserveTest false s
  else s

end Sys2Proof.Machine
end

