-- ==== Sys2Proof/Machine/PowerOps.lean ====
section
/-! DEFINITION. Port reset, full reset, the debounce windows, the DORMANT entry's steps, the wake, the battery tests,
and what a command ends with (R1, R15, R16, R102, R175, R196, R203 to R210). -/

namespace Sys2Proof.Machine

/-- The blocks outside the power unit work: RUN or ENTRY. -/
def State.awake (s : State) : Bool := s.power.st = .run || s.power.st = .entry

/-! ## Port reset (R196) -/

/-- A slot that port `p` started becomes FREE (R113). -/
def freeStarted (p : Port) (k : Nat) (s : State) : State :=
  if (s.slot k).state ≠ .free ∧ (s.slot k).starter = some p then freeSlot k s else s

/-- Entries the port owns get owner NONE (R79). -/
def disown (p : Port) (s : State) : State :=
  { s with store := { s.store with
      segs := s.store.segs.map fun e => if e.owner = some p then { e with owner := none } else e } }

/-- The claim becomes free, with CLAIM_CHANGE (R195, R196). -/
def freeClaim (s : State) : State :=
  raiseBoth .claimChange (claimArg none) { s with ports := { s.ports with claim := none } }

/-- Pending overlay changes of the port lose their replies (R196). -/
def loseReplies (p : Port) (s : State) : State :=
  { s with panel := { s.panel with changes := s.panel.changes.map fun c =>
      match c.reply with
      | some q => if q.port = p then { c with reply := none } else c
      | none => c } }

/-- The port's replies and requests in service go (R196 step 7). -/
def discardReplies (p : Port) (s : State) : State :=
  let s := loseReplies p s
  match p with
  | .console => { s with ports := { s.ports with conReplies := [], conService := none } }
  | .tether => { s with ports := { s.ports with tethReplies := [], tethService := 0 } }

/-- The alert set empties and the levels take their defaults (R196 step 8). -/
def resetAlerts (p : Port) (s : State) : State :=
  State.refreshAttn
    { s with ports := s.ports.setPort p { s.ports.port p with alerts := [], levels := levelsDefault } }

/-- Steps 1 and 2 of R196: the holder's capture stops, and the claim becomes free. -/
def loseClaim (p : Port) (s : State) : State :=
  if s.ports.claim = some p then freeClaim (stopNow .ownerLost s) else s

/-- A measurement the port requested is cancelled (R146). -/
def loseMeasure (p : Port) (s : State) : State := if s.meas.port = p then cancelMeasure s else s

/-- A port reset, in the order of R196. The slots the port started are freed from slot 0 to slot 3, and so the blocks of
RELEASING segments they held (DESIGN CHOICE, log 68). -/
def portReset (p : Port) (s : State) : State :=
  let s := loseMeasure p (dropStream p (loseClaim p s))
  let s := freeStarted p 3 (freeStarted p 2 (freeStarted p 1 (freeStarted p 0 s)))
  resetAlerts p (discardReplies p (disown p s))

/-- A tether port reset by the bus: the link is DETACHED after it, and remote wake no longer allowed (R192). -/
def busReset (s : State) : State :=
  let s := portReset .tether s
  { s with ports := { s.ports with link := .detached, remoteWake := false, resuming := false }
           power := { s.power with tetherReset := false } }

/-- A bus reset or a loss of VBUS: in DORMANT and WAKEUP its effects wait for RUN (R207). -/
def busResetOrDefer (s : State) : State :=
  if s.power.st = .dormant ∨ s.power.st = .wakeup then { s with power := { s.power with tetherReset := true } }
  else if s.awake then busReset s
  else s

/-! ## Full reset (R203 to R205) -/

/-- A full reset: every item takes its reset value. The levels of the input pins, the SDRAM's cells unless power was
applied, the bytes that went out before, the model's counter and the commands waiting are not the part's to reset. -/
def fullReset (cause : ResetCause) (s : State) : State :=
  let r := State.reset
  { r with
    fe := { r.fe with pod0 := { r.fe.pod0 with sense := s.fe.pod0.sense }
                      pod1 := { r.fe.pod1 with sense := s.fe.pod1.sense } }
    store := { r.store with mem := if cause = .powerOn then [] else s.store.mem }
    ports := { r.ports with vbus := s.ports.vbus, conOut := s.ports.conOut, tethOut := s.ports.tethOut }
    power := { r.power with cause := cause, charger := s.power.charger }
    free := s.free
    pending := s.pending }

/-! ## Pods (R1, R15, R16) -/

/-- A pod's window opens at `now` when its sense line disagrees with its presence, and is closed otherwise. -/
def Pod.openWindow (p : Pod) (now : Nat) : Pod :=
  { p with window := if p.sense = p.present then none else some now }

def FrontEnd.openWindows (f : FrontEnd) (now : Nat) : FrontEnd :=
  { f with pod0 := f.pod0.openWindow now, pod1 := f.pod1.openWindow now }

/-- The channel the DORMANT watch can follow: named, on a pod that is PRESENT (R15). -/
def FrontEnd.watched (f : FrontEnd) : Option Nat :=
  match f.watch with
  | some (c, _) => if (f.pod (podOf c)).present then some c else none
  | none => none

/-- DORMANT entry: only the watched pod stays powered, the windows are suspended, the edge detector starts, unless the
watched pod's sense line already shows it detached (R15). -/
def FrontEnd.sleep (f : FrontEnd) : FrontEnd :=
  let on := fun n => match f.watched with
    | some c => podOf c = n
    | none => false
  { f with pod0 := { f.pod0 with powered := on 0, window := none }
           pod1 := { f.pod1 with powered := on 1, window := none }
           detector := match f.watched with
             | some c => if (f.pod (podOf c)).sense then some (f.levels.getLsbD c) else none
             | none => none }

/-- A wake: the detector stops, both pods are powered, the debounce resumes (R7, R16). -/
def FrontEnd.wake (f : FrontEnd) (inputs : List Int) (now : Nat) : FrontEnd :=
  ({ f with detector := none }.powerUp inputs).openWindows now

/-! ## The wake (R207, R208) -/

/-- SHUTDOWN: the PLL stops and the power-hold line is released (R8, R210). -/
def shutDown (s : State) : State :=
  { s with power := { s.power with st := .shutdown, pll := .stopped, powerHold := false, grace := none } }

/-- The SDRAM in self-refresh: every bank IDLE and nothing in flight (R102, R203). -/
def MemCtl.refreshItself (m : MemCtl) : MemCtl :=
  { m with st := .selfRefresh, banks := List.replicate 4 .idle, flight := none }

/-- A wake begins: the timer stops and the battery check decides (R208). -/
def beginWake (batt : Nat) (s : State) : State :=
  let s := { s with power := { s.power with st := .wakeup, timerOn := false, reading := some batt } }
  if batt < s.power.cutoff ∧ s.power.charger = false then shutDown s
  else { s with power := { s.power with pll := .starting } }

/-- A wake cause arrives: it joins the set in ENTRY and WAKEUP, and begins the wake in DORMANT (R207). -/
def recordCause (add : WakeSet → WakeSet) (batt : Nat) (s : State) : State :=
  match s.power.st with
  | .dormant => beginWake batt { s with power := { s.power with wake := add s.power.wake } }
  | .entry => { s with power := { s.power with wake := add s.power.wake } }
  | .wakeup => { s with power := { s.power with wake := add s.power.wake } }
  | .startup => s
  | .run => s
  | .shutdown => s

/-! ## The battery (R209, R210) -/

/-- The LOW test of a reading. -/
def lowTest (v : Nat) (s : State) : State :=
  if s.power.lowArmed then
    if v < s.power.low then raiseBoth .batteryLow v { s with power := { s.power with lowArmed := false } } else s
  else if s.power.low + 50 < v then { s with power := { s.power with lowArmed := true } }
  else s

/-- The cutoff sequence (R210). The slots stop from slot 0 to slot 3 (DESIGN CHOICE, log 68), and
the console's stream is cancelled before the tether's (DESIGN CHOICE, log 84). -/
def cutoffSequence (v : Nat) (s : State) : State :=
  let s := stopNow .power s
  let s := stopSlot 3 .power (stopSlot 2 .power (stopSlot 1 .power (stopSlot 0 .power s)))
  let s := cancelMeasure (cancelStream .tether (cancelStream .console s))
  let s := raiseBoth .batteryCutoff v (sleepForCutoff s)
  { s with power := { s.power with grace := some 2000 } }

/-- The CUTOFF test of a reading (R209). -/
def cutoffTest (v : Nat) (s : State) : State :=
  if v < s.power.cutoff ∧ s.power.charger = false ∧ s.power.grace = none then cutoffSequence v s else s

/-- A sample in RUN replaces the reading and is tested (R209). -/
def sampleBattery (v : Nat) (s : State) : State :=
  cutoffTest v (lowTest v { s with power := { s.power with reading := some v } })

/-! ## DORMANT entry (R206) -/

/-- Step 1 ends when no frame is in flight; step 2 asks for the panel's sleep. -/
def entryFrame (s : State) : State :=
  if s.power.st = .entry ∧ s.power.entryStep = .frame ∧ s.render.frame = .idle then
    sleepForEntry { s with power := { s.power with entryStep := .panel } }
  else s

/-- Step 2 ends when no command sequence is left on or before the bus; step 3 asks for self-refresh (R102). -/
def entryPanel (s : State) : State :=
  if s.power.st = .entry ∧ s.power.entryStep = .panel ∧ s.panel.bus = .idle ∧ s.panel.waiting = [] then
    { s with power := { s.power with entryStep := .sdram }, mc := { s.mc with st := .entering } }
  else s

/-! ## What a command ends with -/

/-- Whatever a command has made possible follows it: the next step of DORMANT entry, the writer's block request, how
far the controller has come, the cut of a read burst, a grant point, the end of a measurement it leaves nothing to
account (R30, R91, R98, R100, R145, R206). -/
def conclude (before s : State) : State :=
  let s := cutIfUrgent before (progress (serveWriter (entryPanel (entryFrame s))))
  finishMeasure (if s.power.pll = .locked then arbitrate s else s)

end Sys2Proof.Machine
end

