-- ==== Sys2Proof/Machine/PortRequests.lean ====
section
/-! DEFINITION. What the port and power requests do once taken (R194, R195, R196, R197, R199, R201, R202, R205 to R207,
R209, R211). -/

namespace Sys2Proof.Machine

/-! ## The claim (R195) -/

/-- The holder changes, with CLAIM_CHANGE to both ports. -/
def setClaim (p : Option Port) (s : State) : State :=
  raiseBoth .claimChange (claimArg p) { s with ports := { s.ports with claim := p } }

/-- CLAIM (R195). -/
def doClaim (q : Asker) (take : Bool) (s : State) : State :=
  match s.ports.claim with
  | none => answer q .ok .none (setClaim (some q.port) s)
  | some h =>
    if h = q.port then answer q .ok .none s
    else if take = false then refuse q .heldElsewhere s
    else
      match q.port with
      | .console =>
        if s.seq.acq = .idle then answer q .ok .none (setClaim (some .console) s) else refuse q .wrongState s
      | .tether => refuse q .outOfRange s

/-- RELEASE (R195). -/
def doRelease (q : Asker) (s : State) : State :=
  match s.ports.claim with
  | none => refuse q .noClaim s
  | some h =>
    if h ≠ q.port then refuse q .heldElsewhere s
    else if s.seq.acq = .idle then answer q .ok .none (freeClaim s)
    else refuse q .wrongState s

/-! ## Streams (R197, R199) -/

/-- PORT_RESET is answered; the reset waits for the reply's delivery (R196). -/
def doPortReset (q : Asker) (s : State) : State := answer q .ok .none s

/-- READ_NEXT (R197): the header alone first, then chunks; a records chunk is deferred. An annotation chunk that holds
the last selected entry of the list is LAST: the entries behind it are passed with it (DEDUCED, log 76). -/
def doReadNext (q : Asker) (s : State) : State :=
  match q.port, s.ports.con.stream with
  | .tether, _ => refuse q .wrongState s
  | .console, none => refuse q .wrongState s
  | .console, some x =>
    if x.headerSent = false then
      answer q .ok (.header x.header)
        (setStream .console (some { x with headerSent := true, delivered := x.delivered + x.header.length }) s)
    else
      match x.source with
      | .records _ => formChunk (defer q (setStream .console (some { x with want := some (q, 256) }) s))
      | .notes k seg lo hi =>
        let pick := noteSelected seg lo hi
        let y := (Stream.walkNotes (s.notesOf k) pick 240 16 x).passRest (s.notesOf k) pick
        let y' := { y with acc := [], delivered := y.delivered + y.acc.length }
        pushReply q.port { kind := q.kind, tag := q.tag, status := .ok, body := .chunk y.acc, last := y.ended }
          (setStream .console (if y.ended then none else some y') s)

/-- STREAM_CANCEL (R199). -/
def doStreamCancel (q : Asker) (s : State) : State :=
  match (s.ports.port q.port).stream with
  | none => refuse q .wrongState s
  | some x => answer q .ok (.cancelled x.delivered) (cancelStream q.port s)

/-! ## Alerts (R201, R202) -/

/-- Kinds in the fixed order. -/
def alertKinds : List AlertKind :=
  [.triggered, .sealed, .batteryCutoff, .batteryLow, .charqFull, .segmentGone, .loss, .podChange, .decodeDone,
   .charqLevel, .measureDone, .claimChange, .storeLow, .panelEvent, .woken]

/-- Set the levels of the pairs in turn, each kind by its place (R201; log 83). -/
def setLevels : List (Nat × Nat) → List AlertLevel → List AlertLevel
  | [], ls => ls
  | (k, l) :: r, ls => setLevels r (ls.set (k - 1) ((AlertLevel.ofCode l).getD .off))

/-- The pairs are legal (R201): a kind is its place from 1 to 15, and any other byte is an unknown kind (DESIGN CHOICE,
log 83). -/
def pairsLegal (pairs : List (Nat × Nat)) : Bool :=
  1 ≤ pairs.length && pairs.length ≤ 15 && pairs.all fun p => 1 ≤ p.1 && p.1 ≤ 15 && p.2 ≤ 2

/-- ALERT_LEVELS (R201). -/
def doAlertLevels (q : Asker) (pairs : List (Nat × Nat)) (s : State) : State :=
  if pairsLegal pairs then
    let x := s.ports.port q.port
    let x := { x with levels := setLevels pairs x.levels }
    let x := { x with alerts := x.alerts.filter fun a => x.level a.kind ≠ .off }
    answer q .ok (.levels x.levels) (State.refreshAttn { s with ports := s.ports.setPort q.port x })
  else refuse q .outOfRange s

/-- The alert to fetch: the first URGENT kind, or else the first ROUTINE one (R202). -/
def PortState.next (x : PortState) : Option Alert :=
  (x.alerts.find? fun a => x.level a.kind = .urgent).orElse fun _ => x.alerts.find? fun a => x.level a.kind = .routine

/-- ALERT_FETCH (R202). -/
def doAlertFetch (q : Asker) (s : State) : State :=
  let x := s.ports.port q.port
  match x.next with
  | none => answer q .ok (.alert none x.alerts.length) s
  | some a =>
    let rest := x.alerts.filter fun b => b.kind ≠ a.kind
    answer q .ok (.alert (some (a, x.level a.kind)) rest.length)
      (State.refreshAttn { s with ports := s.ports.setPort q.port { x with alerts := rest } })

/-! ## IDENTIFY, NOP, the port status (R194) -/

/-- IDENTIFY (R194). -/
def doIdentify (q : Asker) (s : State) : State := answer q .ok (.identity "Telpadin" "LA-216" 1) s

/-- NOP (R194). -/
def doNop (q : Asker) (s : State) : State := answer q .ok .none s

/-- The port status of the requesting port (R194). -/
def portStatus (p : Port) (s : State) : ReplyBody :=
  let x := s.ports.port p
  let stream := x.stream.map fun y => (y.source, y.delivered)
  match p with
  | .console => .consolePort s.ports.claim x.alerts.length stream s.ports.conReplies.length s.ports.conService.isSome
  | .tether => .tetherPort s.ports.claim x.alerts.length stream s.ports.link s.ports.remoteWake
      (s.ports.tethReplies.length + s.ports.tethService)

/-! ## Power (R205 to R207, R209, R211) -/

/-- The part is idle enough for DOZE (R206). -/
def State.mayDoze (s : State) : Bool :=
  s.power.st = .run && s.seq.acq = .idle && s.slots.all (fun k => k.state ≠ .running) &&
    s.ports.con.stream.isNone && s.ports.teth.stream.isNone && s.meas.st ≠ .busy && s.power.grace.isNone

/-- DOZE (R206). -/
def doDoze (q : Asker) (secs : Nat) (s : State) : State :=
  if s.mayDoze then
    answer q .accepted (.dozing secs)
      { s with power := { s.power with st := .entry, wake := WakeSet.empty, timer := secs, timerOn := false,
                                       entryStep := .frame } }
  else refuse q .wrongState s

/-- WAKE_CAUSES_CLEAR (R207). -/
def doWakeCausesClear (q : Asker) (s : State) : State :=
  answer q .ok .none { s with power := { s.power with wake := WakeSet.empty } }

/-- SET_BATTERY (R209). -/
def doSetBattery (q : Asker) (low cutoff : Nat) (s : State) : State :=
  let l := effectiveLow low
  let c := effectiveCutoff low cutoff
  answer q .ok (.battery l c) { s with power := { s.power with low := l, cutoff := c } }

/-- RESET_PART is answered; the full reset waits for the reply's delivery (R205). -/
def doResetPart (q : Asker) (s : State) : State := answer q .ok .none s

/-- The power status (R211). The part of the running sample period that has passed is a free value. -/
def powerStatus (s : State) : ReplyBody :=
  let p := s.power
  .power p.st p.cause p.wake p.reading p.charger p.low p.cutoff p.lowArmed
    (p.grace.map fun g => g - Config.graceElapsed s.free % 250) s.mc.st

/-- POWER_STATUS (R211). -/
def doPowerStatus (q : Asker) (s : State) : State :=
  answer q .ok (powerStatus s)
    { s with free := if s.power.grace.isSome then s.free + 1 else s.free }

end Sys2Proof.Machine
end

