-- ==== Sys2Proof/Machine/ReplyFrames.lean ====
section
/-! DEFINITION. The bytes of the frames the part sends: the header of a reply and of a NONE frame, the payloads and
fields the manual gives, and what goes out on each port (R187, R212, R214, R215, R218, R219). -/

/-- IMPLEMENTATION CONSTANT. The bytes of the `i`-th field of a reply whose width or coding the manual does not give:
chapter 12 lays out the fields of requests, the ALERT_FETCH reply, the BAD_FORM of a short transaction, the streams,
ticks, counts of blocks or records and alert levels (log 7). -/
opaque Sys2Proof.Config.replyField : Sys2Proof.Machine.ReplyBody → Nat → List Sys2Proof.Byte

namespace Sys2Proof.Machine

/-- A field of a reply by what chapter 12 says of its bytes: a tick, a count of blocks or records (R212), an alert level
(R214), or the `i`-th of the fields it leaves open. -/
inductive ReplyPart where
  | tick (t : Nat)
  | count (n : Nat)
  | level (l : AlertLevel)
  | free (i : Nat)
  deriving DecidableEq, Repr

/-- A tick that may be absent: the manual does not say how a reply tells that it is (log 7). -/
def ReplyPart.tick? (i : Nat) (t : Option Nat) : List ReplyPart :=
  match t with
  | some t => [.free i, .tick t]
  | none => [.free i]

/-- The fields of one slot in the decoder status: two ticks among them (R132). -/
def SlotReport.parts (k : Nat) (x : SlotReport) : List ReplyPart :=
  .free (4 * k) :: ReplyPart.tick? (4 * k + 1) x.reached ++ .free (4 * k + 2) :: ReplyPart.tick? (4 * k + 3) x.truncation

/-- The fields of a reply that chapter 12 does not lay out as a whole, in the order its rule names them (DEDUCED,
log 7). The store status, whose ticks and counts alone need more than a payload's 256 bytes, stays open (log 7). -/
def ReplyBody.parts : ReplyBody → List ReplyPart
  | .tick t => [.tick t]
  | .storeLow _ n _ => [.free 0, .count n, .free 1]
  | .recordsStream lo hi n => [.tick lo, .tick hi, .count n]
  | .slotStarted _ _ .none => [.free 0]
  | .slotStarted _ _ (.some (lo, hi)) => [.free 0, .tick lo, .tick hi]
  | .measuring a b => [.tick a, .tick b]
  | .measureBusy _ a b => [.free 0, .tick a, .tick b]
  | .measured r => [.free 0, .tick r.a, .tick r.b, .free 1]
  | .viewed t0 _ => [.tick t0, .free 0]
  | .levels ls => ls.map .level
  | .acquisition _ _ entry expiry _ now _ _ _ trigger stop _ _ _ _ _ _ =>
    .free 0 :: .tick entry :: ReplyPart.tick? 1 expiry ++ [.free 2, .tick now, .free 3] ++
      ReplyPart.tick? 4 (trigger.map (·.tick)) ++ .free 5 :: ReplyPart.tick? 6 stop ++ [.free 7]
  | .decoders xs _ => xs.zipIdx.flatMap (fun x => x.1.parts x.2) ++ [.free (4 * xs.length)]
  | .render v _ start stop t0 first last _ _ a b _ _ _ _ _ _ =>
    [.free 0, .tick v.t0, .free 1, .tick start, .tick stop, .tick t0, .tick first, .tick last, .free 2] ++
      ReplyPart.tick? 3 a ++ ReplyPart.tick? 4 b ++ [.free 5]
  | _ => [.free 0]

/-- A tick travels in 6 bytes, a count of blocks or records in 4 (R212), an alert level as 0, 1 or 2 (R214). -/
def ReplyPart.bytes (b : ReplyBody) : ReplyPart → List Byte
  | .tick t => leBytes 6 t
  | .count n => leBytes 4 n
  | .level l => leBytes 1 l.code
  | .free i => Config.replyField b i

/-- The 6 bytes of an ALERT_FETCH reply: kind, level, count, last argument, kinds left (R215). -/
def alertBytes (a : Option (Alert × AlertLevel)) (left : Nat) : List Byte :=
  match a with
  | some (x, l) => leBytes 1 x.kind.place ++ leBytes 1 l.code ++ leBytes 1 x.count ++ leBytes 2 x.arg ++ leBytes 1 left
  | none => leBytes 1 0 ++ leBytes 1 0 ++ leBytes 1 0 ++ leBytes 2 0 ++ leBytes 1 left

/-- The payload bytes of a reply: at most 256 (R214). -/
def ReplyBody.bytes (b : ReplyBody) : List Byte :=
  match b with
  | .none => []
  | .badForm n => leBytes 1 n
  | .header bs => bs.take 256
  | .chunk bs => bs.take 256
  | .alert a left => alertBytes a left
  | _ => (b.parts.flatMap (ReplyPart.bytes b)).take 256

/-- A reply's frame: type 0x02, the kind code and tag echoed, the payload length, the status, the LAST flag, the payload
(R214, R219). -/
def Reply.bytes (r : Reply) : List Byte :=
  (2 : Byte) :: r.kind :: (leBytes 2 r.tag.toNat ++ leBytes 2 r.body.bytes.length ++ leBytes 1 r.status.code ++
    leBytes 1 r.last.toNat) ++ r.body.bytes

/-- An outgoing NONE frame's header: type 0x00, the alert count, zeros, STARTING in bit 0 and WAITING in bit 1 of byte 7
(R214, R219). -/
def noneBytes (starting waiting : Bool) (alerts : Nat) : List Byte :=
  leBytes 1 0 ++ leBytes 1 alerts ++ leBytes 2 0 ++ leBytes 2 0 ++ leBytes 1 0 ++
    leBytes 1 (starting.toNat + 2 * waiting.toNat)

/-- The bytes of an outgoing console frame, before its padding. -/
def OutFrame.bytes : OutFrame → List Byte
  | .none starting waiting alerts => noneBytes starting waiting alerts
  | .reply r => r.bytes

/-- What a console transaction of `n` bytes clocks out: the frame, then zero bytes, the padding of its 264 bytes and
those beyond them alike (R187). -/
def OutFrame.clocked (f : OutFrame) (n : Nat) : List Byte := (f.bytes ++ List.replicate n 0).take n

end Sys2Proof.Machine
end

