-- ==== Sys2Proof/Machine/Requests.lean ====
section
/-! DEFINITION. Taking a request: what it does, the checks before it, when a port receives one, and the delivery of
replies (R187 to R193, R207, R218). -/

namespace Sys2Proof.Machine

/-- The five status queries (R193). A selector byte that names none is OUT_OF_RANGE (log 57). -/
def doStatus (q : Asker) (sel : StatusSel) (s : State) : State :=
  match sel with
  | .acquisition => answer q .ok (acquisitionStatus s) s
  | .store => answer q .ok (storeStatus s) s
  | .decoders => answer q .ok (decoderStatus s) s
  | .render => answer q .ok (renderStatus s) s
  | .port => answer q .ok (portStatus q.port s) s
  | .unknown => refuse q .outOfRange s

/-- What a request does, its frame and its claim checked: its own rule (R193). -/
def perform (q : Asker) (r : Request) (s : State) : State :=
  match r with
  | .setPods a b => doSetPods q a b s
  | .setClock d m => doSetClock q d m s
  | .setWatch w => doSetWatch q w s
  | .loadTrigger a => doLoadTrigger q a s
  | .arm => doArm q s
  | .force => doForce q s
  | .halt => doHalt q s
  | .setStoreLow n => doSetStoreLow q n s
  | .drop n => doDrop q n s
  | .keep n => doKeep q n s
  | .unkeep n => doUnkeep q n s
  | .readRecords n a b => doReadRecords q n a b s
  | .decStart k p src quota level => doDecStart q k p src quota level s
  | .decStop k => doDecStop q k s
  | .decClear k => doDecClear q k s
  | .queueTake k n => doQueueTake q k n s
  | .queuePeek k => doQueuePeek q k s
  | .readNotes k n a b m => doReadNotes q k n a b m s
  | .measure n a b m => doMeasure q n a b m s
  | .measureResult => doMeasureResult q s
  | .setView v t sc f => doSetView q v t sc f s
  | .setLayout rows => doSetLayout q rows s
  | .setPalette cs => doSetPalette q cs s
  | .setCursors a b => doSetCursors q a b s
  | .setLiveDivider n => doSetLiveDivider q n s
  | .panelSetup x => doPanelSetup q x s
  | .panelOn => doPanelOn q s
  | .panelOff => doPanelOff q s
  | .panelSleep => doPanelSleep q s
  | .panelWake => doPanelWake q s
  | .overlaySet id x y w h => doOverlaySet q id x y w h s
  | .overlayClear id => doOverlayClear q id s
  | .overlayPixels id o px => doOverlayPixels q id o px s
  | .panelStatus => doPanelStatus q s
  | .claim t => doClaim q t s
  | .release => doRelease q s
  | .portReset => doPortReset q s
  | .readNext => doReadNext q s
  | .streamCancel => doStreamCancel q s
  | .alertLevels ps => doAlertLevels q ps s
  | .alertFetch => doAlertFetch q s
  | .identify => doIdentify q s
  | .nop => doNop q s
  | .status sel => doStatus q sel s
  | .doze n => doDoze q n s
  | .wakeCausesClear => doWakeCausesClear q s
  | .setBattery a b => doSetBattery q a b s
  | .resetPart => doResetPart q s
  | .powerStatus => doPowerStatus q s

/-- Whom the reply to a request goes to. -/
def asker (p : Port) (tag : Tag) (r : Request) : Asker :=
  { port := p, kind := BitVec.ofNat 8 (Wire.code r), tag := tag }

/-- The claim check (R193): the refusal, if any. -/
def claimCheck (p : Port) (r : Request) (s : State) : Option Status :=
  if r.needsClaim then
    match s.ports.claim with
    | none => some .noClaim
    | some h => if h = p then none else some .heldElsewhere
  else none

/-- A console request while another is in service, or any request in ENTRY, is refused, but for the three status
queries (R188, R207). -/
def State.busy (s : State) (p : Port) (r : Request) : Bool :=
  !r.alwaysServed && (s.power.st = .entry || (p = .console && s.ports.conService.isSome))

/-- A request whose frame is well formed is taken (R193). The WRONG_STATE of R188 and R207 comes before the claim check
(DESIGN CHOICE, log 66). -/
def take (p : Port) (tag : Tag) (r : Request) (s : State) : State :=
  let q := asker p tag r
  if s.busy p r then refuse q .wrongState s
  else
    match claimCheck p r s with
    | some st => refuse q st s
    | none => perform q r s

/-! ## When a port receives a request -/

/-- Replies listed other than the short-transaction BAD_FORM, with the one still to be formed (R188). -/
def State.conOwed (s : State) : Nat :=
  (s.ports.conReplies.filter fun r =>
    match r.body with
    | .badForm _ => false
    | _ => true).length + s.ports.conService.isSome.toNat

/-- The port receives requests (R187, R191, R192, R207): the console port in RUN and ENTRY, each in a transaction that
has taken a reply out when any was listed; the tether port in RUN while CONFIGURED and with fewer than 8 replies
outstanding. -/
def State.receives (s : State) : Port → Bool
  | .console => s.awake && s.conOwed ≤ 1
  | .tether =>
    s.power.st = .run && s.ports.link = .configured && s.ports.tethReplies.length + s.ports.tethService < 8

/-- A request row of the table: the request is received at the port and taken; one the port does not receive changes
nothing. -/
def receive (p : Port) (tag : Tag) (r : Request) (s : State) : State :=
  if s.receives p then take p tag r s else s

/-- The same for a request that can give another block something to do. -/
def receiveActive (p : Port) (tag : Tag) (r : Request) (s : State) : State := conclude s (receive p tag r s)

/-- A frame received by a port (R187, R193, R218). -/
def takeFrame (p : Port) (f : Wire.RxFrame) (s : State) : State :=
  match f with
  | .none => s
  | .malformed kind tag => refuse { port := p, kind := kind, tag := tag } .badForm s
  | .request _ tag r => take p tag r s

/-! ## Delivery (R187, R191, R196, R205) -/

/-- The effect that a delivered reply sets free: PORT_RESET's (R196) or RESET_PART's (R205). -/
def afterDelivery (p : Port) (r : Reply) (s : State) : State :=
  if r.status = .ok ∧ r.kind = 37 then portReset p s
  else if r.status = .ok ∧ r.kind = 48 then fullReset .request s
  else s

/-- A short transaction's BAD_FORM: added at the tail, or counted on the one that waits (R189). -/
def addBadForm (kind : Byte) (tag : Tag) : List Reply → List Reply
  | [] => [{ kind := kind, tag := tag, status := .badForm, body := .badForm 1, last := false }]
  | r :: rs =>
    match r.body with
    | .badForm n => { r with body := .badForm (satSucc 255 n) } :: rs
    | _ => r :: addBadForm kind tag rs

/-- STARTING is in force: from a full reset to RUN, in DORMANT and each wake (R187). -/
def State.starting (s : State) : Bool :=
  s.power.st = .startup || s.power.st = .dormant || s.power.st = .wakeup

/-- The frame a console transaction beginning now sends out (R187, R219). -/
def State.outgoing (s : State) : OutFrame :=
  let none := OutFrame.none s.starting s.ports.conService.isSome s.ports.con.alerts.length
  if s.starting then none
  else
    match s.ports.conReplies with
    | r :: _ => .reply r
    | [] => none

/-- The chip-select assertion: the outgoing frame is fixed, anew where the transaction before clocked no byte; in
DORMANT it is the wake cause CONSOLE (R187, R207). In SHUTDOWN the port does nothing (R203). -/
def assertSelect (batt : Nat) (s : State) : State :=
  if s.power.st = .shutdown then s
  else
    recordCauseConsole { s with ports := { s.ports with outFrame := some s.outgoing } }
where
  recordCauseConsole (s : State) : State :=
    if s.power.st = .dormant then recordCause (fun w => { w with console := true }) batt s else s

end Sys2Proof.Machine
end

