-- ==== Sys2Proof/Machine/RequestRows.lean ====
section
/-! DEFINITION. The request rows of the table: each is that request, its frame well formed, received at a port. What
it does stands in the request's own definition (`do…`), reached through the checks of `take` (R193). -/

namespace Sys2Proof.Machine

/-- The answer of every command's meaning. -/
abbrev Answer := Host.Outcome State Fault Refusal

/-- SET_PODS (R6). -/
def execSetPods (p : Port) (tag : Tag) (t0 t1 : Option Int) (s : State) : Answer :=
  .next (receive p tag (.setPods t0 t1) s)

/-- SET_CLOCK (R9). -/
def execSetClock (p : Port) (tag : Tag) (d : Nat) (mask : Half) (s : State) : Answer :=
  .next (receive p tag (.setClock d mask) s)

/-- SET_WATCH (R14). -/
def execSetWatch (p : Port) (tag : Tag) (w : Option (Nat × Nat)) (s : State) : Answer :=
  .next (receive p tag (.setWatch w) s)

/-- LOAD_TRIGGER (R39). -/
def execLoadTrigger (p : Port) (tag : Tag) (a : ArmParams) (s : State) : Answer :=
  .next (receive p tag (.loadTrigger a) s)

/-- ARM (R40, R41). -/
def execArm (p : Port) (tag : Tag) (s : State) : Answer := .next (receiveActive p tag .arm s)

/-- FORCE (R51). -/
def execForce (p : Port) (tag : Tag) (s : State) : Answer := .next (receiveActive p tag .force s)

/-- HALT (R53). -/
def execHalt (p : Port) (tag : Tag) (s : State) : Answer := .next (receiveActive p tag .halt s)

/-- SET_STORE_LOW (R81). -/
def execSetStoreLow (p : Port) (tag : Tag) (n : Nat) (s : State) : Answer :=
  .next (receive p tag (.setStoreLow n) s)

/-- DROP (R77). -/
def execDrop (p : Port) (tag : Tag) (seg : Nat) (s : State) : Answer :=
  .next (receive p tag (.drop seg) s)

/-- KEEP (R78). -/
def execKeep (p : Port) (tag : Tag) (seg : Nat) (s : State) : Answer :=
  .next (receive p tag (.keep seg) s)

/-- UNKEEP (R78). -/
def execUnkeep (p : Port) (tag : Tag) (seg : Nat) (s : State) : Answer :=
  .next (receive p tag (.unkeep seg) s)

/-- READ_RECORDS (R82). -/
def execReadRecords (p : Port) (tag : Tag) (seg lo hi : Nat) (s : State) : Answer :=
  .next (receiveActive p tag (.readRecords seg lo hi) s)

/-- DEC_START (R106, R107). -/
def execDecStart (p : Port) (tag : Tag) (slot : Nat) (proto : Protocol) (src : Source) (quota level : Nat) (s : State) : Answer :=
  .next (receiveActive p tag (.decStart slot proto src quota level) s)

/-- DEC_STOP (R111). -/
def execDecStop (p : Port) (tag : Tag) (slot : Nat) (s : State) : Answer :=
  .next (receive p tag (.decStop slot) s)

/-- DEC_CLEAR (R112). -/
def execDecClear (p : Port) (tag : Tag) (slot : Nat) (s : State) : Answer :=
  .next (receive p tag (.decClear slot) s)

/-- QUEUE_TAKE (R130). -/
def execQueueTake (p : Port) (tag : Tag) (slot n : Nat) (s : State) : Answer :=
  .next (receive p tag (.queueTake slot n) s)

/-- QUEUE_PEEK (R131). -/
def execQueuePeek (p : Port) (tag : Tag) (slot : Nat) (s : State) : Answer :=
  .next (receive p tag (.queuePeek slot) s)

/-- READ_NOTES (R139). -/
def execReadNotes (p : Port) (tag : Tag) (slot seg lo hi limit : Nat) (s : State) : Answer :=
  .next (receive p tag (.readNotes slot seg lo hi limit) s)

/-- MEASURE (R142). -/
def execMeasure (p : Port) (tag : Tag) (seg a b : Nat) (mask : Half) (s : State) : Answer :=
  .next (receiveActive p tag (.measure seg a b mask) s)

/-- MEASURE_RESULT (R147). -/
def execMeasureResult (p : Port) (tag : Tag) (s : State) : Answer := .next (receive p tag .measureResult s)

/-- SET_VIEW (R148). -/
def execSetView (p : Port) (tag : Tag) (seg : ViewSeg) (t0 scale : Nat) (follow : Bool) (s : State) : Answer :=
  .next (receiveActive p tag (.setView seg t0 scale follow) s)

/-- SET_LAYOUT (R149). -/
def execSetLayout (p : Port) (tag : Tag) (rows : List RowReq) (s : State) : Answer :=
  .next (receiveActive p tag (.setLayout rows) s)

/-- SET_PALETTE (R150). -/
def execSetPalette (p : Port) (tag : Tag) (colours : List Half) (s : State) : Answer :=
  .next (receiveActive p tag (.setPalette colours) s)

/-- SET_CURSORS (R151). -/
def execSetCursors (p : Port) (tag : Tag) (a b : Option Nat) (s : State) : Answer :=
  .next (receiveActive p tag (.setCursors a b) s)

/-- SET_LIVE_DIVIDER (R152). -/
def execSetLiveDivider (p : Port) (tag : Tag) (n : Nat) (s : State) : Answer :=
  .next (receive p tag (.setLiveDivider n) s)

/-- PANEL_SETUP (R171). -/
def execPanelSetup (p : Port) (tag : Tag) (r : PanelSetup) (s : State) : Answer :=
  .next (receive p tag (.panelSetup r) s)

/-- PANEL_ON (R172). -/
def execPanelOn (p : Port) (tag : Tag) (s : State) : Answer := .next (receiveActive p tag .panelOn s)

/-- PANEL_OFF (R173). -/
def execPanelOff (p : Port) (tag : Tag) (s : State) : Answer := .next (receiveActive p tag .panelOff s)

/-- PANEL_SLEEP (R174). -/
def execPanelSleep (p : Port) (tag : Tag) (s : State) : Answer := .next (receiveActive p tag .panelSleep s)

/-- PANEL_WAKE (R174). -/
def execPanelWake (p : Port) (tag : Tag) (s : State) : Answer := .next (receiveActive p tag .panelWake s)

/-- OVERLAY_SET (R182). -/
def execOverlaySet (p : Port) (tag : Tag) (id x y w h : Nat) (s : State) : Answer :=
  .next (receive p tag (.overlaySet id x y w h) s)

/-- OVERLAY_CLEAR (R182). -/
def execOverlayClear (p : Port) (tag : Tag) (id : Nat) (s : State) : Answer :=
  .next (receive p tag (.overlayClear id) s)

/-- OVERLAY_PIXELS (R183). -/
def execOverlayPixels (p : Port) (tag : Tag) (id offset : Nat) (pixels : List Half) (s : State) : Answer :=
  .next (receiveActive p tag (.overlayPixels id offset pixels) s)

/-- PANEL_STATUS (R186). -/
def execPanelStatus (p : Port) (tag : Tag) (s : State) : Answer := .next (receive p tag .panelStatus s)

/-- CLAIM (R195). -/
def execClaim (p : Port) (tag : Tag) (t : Bool) (s : State) : Answer :=
  .next (receive p tag (.claim t) s)

/-- RELEASE (R195). -/
def execRelease (p : Port) (tag : Tag) (s : State) : Answer := .next (receive p tag .release s)

/-- PORT_RESET (R196). -/
def execPortReset (p : Port) (tag : Tag) (s : State) : Answer := .next (receive p tag .portReset s)

/-- READ_NEXT (R197). -/
def execReadNext (p : Port) (tag : Tag) (s : State) : Answer := .next (receiveActive p tag .readNext s)

/-- STREAM_CANCEL (R199). -/
def execStreamCancel (p : Port) (tag : Tag) (s : State) : Answer := .next (receive p tag .streamCancel s)

/-- ALERT_LEVELS (R201). -/
def execAlertLevels (p : Port) (tag : Tag) (pairs : List (Nat × Nat)) (s : State) : Answer :=
  .next (receive p tag (.alertLevels pairs) s)

/-- ALERT_FETCH (R202). -/
def execAlertFetch (p : Port) (tag : Tag) (s : State) : Answer := .next (receive p tag .alertFetch s)

/-- IDENTIFY (R194). -/
def execIdentify (p : Port) (tag : Tag) (s : State) : Answer := .next (receive p tag .identify s)

/-- NOP (R194). -/
def execNop (p : Port) (tag : Tag) (s : State) : Answer := .next (receive p tag .nop s)

/-- STATUS with selector ACQUISITION (R59). -/
def execStatusAcquisition (p : Port) (tag : Tag) (s : State) : Answer :=
  .next (receive p tag (.status .acquisition) s)

/-- STATUS with selector STORE (R85). -/
def execStatusStore (p : Port) (tag : Tag) (s : State) : Answer :=
  .next (receive p tag (.status .store) s)

/-- STATUS with selector DECODERS (R132). -/
def execStatusDecoders (p : Port) (tag : Tag) (s : State) : Answer :=
  .next (receive p tag (.status .decoders) s)

/-- STATUS with selector RENDER (R169). -/
def execStatusRender (p : Port) (tag : Tag) (s : State) : Answer :=
  .next (receive p tag (.status .render) s)

/-- STATUS with selector PORT (R194). -/
def execStatusPort (p : Port) (tag : Tag) (s : State) : Answer :=
  .next (receive p tag (.status .port) s)

/-- DOZE (R206). -/
def execDoze (p : Port) (tag : Tag) (secs : Nat) (s : State) : Answer :=
  .next (receiveActive p tag (.doze secs) s)

/-- WAKE_CAUSES_CLEAR (R207). -/
def execWakeCausesClear (p : Port) (tag : Tag) (s : State) : Answer := .next (receive p tag .wakeCausesClear s)

/-- SET_BATTERY (R209). -/
def execSetBattery (p : Port) (tag : Tag) (low cutoff : Nat) (s : State) : Answer :=
  .next (receive p tag (.setBattery low cutoff) s)

/-- RESET_PART (R205). -/
def execResetPart (p : Port) (tag : Tag) (s : State) : Answer := .next (receive p tag .resetPart s)

/-- POWER_STATUS (R211). -/
def execPowerStatus (p : Port) (tag : Tag) (s : State) : Answer := .next (receive p tag .powerStatus s)

end Sys2Proof.Machine
end

