-- ==== Sys2Proof/Machine/CaptureEvents.lean ====
section
/-! DEFINITION. The events of the pods, the sample clock, the capture path, the SDRAM and the tap (R1, R4, R7, R12, R13,
R18 to R37, R42, R49, R52, R92, R96, R97, R114). -/

namespace Sys2Proof.Machine

/-! ## Sense lines (R1, R2, R4, R15) -/

/-- The debounce runs: from the release of reset on, but not in DORMANT, a wake or SHUTDOWN (R1, R15, R16). -/
def State.debouncing (s : State) : Bool := s.awake || (s.power.st = .startup && !s.power.inReset)

/-- A detachment of the watched pod in DORMANT stops the edge detector (R15). -/
def stopWatch (pod : Nat) (attached : Bool) (f : FrontEnd) : FrontEnd :=
  match f.watched with
  | some c => if attached = false ∧ podOf c = pod then { f with detector := none } else f
  | none => f

/-- SENSE_LINE_CHANGE (R1, R15). -/
def execSenseLineChange (pod : Fin 2) (attached : Bool) (now : Nat) (s : State) : Answer :=
  let p := s.fe.pod pod
  .next (if p.sense = attached then s
    else
      let p := { p with sense := attached }
      let p := if s.debouncing then p.openWindow now else p
      let f := s.fe.setPod pod p
      { s with fe := if s.power.st = .dormant then stopWatch pod attached f else f })

/-- A pod's presence takes the value its sense line shows; a pod lost while samples are taken is blanked (R1, R2,
R4). Two pods lost before one sampled tick are handed to the compressor in the order their windows ended (DESIGN
CHOICE, log 48). -/
def settlePresence (pod : Nat) (s : State) : State :=
  let p := s.fe.pod pod
  let loss := s.seq.acq.sampling && !p.sense && !p.blanked
  let f := s.fe.setPod pod { p with window := none, present := p.sense, blanked := p.blanked || loss }
  raiseBoth .podChange pod { s with fe := { f with lost := if loss then f.lost ++ [pod] else f.lost } }

/-- An open window has reached 50 ms (R1). -/
def windowDue (window : Option Nat) (now : Nat) : Bool :=
  match window with
  | some t => t + 50000 ≤ now
  | none => false

/-- DEBOUNCE_EXPIRY (R1). -/
def execDebounceExpiry (pod : Fin 2) (now : Nat) (s : State) : Answer :=
  .next (if s.debouncing ∧ windowDue (s.fe.pod pod).window now = true then settlePresence pod s else s)

/-! ## The sample tick (R10, R12, R22) -/

/-- A tick while samples are taken: the state is delivered, the two streams are formed, stage `k` is evaluated, live
slots take their sample points. -/
def sampledTick (inputs : List Int) (s : State) : State :=
  let t := s.fe.tick + 1
  let pods := s.fe.lost
  let s := { s with fe := { (s.fe.compare inputs) with tick := t, lost := [] } }
  let st := s.delivered
  let was := s.comp.last
  let s := tapTick t st was pods (stageTick t st pods s)
  let s := { s with comp := { s.comp with last := st, lastTick := t } }
  liveSyncAll (evaluatePattern t st s)

/-- The counter counts through a drain, whose held END may now be queued (R12, R31, R37). -/
def drainTick (inputs : List Int) (s : State) : State :=
  let s := closeHeldEnd { s with fe := { (s.fe.compare inputs) with tick := (s.fe.tick + 1) % Config.tickSpan } }
  if s.canCloseGap then closeTapGap s.fe.tick s.comp.last [] s else s

/-- What a period of the sample clock does in each acquisition state, the events due at the tick before it first. -/
def tickOnce (inputs : List Int) (s : State) : State :=
  let s := settle s
  if s.seq.acq = .idle then closeIdleGap { s with fe := s.fe.compare inputs }
  else if s.seq.acq.sampling then
    if Config.tickLimit ≤ s.fe.tick + 1 then timeLimitTest { s with fe := s.fe.compare inputs }
    else sampledTick inputs s
  else drainTick inputs s

/-- SAMPLE_TICK (R22): one period of the sample clock with these input voltages. -/
def execSampleTick (inputs : List Int) (s : State) : Answer :=
  .next (if s.clocked then conclude s (tickOnce inputs s) else s)

/-! ## Events due at a tick -/

/-- IDLE_EXTEND (R19). -/
def execIdleExtend (stream : RecStream) (s : State) : Answer :=
  .next (conclude s (match stream with
    | .staging => extendStaging s
    | .tap => extendTap s))

/-- PRIMING_END (R42). -/
def execPrimingEnd (s : State) : Answer := .next (endPriming s)

/-- STAGE_TIMEOUT (R49). -/
def execStageTimeout (s : State) : Answer := .next (conclude s (timeoutStage s))

/-- POSTFILL_END (R52). -/
def execPostfillEnd (s : State) : Answer := .next (conclude s (postfillTest s))

/-- TIME_LIMIT (R13). -/
def execTimeLimit (s : State) : Answer := .next (if s.clocked then conclude s (timeLimitTest (settle s)) else s)

/-- LOSS_CLOSE (R27). -/
def execLossClose (s : State) : Answer := .next (conclude s (closeLossNow s))

/-- END_LOSS_CLOSE (R31). -/
def execEndLossClose (s : State) : Answer := .next (conclude s (closeHeldEnd s))

/-- A gap closes at the current tick, when it can (R37). That may be the tick it opened at: its BASE and its pods lost
then stand behind what that tick entered before (DESIGN CHOICE, log 78). -/
def closeGapNow (s : State) : State :=
  if s.canCloseGap then liveSyncAll (closeTapGap s.fe.tick s.comp.last s.comp.tickLost s) else s

/-- TAP_GAP_CLOSE (R37). -/
def execTapGapClose (s : State) : Answer := .next (conclude s (closeGapNow s))

/-! ## The SDRAM's operations (R29, R92, R96, R97) -/

/-- The writer's burst in flight ends. -/
def writerBurst (s : State) : State :=
  match s.mc.flight with
  | some (.write n) => endWrite n s
  | _ => s

/-- WRITER_BURST_END (R29). -/
def execWriterBurstEnd (s : State) : Answer :=
  .next (if s.power.pll = .locked then conclude s (writerBurst s) else s)

/-- The read burst in flight ends. -/
def readBurst (s : State) : State :=
  match s.mc.flight with
  | some (.read b) => endRead b s
  | _ => s

/-- READ_BURST_END (R92). -/
def execReadBurstEnd (s : State) : Answer :=
  .next (if s.power.pll = .locked then conclude s (readBurst s) else s)

/-- A refresh-due interval ends while SERVING or ENTERING (R96). -/
def refreshDue (s : State) : State :=
  if s.mc.st = .serving ∨ s.mc.st = .entering then
    { s with mc := { s.mc with debt := min 8 (s.mc.debt + 1), phase := (s.mc.phase + 1) % 3 } }
  else s

/-- REFRESH_DUE (R96). -/
def execRefreshDue (s : State) : Answer :=
  .next (if s.power.pll = .locked then conclude s (refreshDue s) else s)

/-- A refresh ends: the debt falls by 1 and every bank is IDLE (R97). -/
def refreshEnd (s : State) : State :=
  match s.mc.flight with
  | some .refresh => { s with mc := { s.mc with flight := none, banks := idleBanks, debt := s.mc.debt - 1 } }
  | _ => s

/-- REFRESH_END (R97). -/
def execRefreshEnd (s : State) : Answer :=
  .next (if s.power.pll = .locked then conclude s (refreshEnd s) else s)

/-! ## The tap (R35, R114) -/

/-- TAP_ENTRY_CONSUME (R114). -/
def execTapEntryConsume (slot : Fin 4) (s : State) : Answer :=
  .next (if s.awake then conclude s (consumeEntry slot s) else s)

end Sys2Proof.Machine
end

