-- ==== Sys2Proof/Machine/DisplayEvents.lean ====
section
/-! DEFINITION. The events of the renderer and the panel link (R154, R156, R157, R172 to R178, R182, R184). -/

namespace Sys2Proof.Machine

/-- CLASSIFY ends once its records are read: the cells, the dirty bands, the hand-off (R156, R157). -/
def classifyEnd (s : State) : State :=
  if s.render.frame = .classifying ∧ s.render.reader.done = true then handOffFrame (classifyCells s) else s

/-- CLASSIFY_END (R156). -/
def execClassifyEnd (s : State) : Answer := .next (if s.awake then conclude s (classifyEnd s) else s)

/-- An edge of the TE line is a TE event: TE used, and the edge of the configured polarity (R177). -/
def Panel.teEdge (p : Panel) (rising : Bool) : Bool := p.teUsed && (decide (p.codes.tePolarity = 0) == rising)

/-- A TE event while SHOWING: the watch restarts, a waiting emission may start, a running one is torn, and it counts
for the live count (R154, R177, R178, R181). The event that ends a TE-missing state counts too (DESIGN CHOICE,
log 81). -/
def teEvent (s : State) : State :=
  let p := s.panel
  let s := { s with panel := { p with
    teMissing := false
    teTimer := true
    emission := if p.emission = .waiting false then .waiting true else p.emission
    tornMark := p.tornMark || p.emission = .emitting } }
  pokeBus (countEvent s)

/-- TE_EVENT (R177). -/
def execTeEvent (rising : Bool) (s : State) : Answer :=
  .next (if s.awake ∧ s.panel.st = .showing ∧ s.panel.teEdge rising = true then conclude s (teEvent s) else s)

/-- LIVE_TIMER_EXPIRY (R154). -/
def execLiveTimerExpiry (s : State) : Answer :=
  .next (if s.awake ∧ s.panel.st = .showing ∧ (s.panel.teUsed = false ∨ s.panel.teMissing = true) then
    conclude s (countEvent s) else s)

/-- The TE watch expires (R177). -/
def teMissing (s : State) : State :=
  let s := { s with panel := { s.panel with teMissing := true, teTimer := false } }
  let s := raiseBoth .panelEvent 1 s
  pokeBus (match s.panel.emission with
    | .waiting _ => { s with panel := { s.panel with emission := .emitting, tornMark := false } }
    | _ => s)

/-- TE_MISSING_TIMEOUT (R177). -/
def execTeMissingTimeout (s : State) : Answer :=
  .next (if s.awake ∧ s.panel.st = .showing ∧ s.panel.teTimer = true then conclude s (teMissing s) else s)

/-- The band on the bus is written (R178). -/
def bandWritten (s : State) : State :=
  match s.panel.bus with
  | .band b => busBoundary true (reportBand b { s with panel := { s.panel with bus := .idle } })
  | _ => s

/-- BAND_WRITTEN (R178). -/
def execBandWritten (s : State) : Answer := .next (if s.awake then conclude s (bandWritten s) else s)

/-- The chunk on the bus is written (R184). -/
def chunkEnd (s : State) : State :=
  match s.panel.bus with
  | .chunk n => busEnds false { s with panel := { s.panel with queue := dropChunk n s.panel.queue } }
  | _ => s

/-- OVERLAY_CHUNK_END (R184). -/
def execOverlayChunkEnd (s : State) : Answer := .next (if s.awake then conclude s (chunkEnd s) else s)

/-- The oldest pending overlay change is applied while the bus is idle (R182). An init delay or the wake delay is part
of its sequence: changes wait for the sequence's end (DESIGN CHOICE, log 82). -/
def applyOldest (s : State) : State :=
  match s.panel.bus, s.panel.changes with
  | .idle, c :: r => pokeBus (applyChange c { s with panel := { s.panel with changes := r } })
  | _, _ => s

/-- OVERLAY_CHANGE_APPLY (R182). -/
def execOverlayChangeApply (s : State) : Answer := .next (if s.awake then conclude s (applyOldest s) else s)

/-- A delay of the start sequence ends: the commands before it have been sent, and the entries after it follow
(R172). -/
def initDelayEnd (s : State) : State :=
  match s.panel.bus with
  | .start left =>
    match afterDelay left with
    | some rest =>
      { s with panel := { s.panel with bus := .start rest, out := s.panel.out ++ (initCommands left).flatten } }
    | none => s
  | _ => s

/-- INIT_DELAY_END (R172). -/
def execInitDelayEnd (s : State) : Answer := .next (if s.awake then conclude s (initDelayEnd s) else s)

/-- The display-on command ends: the init commands left and it have been sent (R172). Overlay changes still pending are
applied at the boundary after the arrival at SHOWING has cleared the list, and stand (DESIGN CHOICE, log 69). -/
def panelStartDone (s : State) : State :=
  match s.panel.bus with
  | .start left =>
    if afterDelay left = none then
      let out := s.panel.out ++ (initCommands left).flatten ++ [.command s.panel.codes.displayOn]
      busEnds false (reachShowing { s with panel := { s.panel with out := out } })
    else s
  | _ => s

/-- PANEL_START_DONE (R172). -/
def execPanelStartDone (s : State) : Answer := .next (if s.awake then conclude s (panelStartDone s) else s)

/-- The off sequence ends (R173). -/
def offEnd (s : State) : State :=
  match s.panel.bus with
  | .off => busEnds false s
  | _ => s

/-- OFF_SEQUENCE_END (R173). -/
def execOffSequenceEnd (s : State) : Answer := .next (if s.awake then conclude s (offEnd s) else s)

/-- The sleep-in command ends (R174, R175). -/
def sleepInEnd (s : State) : State :=
  match s.panel.bus with
  | .sleepIn => busEnds false s
  | _ => s

/-- SLEEP_IN_END (R174). -/
def execSleepInEnd (s : State) : Answer := .next (if s.awake then conclude s (sleepInEnd s) else s)

/-- The wake delay ends: SHOWING, a frame, the TE watch (R174). -/
def wakeDelayEnd (s : State) : State :=
  match s.panel.bus with
  | .wakeDelay =>
    busEnds false (startTeWatch (requestFrame { s with panel := { s.panel with st := .showing } }))
  | _ => s

/-- WAKE_DELAY_END (R174). -/
def execWakeDelayEnd (s : State) : Answer := .next (if s.awake then conclude s (wakeDelayEnd s) else s)

end Sys2Proof.Machine
end

