-- ==== Sys2Proof/Machine/PortEvents.lean ====
section
/-! DEFINITION. The events of the two ports' links (R187 to R192, R196, R198, R207). -/

namespace Sys2Proof.Machine

/-! ## The console link -/

/-- The effects of a full transaction's end: the reply sent out is delivered, then the frame received is taken
(R187). A transaction begun in ENTRY that ends in DORMANT or WAKEUP delivers its reply and has its frame not taken (DESIGN
CHOICE, log 72). -/
def endFull (frame : List Byte) (out : OutFrame) (s : State) : State :=
  let s := match out with
    | .none _ _ _ => s
    | .reply r => afterDelivery .console r { s with ports := { s.ports with conReplies := s.ports.conReplies.drop 1 } }
  if s.awake then takeFrame .console (Wire.consoleFrame frame) s else s

/-- A short transaction's end: the frame is discarded and BAD_FORM added (R189). -/
def endShort (frame : List Byte) (s : State) : State :=
  if s.awake then
    { s with ports := { s.ports with
        conReplies := addBadForm (Wire.kindByte frame) (Wire.tagOf frame) s.ports.conReplies } }
  else s

/-- The frame sent out is flagged STARTING. -/
def OutFrame.starting : OutFrame → Bool
  | .none st _ _ => st
  | .reply _ => false

/-- As many bytes go out as came in; the frame then no longer stands fixed (R187). -/
def clockOut (out : OutFrame) (n : Nat) (s : State) : State :=
  { s with ports := { s.ports with outFrame := none, conOut := if n = 0 then s.ports.conOut else out.clocked n } }

/-- The end of a console transaction in which `frame` came in; its chip-select assertion stands before it, when no
CHIP_SELECT_ASSERTION did (R187, R189). A transaction that sent a frame flagged STARTING, or clocked no byte, takes
nothing; in SHUTDOWN the port is not served (R203). -/
def consoleEnd (frame : List Byte) (batt : Nat) (s : State) : State :=
  let s := if s.ports.outFrame.isSome then s else assertSelect batt s
  if s.power.st = .shutdown then { s with ports := { s.ports with outFrame := none } }
  else
    match s.ports.outFrame with
    | none => s
    | some out =>
      let s := clockOut out frame.length s
      if out.starting ∨ frame.length = 0 then s
      else if frame.length < 264 then endShort frame s
      else endFull frame out s

/-- CONSOLE_TRANSACTION (R187). -/
def execConsoleTransaction (frame : List Byte) (batt : Nat) (s : State) : Answer :=
  .next (conclude s (consoleEnd frame batt s))

/-- SHORT_TRANSACTION (R189). -/
def execShortTransaction (frame : List Byte) (batt : Nat) (s : State) : Answer :=
  .next (conclude s (consoleEnd frame batt s))

/-- CHIP_SELECT_ASSERTION (R187, R207, R219). -/
def execChipSelectAssertion (batt : Nat) (s : State) : Answer := .next (assertSelect batt s)

/-! ## The tether link -/

/-- TETHER_REQUEST_TRANSFER (R191, R218); a NAKed transfer brings nothing. -/
def execTetherRequestTransfer (frame : List Byte) (s : State) : Answer :=
  .next (if s.receives .tether then conclude s (takeFrame .tether (Wire.tetherFrame frame) s) else s)

/-- The head of the tether reply queue is delivered (R191, R196, R205). -/
def ackReply (s : State) : State :=
  match s.ports.tethReplies with
  | [] => s
  | r :: rest =>
    afterDelivery .tether r { s with ports := { s.ports with tethReplies := rest, tethOut := r.bytes } }

/-- The tether computer fetches replies and stream packets: the link is CONFIGURED, in every power state but STARTUP and
SHUTDOWN, where the port is not connected (R192, R203; log 61). -/
def State.fetches (s : State) : Bool :=
  s.ports.link = .configured && s.power.st ≠ .startup && s.power.st ≠ .shutdown

/-- TETHER_REPLY_ACK (R191, R192). -/
def execTetherReplyAck (s : State) : Answer := .next (if s.fetches then conclude s (ackReply s) else s)

/-- A stream packet leaves the endpoint buffer; the final one ends the stream (R198, R199). -/
def ackPacket (s : State) : State :=
  match s.ports.teth.stream with
  | none => s
  | some x =>
    match x.buffer with
    | [] => s
    | _ :: rest =>
      if rest = [] ∧ x.endQueued = true then setStream .tether none s
      else pumpTether (setStream .tether (some { x with buffer := rest }) s)

/-- STREAM_PACKET_ACK (R192, R198). -/
def execStreamPacketAck (s : State) : Answer := .next (if s.fetches then conclude s (ackPacket s) else s)

/-- The part is connected to the bus: VBUS present and start-up ended (R192). -/
def State.connected (s : State) : Bool := s.ports.vbus && s.power.st ≠ .startup && s.power.st ≠ .shutdown

def setLink (l : Link) (s : State) : State := { s with ports := { s.ports with link := l } }

/-- USB_CONFIGURE (R192). -/
def execUsbConfigure (s : State) : Answer :=
  .next (if s.connected ∧ s.ports.link = .detached then setLink .configured s else s)

/-- USB_SUSPEND (R192). -/
def execUsbSuspend (s : State) : Answer :=
  .next (if s.connected ∧ s.ports.link = .configured then setLink .suspended s else s)

/-- The link resumes: what waited goes on (R192, R198). -/
def resumeLink (s : State) : State :=
  if s.ports.link = .suspended then
    pumpTether { s with ports := { s.ports with link := .configured, resuming := false } }
  else s

/-- USB_RESUME (R192, R207). -/
def execUsbResume (batt : Nat) (s : State) : Answer :=
  .next (if s.connected then
    conclude s (recordCause (fun w => { w with tether := true }) batt (resumeLink s)) else s)

/-- USB_BUS_RESET (R192, R196, R207). -/
def execUsbBusReset (batt : Nat) (s : State) : Answer :=
  .next (if s.connected then
    conclude s (recordCause (fun w => { w with tether := true }) batt (busResetOrDefer s)) else s)

/-- VBUS_LOSS (R192, R207). -/
def execVbusLoss (s : State) : Answer :=
  .next (if s.ports.vbus then
    conclude s (busResetOrDefer { s with ports := { s.ports with vbus := false } }) else s)

/-- VBUS_PRESENT (R192). -/
def execVbusPresent (s : State) : Answer := .next { s with ports := { s.ports with vbus := true } }

def allowRemoteWake (b : Bool) (s : State) : State :=
  if s.connected ∧ s.ports.link ≠ .suspended then { s with ports := { s.ports with remoteWake := b } } else s

/-- REMOTE_WAKE_ALLOW (R192). -/
def execRemoteWakeAllow (s : State) : Answer := .next (allowRemoteWake true s)

/-- REMOTE_WAKE_FORBID (R192). -/
def execRemoteWakeForbid (s : State) : Answer := .next (allowRemoteWake false s)

end Sys2Proof.Machine
end

