-- ==== Sys2Proof/Machine/PowerEvents.lean ====
section
/-! DEFINITION. The events of the power unit, its clock, its inputs and the SDRAM's passages (R8, R15, R16, R89, R102,
R103, R203 to R210). -/

namespace Sys2Proof.Machine

/-- POWER_ON (R205). -/
def execPowerOn (s : State) : Answer := .next (fullReset .powerOn s)

/-- RESET_PIN (R205). In SHUTDOWN the part has released its supply, and only power brings it back (R210). -/
def execResetPin (s : State) : Answer := .next (if s.power.st = .shutdown then s else fullReset .pin s)

/-- Reset is released: the PLL starts, and the debounce begins from the sense lines (R1, R204). -/
def releaseReset (now : Nat) (s : State) : State :=
  if s.power.inReset ∧ s.power.st = .startup then
    { s with power := { s.power with inReset := false, pll := .starting }, fe := s.fe.openWindows now }
  else s

/-- RESET_RELEASE (R204). -/
def execResetRelease (now : Nat) (s : State) : Answer := .next (releaseReset now s)

/-- The sample PLL locks: initialisation begins at start-up, self-refresh is left at a wake (R89, R103). -/
def pllLock (s : State) : State :=
  if s.power.pll = .starting then
    let s := { s with power := { s.power with pll := .locked } }
    match s.power.st with
    | .startup => { s with mc := { s.mc with init := .wait } }
    | .wakeup => { s with mc := { s.mc with st := .exiting } }
    | _ => s
  else s

/-- PLL_LOCK (R8). -/
def execPllLock (s : State) : Answer := .next (pllLock s)

/-- The 200 µs wait ends (R89). -/
def initWaitEnd (s : State) : State :=
  if s.mc.st = .initialising ∧ s.mc.init = .wait then { s with mc := { s.mc with init := .commands } } else s

/-- INIT_WAIT_END (R89). -/
def execInitWaitEnd (s : State) : Answer := .next (initWaitEnd s)

/-- The controller begins to serve: banks IDLE, no debt, the refresh-due interval at its first period (R89, R103). -/
def MemCtl.serve (m : MemCtl) : MemCtl := { m with st := .serving, banks := idleBanks, debt := 0, phase := 0 }

/-- The mode set ends: the store is available, the part is in RUN, and the battery is sampled at once (R86, R89,
R204). -/
def initDone (inputs : List Int) (batt : Nat) (s : State) : State :=
  let s := { s with mc := s.mc.serve
                    store := { s.store with available := true }
                    fe := s.fe.powerUp inputs
                    power := { s.power with st := .run } }
  sampleBattery batt s.refreshAttn

/-- SDRAM_INIT_DONE (R89). -/
def execSdramInitDone (inputs : List Int) (batt : Nat) (s : State) : Answer :=
  .next (if s.mc.st = .initialising ∧ s.mc.init = .commands then conclude s (initDone inputs batt s) else s)

/-- Steps 3 to 5 of DORMANT entry (R102, R206). A cause that waits begins the wake at once. -/
def enterDormant (batt : Nat) (s : State) : State :=
  let s := { s with
    mc := s.mc.refreshItself
    fe := s.fe.sleep
    power := { s.power with st := .dormant, pll := .stopped, timerOn := s.power.timer ≠ 0 } }
  if s.power.wake.any then beginWake batt s else s

/-- SELF_REFRESH_ENTERED (R102): nothing in flight and no debt left. -/
def execSelfRefreshEntered (batt : Nat) (s : State) : Answer :=
  .next (if s.power.st = .entry ∧ s.mc.st = .entering ∧ s.mc.flight = none ∧ s.mc.debt = 0 then enterDormant batt s
    else s)

/-- The panel's wake begins when the dormant-sleep flag is set (R175). -/
def wakeDormantPanel (s : State) : State :=
  if s.panel.dormantSleep then wakePanel { s with panel := { s.panel with dormantSleep := false } } else s

/-- A frame-again flag kept through DORMANT starts its frame (R153). -/
def keptFrame (s : State) : State :=
  if s.render.again ∧ s.render.frame = .idle then latchFrame { s with render := { s.render with again := false } }
  else s

/-- Steps 3 to 6 of the wake, and the LOW test of its reading (R103, R208). -/
def finishWake (inputs : List Int) (now : Nat) (s : State) : State :=
  let s := { s with
    mc := s.mc.serve
    fe := s.fe.wake inputs now
    power := { s.power with st := .run }
    render := { s.render with liveCount := 0 } }
  let s := keptFrame (wakeDormantPanel s)
  let s := if s.power.tetherReset then busReset s else s
  let s := raiseBoth .woken s.power.wake.arg s
  match s.power.reading with
  | some v => lowTest v s
  | none => s

/-- SELF_REFRESH_EXITED (R103). -/
def execSelfRefreshExited (inputs : List Int) (now : Nat) (s : State) : Answer :=
  .next (if s.power.st = .wakeup ∧ s.mc.st = .exiting then conclude s (finishWake inputs now s) else s)

/-- The inputs of the watched pod move: its eight comparators follow them, and the edge detector follows the watched
channel's level; a matching change is the wake cause WATCH (R7, R15). -/
def watchEdge (inputs : List Int) (batt : Nat) (s : State) : State :=
  let f := s.fe.compare inputs
  match s.fe.detector, s.fe.watch with
  | some was, some (c, kind) =>
    let is := f.levels.getLsbD c
    let s := { s with fe := { f with detector := some is } }
    if edgeMatches kind was is then recordCause (fun w => { w with watch := true }) batt s else s
  | _, _ => { s with fe := f }

/-- WATCH_EDGE (R15): the input voltages as they stand, of which only the powered pod's count. -/
def execWatchEdge (inputs : List Int) (batt : Nat) (s : State) : Answer :=
  .next (if s.power.st = .dormant then watchEdge inputs batt s else s)

/-- WAKE_TIMER_EXPIRY (R207). -/
def execWakeTimerExpiry (batt : Nat) (s : State) : Answer :=
  .next (if s.power.st = .dormant ∧ s.power.timerOn = true then
    recordCause (fun w => { w with timer := true }) batt s else s)

/-- The charger-sense input changes: a wake cause; a charger stops the grace (R207, R210). -/
def chargerChange (present : Bool) (batt : Nat) (s : State) : State :=
  let s := { s with power := { s.power with charger := present,
                                            grace := if present then none else s.power.grace } }
  recordCause (fun w => { w with charger := true }) batt s

/-- CHARGER_SENSE_CHANGE (R207, R210). -/
def execChargerSenseChange (present : Bool) (batt : Nat) (s : State) : Answer :=
  .next (if s.power.charger = present then s else chargerChange present batt s)

/-- The grace at a battery sample: 250 ms less remain. -/
def graceTick (s : State) : State := { s with power := { s.power with grace := s.power.grace.map (· - 250) } }

/-- BATTERY_SAMPLE (R209). -/
def execBatterySample (batt : Nat) (s : State) : Answer :=
  .next (if s.power.st = .run then conclude s (sampleBattery batt (graceTick s)) else s)

/-- The grace runs out: SHUTDOWN, with the SDRAM in self-refresh (R203, R210; log 62). -/
def graceEnd (s : State) : State := shutDown { s with mc := s.mc.refreshItself }

/-- GRACE_EXPIRY (R210). -/
def execGraceExpiry (s : State) : Answer :=
  .next (if s.power.st = .run ∧ s.power.grace.isSome = true then graceEnd s else s)

end Sys2Proof.Machine
end

