-- ==== Sys2Proof/Machine/Dispatch.lean ====
section
/-! DEFINITION. The meaning of every command: one arm per constructor of `Instr`. -/

namespace Sys2Proof.Machine

def exec (i : Instr) (s : State) : Host.Outcome State Fault Refusal :=
  match i with
  | .setPods p tag t0 t1 => Sys2Proof.Machine.execSetPods p tag t0 t1 s
  | .setClock p tag d mask => Sys2Proof.Machine.execSetClock p tag d mask s
  | .setWatch p tag w => Sys2Proof.Machine.execSetWatch p tag w s
  | .loadTrigger p tag a => Sys2Proof.Machine.execLoadTrigger p tag a s
  | .arm p tag => Sys2Proof.Machine.execArm p tag s
  | .force p tag => Sys2Proof.Machine.execForce p tag s
  | .halt p tag => Sys2Proof.Machine.execHalt p tag s
  | .setStoreLow p tag n => Sys2Proof.Machine.execSetStoreLow p tag n s
  | .drop p tag seg => Sys2Proof.Machine.execDrop p tag seg s
  | .keep p tag seg => Sys2Proof.Machine.execKeep p tag seg s
  | .unkeep p tag seg => Sys2Proof.Machine.execUnkeep p tag seg s
  | .readRecords p tag seg fromTick toTick => Sys2Proof.Machine.execReadRecords p tag seg fromTick toTick s
  | .decStart p tag slot proto src quota level => Sys2Proof.Machine.execDecStart p tag slot proto src quota level s
  | .decStop p tag slot => Sys2Proof.Machine.execDecStop p tag slot s
  | .decClear p tag slot => Sys2Proof.Machine.execDecClear p tag slot s
  | .queueTake p tag slot n => Sys2Proof.Machine.execQueueTake p tag slot n s
  | .queuePeek p tag slot => Sys2Proof.Machine.execQueuePeek p tag slot s
  | .readNotes p tag slot seg fromTick toTick limit => Sys2Proof.Machine.execReadNotes p tag slot seg fromTick toTick limit s
  | .measure p tag seg a b mask => Sys2Proof.Machine.execMeasure p tag seg a b mask s
  | .measureResult p tag => Sys2Proof.Machine.execMeasureResult p tag s
  | .setView p tag seg t0 scale follow => Sys2Proof.Machine.execSetView p tag seg t0 scale follow s
  | .setLayout p tag rows => Sys2Proof.Machine.execSetLayout p tag rows s
  | .setPalette p tag colours => Sys2Proof.Machine.execSetPalette p tag colours s
  | .setCursors p tag a b => Sys2Proof.Machine.execSetCursors p tag a b s
  | .setLiveDivider p tag n => Sys2Proof.Machine.execSetLiveDivider p tag n s
  | .panelSetup p tag r => Sys2Proof.Machine.execPanelSetup p tag r s
  | .panelOn p tag => Sys2Proof.Machine.execPanelOn p tag s
  | .panelOff p tag => Sys2Proof.Machine.execPanelOff p tag s
  | .panelSleep p tag => Sys2Proof.Machine.execPanelSleep p tag s
  | .panelWake p tag => Sys2Proof.Machine.execPanelWake p tag s
  | .overlaySet p tag id x y w h => Sys2Proof.Machine.execOverlaySet p tag id x y w h s
  | .overlayClear p tag id => Sys2Proof.Machine.execOverlayClear p tag id s
  | .overlayPixels p tag id offset pixels => Sys2Proof.Machine.execOverlayPixels p tag id offset pixels s
  | .panelStatus p tag => Sys2Proof.Machine.execPanelStatus p tag s
  | .claim p tag take => Sys2Proof.Machine.execClaim p tag take s
  | .release p tag => Sys2Proof.Machine.execRelease p tag s
  | .portReset p tag => Sys2Proof.Machine.execPortReset p tag s
  | .readNext p tag => Sys2Proof.Machine.execReadNext p tag s
  | .streamCancel p tag => Sys2Proof.Machine.execStreamCancel p tag s
  | .alertLevels p tag pairs => Sys2Proof.Machine.execAlertLevels p tag pairs s
  | .alertFetch p tag => Sys2Proof.Machine.execAlertFetch p tag s
  | .identify p tag => Sys2Proof.Machine.execIdentify p tag s
  | .nop p tag => Sys2Proof.Machine.execNop p tag s
  | .statusAcquisition p tag => Sys2Proof.Machine.execStatusAcquisition p tag s
  | .statusStore p tag => Sys2Proof.Machine.execStatusStore p tag s
  | .statusDecoders p tag => Sys2Proof.Machine.execStatusDecoders p tag s
  | .statusRender p tag => Sys2Proof.Machine.execStatusRender p tag s
  | .statusPort p tag => Sys2Proof.Machine.execStatusPort p tag s
  | .doze p tag secs => Sys2Proof.Machine.execDoze p tag secs s
  | .wakeCausesClear p tag => Sys2Proof.Machine.execWakeCausesClear p tag s
  | .setBattery p tag low cutoff => Sys2Proof.Machine.execSetBattery p tag low cutoff s
  | .resetPart p tag => Sys2Proof.Machine.execResetPart p tag s
  | .powerStatus p tag => Sys2Proof.Machine.execPowerStatus p tag s
  | .consoleTransaction frame batt => Sys2Proof.Machine.execConsoleTransaction frame batt s
  | .shortTransaction frame batt => Sys2Proof.Machine.execShortTransaction frame batt s
  | .tetherRequestTransfer frame => Sys2Proof.Machine.execTetherRequestTransfer frame s
  | .tetherReplyAck => Sys2Proof.Machine.execTetherReplyAck s
  | .streamPacketAck => Sys2Proof.Machine.execStreamPacketAck s
  | .usbConfigure => Sys2Proof.Machine.execUsbConfigure s
  | .usbSuspend => Sys2Proof.Machine.execUsbSuspend s
  | .usbResume batt => Sys2Proof.Machine.execUsbResume batt s
  | .usbBusReset batt => Sys2Proof.Machine.execUsbBusReset batt s
  | .vbusLoss => Sys2Proof.Machine.execVbusLoss s
  | .vbusPresent => Sys2Proof.Machine.execVbusPresent s
  | .remoteWakeAllow => Sys2Proof.Machine.execRemoteWakeAllow s
  | .remoteWakeForbid => Sys2Proof.Machine.execRemoteWakeForbid s
  | .senseLineChange pod attached now => Sys2Proof.Machine.execSenseLineChange pod attached now s
  | .debounceExpiry pod now => Sys2Proof.Machine.execDebounceExpiry pod now s
  | .sampleTick inputs => Sys2Proof.Machine.execSampleTick inputs s
  | .idleExtend stream => Sys2Proof.Machine.execIdleExtend stream s
  | .primingEnd => Sys2Proof.Machine.execPrimingEnd s
  | .stageTimeout => Sys2Proof.Machine.execStageTimeout s
  | .postfillEnd => Sys2Proof.Machine.execPostfillEnd s
  | .timeLimit => Sys2Proof.Machine.execTimeLimit s
  | .lossClose => Sys2Proof.Machine.execLossClose s
  | .endLossClose => Sys2Proof.Machine.execEndLossClose s
  | .tapGapClose => Sys2Proof.Machine.execTapGapClose s
  | .writerBurstEnd => Sys2Proof.Machine.execWriterBurstEnd s
  | .readBurstEnd => Sys2Proof.Machine.execReadBurstEnd s
  | .refreshDue => Sys2Proof.Machine.execRefreshDue s
  | .refreshEnd => Sys2Proof.Machine.execRefreshEnd s
  | .tapEntryConsume slot => Sys2Proof.Machine.execTapEntryConsume slot s
  | .classifyEnd => Sys2Proof.Machine.execClassifyEnd s
  | .teEvent rising => Sys2Proof.Machine.execTeEvent rising s
  | .liveTimerExpiry => Sys2Proof.Machine.execLiveTimerExpiry s
  | .teMissingTimeout => Sys2Proof.Machine.execTeMissingTimeout s
  | .bandWritten => Sys2Proof.Machine.execBandWritten s
  | .overlayChunkEnd => Sys2Proof.Machine.execOverlayChunkEnd s
  | .overlayChangeApply => Sys2Proof.Machine.execOverlayChangeApply s
  | .initDelayEnd => Sys2Proof.Machine.execInitDelayEnd s
  | .panelStartDone => Sys2Proof.Machine.execPanelStartDone s
  | .offSequenceEnd => Sys2Proof.Machine.execOffSequenceEnd s
  | .sleepInEnd => Sys2Proof.Machine.execSleepInEnd s
  | .wakeDelayEnd => Sys2Proof.Machine.execWakeDelayEnd s
  | .powerOn => Sys2Proof.Machine.execPowerOn s
  | .resetPin => Sys2Proof.Machine.execResetPin s
  | .pllLock => Sys2Proof.Machine.execPllLock s
  | .initWaitEnd => Sys2Proof.Machine.execInitWaitEnd s
  | .sdramInitDone inputs batt => Sys2Proof.Machine.execSdramInitDone inputs batt s
  | .selfRefreshEntered batt => Sys2Proof.Machine.execSelfRefreshEntered batt s
  | .selfRefreshExited inputs now => Sys2Proof.Machine.execSelfRefreshExited inputs now s
  | .watchEdge inputs batt => Sys2Proof.Machine.execWatchEdge inputs batt s
  | .wakeTimerExpiry batt => Sys2Proof.Machine.execWakeTimerExpiry batt s
  | .chargerSenseChange present batt => Sys2Proof.Machine.execChargerSenseChange present batt s
  | .batterySample batt => Sys2Proof.Machine.execBatterySample batt s
  | .graceExpiry => Sys2Proof.Machine.execGraceExpiry s
  | .chipSelectAssertion batt => Sys2Proof.Machine.execChipSelectAssertion batt s
  | .resetRelease now => Sys2Proof.Machine.execResetRelease now s

end Sys2Proof.Machine
end

