-- ==== Sys2Proof/Safety.lean ====
section
/-! DEFINITION. What claims about the part speak of: when a port's request is carried out, the invariants that steps
keep, a run of steps. -/

namespace Sys2Proof.Machine

/-- The addressee of the reply to the request with kind code `k` (R193, R214). -/
def asking (p : Port) (k : Nat) (tag : Tag) : Deferred := { port := p, kind := BitVec.ofNat 8 k, tag := tag }

/-- Request `r` at port `p` reaches its own rule: the port receives it (R187, R191, R207), no request in service and no
ENTRY stands in its way (R188, R207), and the claim is held when it needs the claim (R193). -/
def State.ready (s : State) (p : Port) (r : Request) : Prop :=
  s.receives p = true ∧ s.busy p r = false ∧ claimCheck p r s = none

/-- The SDRAM's bytes are in their canonical form. -/
def State.memOk (s : State) : Prop := s.store.mem.wf = true

/-- The refresh debt is at most 8 (R96). -/
def State.debtOk (s : State) : Prop := s.mc.debt ≤ 8

/-- A port holds the claim while samples are taken, and through a drain whose sequence goes on (R57, R195); a stop tick
stands only while DRAINING (R38, R56). -/
def State.claimOk (s : State) : Prop :=
  ((s.seq.acq.sampling = true ∨ (s.seq.acq = .draining ∧ s.seq.seqEnd = false)) → s.ports.claim ≠ none) ∧
    (s.seq.stopTick ≠ none → s.seq.acq = .draining)

/-- The alert set stands in the fixed order, each kind once, with counts from 1 to 255 (R200). -/
def PortState.alertsOk (q : PortState) : Prop :=
  q.alerts.Pairwise (fun a b => a.kind.place < b.kind.place) ∧ ∀ a ∈ q.alerts, 1 ≤ a.count ∧ a.count ≤ 255

/-- The state a record carries, but for a BASE inside a loss (R17). -/
def Record.state? : Record → Option Half
  | .base false st => some st
  | .trans _ st => some st
  | _ => none

/-- A UART decoder takes a list of samples, each with its tick and whether the line is at its idle level (R120). -/
def uartFeed (c : UartCfg) : UartRx → List (Nat × Bool) → UartRx × List Formed
  | r, [] => (r, [])
  | r, x :: l => ((uartFeed c (uartSample c r x.1 x.2).1 l).1, (uartSample c r x.1 x.2).2 ++
      (uartFeed c (uartSample c r x.1 x.2).1 l).2)

/-- Run `n` steps; `none` when a step does not answer a next state. -/
def run : Nat → State → Option State
  | 0, s => some s
  | n + 1, s =>
    match step s with
    | .next t => run n t
    | _ => none

/-- A safe run of `n` steps: none faults and none is refused. -/
def State.safeFor (s : State) (n : Nat) : Prop := (run n s).isSome = true

end Sys2Proof.Machine
end

