-- ==== Sys2Proof/Certificates/Slice0/Obligations.lean ====
section
/-! DEFINITION. The statements for the provers, from the numbered rules of the spec. Where a result stands under
`conclude s`, that is what every such command ends with (a grant of the SDRAM, a block for the writer, the next step of
DORMANT entry); `ConcludeFrame` says what it can change. -/

open Sys2Proof Sys2Proof.Machine


/-! ## The machine -/

/-- A step takes the command at the front of the queue and runs it on the queue's rest; with none waiting the part
idles. The model's own choices or inferences in it: log 3. -/
def Obligations.StepRunsFrontCommand : Prop :=
  (∀ (c : Instr) (rest : List Instr) (s : State), s.pending = c :: rest →
    step s = exec c { s with pending := rest }) ∧
  (∀ s : State, s.pending = [] → step s = .next s)

/-- No command stops the part, and none touches the commands that wait. The model's own choices or inferences in it:
log 3, log 4. -/
def Obligations.CommandsAnswerAndKeepQueue : Prop :=
  ∀ (c : Instr) (s : State), ∃ t, exec c s = .next t ∧ t.pending = s.pending

/-- Every step keeps the SDRAM's bytes in their canonical form: addresses strictly rising, no entry 0. The model's own
choices or inferences in it: log 1. -/
def Obligations.StepKeepsMemoryForm : Prop :=
  ∀ s t : State, s.memOk → step s = .next t → t.memOk

/-- R96: no step brings the refresh debt above 8. -/
def Obligations.StepKeepsDebtBound : Prop :=
  ∀ s t : State, s.debtOk → step s = .next t → t.debtOk

/-- R195: while samples are taken a port holds the claim. The invariant adds what the steps need: the claim is also
held through a drain whose sequence goes on, and a stop tick stands only while DRAINING. -/
def Obligations.StepKeepsClaim : Prop :=
  ∀ s t : State, s.claimOk → step s = .next t → t.claimOk

/-- R200: every step keeps each port's alert set in the fixed order, each kind at most once, its count from 1 to 255.
-/
def Obligations.StepKeepsAlertOrder : Prop :=
  ∀ s t : State, s.ports.con.alertsOk → s.ports.teth.alertsOk → step s = .next t →
    t.ports.con.alertsOk ∧ t.ports.teth.alertsOk

/-- The invariants hold after reset. The model's own choices or inferences in it: log 1, log 32. -/
def Obligations.ResetMeetsInvariants : Prop :=
  State.reset.memOk ∧ State.reset.debtOk ∧ State.reset.claimOk ∧
    State.reset.ports.con.alertsOk ∧ State.reset.ports.teth.alertsOk

/-- What a command ends with, outside ENTRY and when the writer does not become urgent. It changes the controller and,
while its own block is full with a record left, the writer: that asks for a block, and the bytes 65536 b to 65536 b +
3 of the block b the store answers with take the writer BASE; every other byte keeps its value, and all of them when
no block is asked for or none is given. The FILLING entry's chain, trimmed count and start tick follow a trim; alerts
of STORE_LOW and what follows from them, and the reading positions of frame and measurement, are all that can change
besides (R30, R69, R80, R156). A measurement these leave nothing to account for then completes (R143, R145). The
model's own choices or inferences in it: log 16, log 30. -/
def Obligations.ConcludeFrame : Prop :=
  ∀ before s t : State, s.power.st ≠ .entry → (before.urgent = true ∨ s.urgent = false) → t = conclude before s →
    ∃ u : State, (u.meas.st = .busy → u.meas.b ≤ u.meas.acct → t = completeMeasure u) ∧
    (u.meas.st ≠ .busy ∨ u.meas.acct < u.meas.b → t = u) ∧
    (u.fe = s.fe ∧ u.comp = s.comp ∧ u.tap = s.tap ∧ u.seq = s.seq ∧ u.slots = s.slots ∧ u.notes = s.notes ∧
      u.panel = s.panel ∧ u.power = s.power ∧ u.pending = s.pending) ∧
    (u.ports.claim = s.ports.claim ∧ u.ports.conReplies = s.ports.conReplies ∧
      u.ports.tethReplies = s.ports.tethReplies ∧ u.ports.con.stream = s.ports.con.stream ∧
      u.ports.teth.stream = s.ports.teth.stream ∧ u.ports.con.levels = s.ports.con.levels ∧
      u.ports.teth.levels = s.ports.teth.levels ∧ u.ports.conService = s.ports.conService ∧
      u.ports.tethService = s.ports.tethService ∧ u.ports.outFrame = s.ports.outFrame ∧ u.ports.link = s.ports.link ∧
      u.ports.remoteWake = s.ports.remoteWake ∧ u.ports.vbus = s.ports.vbus ∧ u.ports.conOut = s.ports.conOut ∧
      u.ports.tethOut = s.ports.tethOut ∧
      u.ports.con.alerts.filter (fun a => a.kind ≠ .storeLow) = s.ports.con.alerts.filter (fun a => a.kind ≠ .storeLow) ∧
      u.ports.teth.alerts.filter (fun a => a.kind ≠ .storeLow) =
        s.ports.teth.alerts.filter (fun a => a.kind ≠ .storeLow)) ∧
    (u.render = { s.render with reader := u.render.reader } ∧ u.render.reader.done = s.render.reader.done ∧
      u.render.reader.walks = s.render.reader.walks) ∧
    u.meas = { s.meas with pos := u.meas.pos, place := u.meas.place, time := u.meas.time, cur := u.meas.cur,
                           acct := u.meas.acct, unknown := u.meas.unknown } ∧
    (u.store.sealCounter = s.store.sealCounter ∧ u.store.low = s.store.low ∧ u.store.available = s.store.available) ∧
    (s.writer.seg = none ∨ s.writer.written < 16384 ∨ s.comp.staging = [] →
      u.store = s.store ∧ u.writer = s.writer ∧ u.ports = s.ports) ∧
    (∀ (n : Nat) (r : State) (given : Option Nat), s.writer.seg = some n → 16384 ≤ s.writer.written →
      s.comp.staging ≠ [] → requestBlock n s.writer.time s = (r, given) →
      (∀ m, m ≠ n → u.seg m = s.seg m) ∧
      u.seg n = { s.seg n with chain := (u.seg n).chain, trimmed := (u.seg n).trimmed, start := (u.seg n).start } ∧
      u.store.segs = r.store.segs ∧ u.store.freeList = r.store.freeList ∧ u.store.armed = r.store.armed ∧
      u.ports = r.ports ∧
      (given = none → u.store = r.store ∧ u.store.mem = s.store.mem ∧ u.writer = s.writer) ∧
      (∀ b, given = some b →
        (∀ a, a < 65536 * b ∨ 65536 * b + 4 ≤ a → Memory.read u.store.mem a = Memory.read s.store.mem a) ∧
        (s.memOk → readWord u.store.mem b 0 = (Record.base s.writer.lossOpen s.writer.cur).word) ∧
        u.writer = { s.writer with block := b, written := 1, group := [.base s.writer.lossOpen s.writer.cur] } ∧
        u.store.blocks = r.store.blocks.set b { r.store.block b with used := 1 }))

/-! ## Formats and arithmetic -/

/-- R213: the bits of each kind of record word, the codes of the subkinds and of an END's seal reasons, and the record
a word gives back, whatever its fields within the ranges of R17. R18: the records placed over a gap carry the whole of
it, EXTENDs first, each of the full delta but for a last one that leaves 1 tick, then the record with at most 16,383;
the rows of the rule's table. -/
def Obligations.RecordWordLayout : Prop :=
  (∀ r : Record, r.inRange = true → Record.ofWord r.word = r) ∧
  (∀ (b : Bool) (st : Half), (Record.base b st).word.extractLsb' 30 2 = 0 ∧
    (Record.base b st).word.getLsbD 29 = b ∧ (Record.base b st).word.extractLsb' 16 13 = 0 ∧
    (Record.base b st).word.extractLsb' 0 16 = st) ∧
  (∀ (d : Nat) (st : Half), (Record.trans d st).inRange = true → (Record.trans d st).word.extractLsb' 30 2 = 1 ∧
    ((Record.trans d st).word.extractLsb' 16 14).toNat = d ∧ (Record.trans d st).word.extractLsb' 0 16 = st) ∧
  (∀ d : Nat, (Record.extend d).inRange = true → (Record.extend d).word.extractLsb' 30 2 = 2 ∧
    ((Record.extend d).word.extractLsb' 0 30).toNat = d) ∧
  (∀ (d : Nat) (sub : MarkKind) (arg code : Nat), (Record.mark d sub arg).inRange = true →
    (sub, code) ∈ [(MarkKind.lossBegin, 0), (MarkKind.lossEnd, 1), (MarkKind.podLost, 2), (MarkKind.stop, 3)] →
    (Record.mark d sub arg).word.extractLsb' 30 2 = 3 ∧ ((Record.mark d sub arg).word.extractLsb' 16 14).toNat = d ∧
    ((Record.mark d sub arg).word.extractLsb' 14 2).toNat = code ∧ (Record.mark d sub arg).word.extractLsb' 12 2 = 0 ∧
    ((Record.mark d sub arg).word.extractLsb' 0 12).toNat = arg) ∧
  (∀ b st, (Record.base b st).delta = 0) ∧
  [SealReason.complete, .halted, .storeFull, .ownerLost, .power, .timeLimit].map SealReason.code = [1, 2, 3, 4, 5, 6] ∧
  (∀ (g : Nat) (mk : Nat → Record), ∃ (es : List Nat) (d : Nat), placeRecord g mk = es.map Record.extend ++ [mk d] ∧
    es.sum + d = g ∧ d ≤ 16383 ∧ (1 ≤ g → 1 ≤ d) ∧ (g ≤ 16383 → es = []) ∧
    (∀ e ∈ es, 1 ≤ e ∧ e ≤ 1073741823) ∧ (∀ e ∈ es.dropLast, e = 1073741823) ∧
    (∀ e, es.getLast? = some e → e = 1073741823 ∨ d = 1)) ∧
  (∀ mk : Nat → Record, placeRecord 0 mk = [mk 0] ∧ placeRecord 16383 mk = [mk 16383] ∧
    placeRecord 50000 mk = [.extend 49999, mk 1] ∧ placeRecord 1073741823 mk = [.extend 1073741822, mk 1] ∧
    placeRecord 2147483648 mk = [.extend 1073741823, .extend 1073741823, mk 2])

/-- The frame of a request that fits 256 payload bytes is read back as that request, with its kind code and tag: in an
OUT transfer of the tether port, and in a console transaction, whatever padding follows (R214, R218). The model's own
choices or inferences in it: log 5, log 6, log 57, log 83, log 85, log 86. -/
def Obligations.RequestFrameRoundTrip : Prop :=
  ∀ (tag : Tag) (r : Request) (pad : List Byte), r.wf = true → (Wire.putPayload r).length ≤ 256 →
    Wire.tetherFrame (Wire.frame tag r) = .request (BitVec.ofNat 8 (Wire.code r)) tag r ∧
    Wire.consoleFrame (Wire.frame tag r ++ pad) = .request (BitVec.ofNat 8 (Wire.code r)) tag r

/-- Frames written out byte by byte from R214: NOP (kind 43) with tag 0x1234, SET_CLOCK (kind 2) with D = 4 and mask
0x00FF, STATUS (kind 44) with selector DECODERS; and one with a kind code that names no request. The frames the part
sends (R187, R212, R214, R215, R219): a reply's header, its status codes and its payload of at most 256 bytes; a NONE
frame's 8 bytes; the 6 bytes of an ALERT_FETCH reply, zeros for none; the repeat count of a BAD_FORM; ticks in 6
bytes, counts of blocks or records in 4, the least significant first, and the levels of ALERT_LEVELS (R212, R214; the
order of the fields of a payload is the model's inference, log 7); as many bytes go out as are clocked, zeros after
the frame. The model's own choices or inferences in it: log 7. -/
def Obligations.WrittenFramesAreRead : Prop :=
  Wire.tetherFrame [0x01, 43, 0x34, 0x12, 0, 0, 0, 0] = .request 43 0x1234 .nop ∧
  Wire.tetherFrame [0x01, 2, 1, 0, 6, 0, 0, 0, 4, 0, 0, 0, 0xFF, 0x00] = .request 2 1 (.setClock 4 0x00FF) ∧
  Wire.tetherFrame [0x01, 44, 7, 0, 1, 0, 0, 0, 2] = .request 44 7 (.status .decoders) ∧
  Wire.tetherFrame [0x01, 50, 7, 0, 0, 0, 0, 0] = .malformed 50 7 ∧
  (∀ (r : Reply) (n : Nat), n = r.body.bytes.length → n ≤ 256 ∧
    r.bytes = [2, r.kind, r.tag.setWidth 8, r.tag.extractLsb' 8 8, BitVec.ofNat 8 n, BitVec.ofNat 8 (n / 256),
      BitVec.ofNat 8 r.status.code, if r.last then 1 else 0] ++ r.body.bytes) ∧
  [Status.ok, .accepted, .badForm, .noClaim, .heldElsewhere, .wrongState, .noSuch, .noRoom, .outOfRange,
    .foreign].map Status.code = [0, 1, 2, 3, 4, 5, 6, 7, 8, 9] ∧
  (∀ (starting waiting : Bool) (n : Nat), (OutFrame.none starting waiting n).bytes =
    [0, BitVec.ofNat 8 n, 0, 0, 0, 0, 0, (if starting then 1 else 0) + (if waiting then 2 else 0)]) ∧
  (∀ (x : Alert) (l : AlertLevel) (left : Nat), (ReplyBody.alert (some (x, l)) left).bytes =
    [BitVec.ofNat 8 x.kind.place, BitVec.ofNat 8 l.code, BitVec.ofNat 8 x.count, BitVec.ofNat 8 x.arg,
      BitVec.ofNat 8 (x.arg / 256), BitVec.ofNat 8 left]) ∧
  (∀ left : Nat, (ReplyBody.alert none left).bytes = [0, 0, 0, 0, 0, BitVec.ofNat 8 left]) ∧
  (∀ n : Nat, (ReplyBody.badForm n).bytes = [BitVec.ofNat 8 n]) ∧
  (∀ (le : Nat → Nat → List Byte), (∀ w v, le w v = (List.range w).map fun i => BitVec.ofNat 8 (v / 256 ^ i)) →
    (∀ t, (ReplyBody.tick t).bytes = le 6 t) ∧
    (∀ lo hi n, (ReplyBody.recordsStream lo hi n).bytes = le 6 lo ++ le 6 hi ++ le 4 n) ∧
    (∀ a b, (ReplyBody.measuring a b).bytes = le 6 a ++ le 6 b) ∧
    (∀ low n armed, ∃ pre post, (ReplyBody.storeLow low n armed).bytes = (pre ++ le 4 n ++ post).take 256) ∧
    (∀ t0 scale, ∃ post, (ReplyBody.viewed t0 scale).bytes = (le 6 t0 ++ post).take 256) ∧
    (∀ seg a b, ∃ pre, (ReplyBody.measureBusy seg a b).bytes = (pre ++ le 6 a ++ le 6 b).take 256)) ∧
  (∀ ls : List AlertLevel, ls.length = 15 → (ReplyBody.levels ls).bytes =
    ls.map fun l => match l with
      | .off => 0
      | .routine => 1
      | .urgent => 2) ∧
  (∀ (f : OutFrame) (n : Nat), (f.clocked n).length = n ∧ ∀ i, i < n → (f.clocked n)[i]? = some (f.bytes.getD i 0))

/-- R5: codes lie in 0 to 4095, clamping included, and the effective threshold is within 1 mV of the clamped request;
the rows of the rule's table. -/
def Obligations.ThresholdConversion : Prop :=
  (∀ v : Int, thresholdCode v ≤ 4095 ∧
    thresholdCode v = ((clampThreshold v + 3000) * 4095 + 4000) / 8000 ∧
    effectiveThreshold (thresholdCode v) = (thresholdCode v * 8000 + 2047) / 4095 - 3000 ∧
    effectiveThreshold (thresholdCode v) - clampThreshold v ≤ 1 ∧
    clampThreshold v - effectiveThreshold (thresholdCode v) ≤ 1) ∧
  (∀ v : Int, clampThreshold v = if v < -3000 then -3000 else if 5000 < v then 5000 else v) ∧
  [1650, 0, 2, -4000, 6000].map thresholdCode = [2380, 1536, 1537, 0, 4095] ∧
  [1650, 0, 2, -4000, 6000].map (fun v => effectiveThreshold (thresholdCode v)) = [1650, 1, 3, -3000, 5000]

/-- R217: an export entry is 20 bytes, field by field, least significant byte first. -/
def Obligations.ExportEntryBytes : Prop :=
  ∀ e : Note, e.export.length = 20 ∧
    e.export.take 3 = [BitVec.ofNat 8 e.slot, BitVec.ofNat 8 e.seg, BitVec.ofNat 8 e.kind] ∧
    (∀ h : 3 < e.export.length, e.export[3] =
      BitVec.ofNat 8 (e.read.toNat + 2 * e.ack.toNat + 4 * e.parityOk.toNat + 8 * e.aux.isSome.toNat)) ∧
    leNat ((e.export.drop 4).take 6) = e.start % 2 ^ 48 ∧ leNat ((e.export.drop 10).take 6) = e.stop % 2 ^ 48 ∧
    leNat ((e.export.drop 16).take 2) = e.value % 2 ^ 16 ∧ leNat (e.export.drop 18) = e.aux.getD 0 % 2 ^ 16

/-- R87: the byte order of a record place and its column, bank and row, both halfwords in one row; reading a record
place gives the word written there last and every other place keeps its word; places of different blocks or numbers
never share a halfword. The model's own choices or inferences in it: log 1. -/
def Obligations.RecordPlacesAreSeparate : Prop :=
  (∀ (m : Memory) (b p c r : Nat) (w : Word), m.wf = true → p < 16384 → r < 16384 →
    readWord (writeWord m b p w) c r = if c = b ∧ r = p then w else readWord m c r) ∧
  (∀ (m : Memory) (b p h : Nat), h = 32768 * b + 2 * p → readWord m b p = Memory.read m (2 * h + 3) ++
    (Memory.read m (2 * h + 2) ++ (Memory.read m (2 * h + 1) ++ Memory.read m (2 * h)))) ∧
  (∀ b p h : Nat, p < 16384 → h = 32768 * b + 2 * p → placeHalf b p = h ∧
    columnAt h = 2 * (p % 256) ∧ columnAt (h + 1) = 2 * (p % 256) + 1 ∧ columnOf p = 2 * (p % 256) ∧
    bankAt h = p / 256 % 4 ∧ bankAt (h + 1) = p / 256 % 4 ∧ bankOf p = p / 256 % 4 ∧
    rowAtHalf h = 16 * b + p / 1024 ∧ rowAtHalf (h + 1) = 16 * b + p / 1024 ∧ rowOf b p = 16 * b + p / 1024) ∧
  (∀ h : Nat, columnAt h = h % 512 ∧ bankAt h = h / 512 % 4 ∧ rowAtHalf h = h / 2048)

/-- What the panel is sent to draw. R159: the spans of the plot columns leave no tick out and, from one tick a column
up, count none twice; a column whose next edge is its own shows one tick. R162 to R165: the colour of a plot pixel:
cursor B over cursor A over the row's cell, whose margin lines, and the lines below the layout, are background. R179:
the windows of a band lie in its plot part, from the top down and from the left, and hold the pixels that no overlay
covers, each once; lines of equal written sets share a window. R170: each window goes out as its column, row and
memory-write commands and its pixels line by line. R184: a chunk goes out as one window for each line of its rectangle
it touches. The model's own choices or inferences in it: log 12. -/
def Obligations.ColumnSpans : Prop :=
  (∀ t0 scale c : Nat,
    colEdge t0 scale 0 = t0 ∧ colEdge t0 scale c ≤ colEdge t0 scale (c + 1) ∧
    colEdge t0 scale c < colEnd t0 scale c ∧
    (256 ≤ scale → colEnd t0 scale c = colEdge t0 scale (c + 1)) ∧
    (colEdge t0 scale (c + 1) = colEdge t0 scale c → colEnd t0 scale c = colEdge t0 scale c + 1)) ∧
  (∀ (s : State) (c y height : Nat) (l : Latch) (colour : Nat → Half), l = s.render.latch →
    height = (l.layout.map (·.height)).sum → (∀ i, colour i = l.palette.getD i 0) →
    (y < height → c ∈ s.render.drawnB → s.pixel (20 + c) y = colour 7) ∧
    (y < height → c ∉ s.render.drawnB → c ∈ s.render.drawnA → s.pixel (20 + c) y = colour 6) ∧
    (height ≤ y → s.pixel (20 + c) y = colour 0) ∧
    (∀ i row y0 cells cell, c ∉ s.render.drawnB → c ∉ s.render.drawnA → l.layout[i]? = some row →
      y0 = ((l.layout.take i).map (·.height)).sum → y0 ≤ y → y < y0 + row.height → s.render.trace[i]? = some cells →
      cells[c]? = some cell →
      (y = y0 ∨ y + 1 = y0 + row.height → s.pixel (20 + c) y = colour 0) ∧
      (y0 < y → y + 1 < y0 + row.height →
        (cell = .outside ∨ cell = .none → s.pixel (20 + c) y = colour 0) ∧
        (cell = .unknown → s.pixel (20 + c) y = colour (if (20 + c + y) % 4 = 0 then 1 else 0)) ∧
        (cell = .edge → s.pixel (20 + c) y = colour row.colour) ∧
        (cell = .low → s.pixel (20 + c) y = colour (if y + 2 = y0 + row.height ∨
          (1 ≤ c ∧ cells[c - 1]? = some .high) then row.colour else 0)) ∧
        (cell = .high → s.pixel (20 + c) y = colour (if y = y0 + 1 ∨
          (1 ≤ c ∧ cells[c - 1]? = some .low) then row.colour else 0)) ∧
        (∀ hatch label ground, cell = .bar hatch label →
          ground = (if hatch = false ∨ (20 + c + y) % 4 = 0 then row.colour else 0) →
          (label = none → s.pixel (20 + c) y = colour ground) ∧
          (∀ digit k top, label = some (digit, k) → top = y0 + (row.height - 7) / 2 → s.pixel (20 + c) y = colour
            (if top ≤ y ∧ y < top + 7 ∧ k < 5 ∧ Config.glyph digit (y - top) k = true then 0 else ground)))))) ∧
  (∀ (list : List (Option Rect)) (b : Nat) (under : Nat → Nat → Prop),
    (∀ x y, under x y ↔ ∃ o, some o ∈ list ∧ o.x ≤ x ∧ x < o.x + o.w ∧ o.y ≤ y ∧ y < o.y + o.h) →
    (∀ w ∈ bandWindows list b, 20 ≤ w.1 ∧ w.1 ≤ w.2.1 ∧ w.2.1 < 320 ∧ 16 * b ≤ w.2.2.1 ∧ w.2.2.1 ≤ w.2.2.2 ∧
      w.2.2.2 < 16 * b + 16) ∧
    (∀ x y, 20 ≤ x → x < 320 → y / 16 = b →
      (¬ under x y ↔ ∃ w ∈ bandWindows list b, w.1 ≤ x ∧ x ≤ w.2.1 ∧ w.2.2.1 ≤ y ∧ y ≤ w.2.2.2)) ∧
    (bandWindows list b).Pairwise (fun v w => v.2.2.2 < w.2.2.1 ∨
      (v.2.2.1 = w.2.2.1 ∧ v.2.2.2 = w.2.2.2 ∧ v.2.1 + 1 < w.1)) ∧
    (∀ y, y / 16 = b → (y + 1) / 16 = b →
      ((∀ x, 20 ≤ x → x < 320 → (under x y ↔ under x (y + 1))) → ∀ w ∈ bandWindows list b,
        (w.2.2.1 ≤ y ∧ y ≤ w.2.2.2 ↔ w.2.2.1 ≤ y + 1 ∧ y + 1 ≤ w.2.2.2)) ∧
      (∀ x, 20 ≤ x → x < 320 → ¬(under x y ↔ under x (y + 1)) → ∀ w ∈ bandWindows list b,
        ¬(w.2.2.1 ≤ y ∧ y + 1 ≤ w.2.2.2)))) ∧
  (∀ (s : State) (r : PanelSetup) (b : Nat) (byte : Nat → Transfer) (put : Half → List Transfer)
      (head : Nat → Nat → Nat → Nat → List Transfer),
    (∀ n, byte n = .data (BitVec.ofNat 16 (n % 256))) →
    (∀ p, put p = if r.width = 8 then [byte (p.toNat / 256), byte p.toNat] else [.data p]) →
    (∀ x0 x1 y0 y1, head x0 x1 y0 y1 = [.command r.colWindow, byte (x0 / 256), byte x0, byte (x1 / 256), byte x1,
      .command r.rowWindow, byte (y0 / 256), byte y0, byte (y1 / 256), byte y1, .command r.memWrite]) →
    bandTransfers s r b = ((bandWindows s.panel.overlays b).flatMap fun w => head w.1 w.2.1 w.2.2.1 w.2.2.2 ++
      (List.range (w.2.2.2 + 1 - w.2.2.1)).flatMap fun j => (List.range (w.2.1 + 1 - w.1)).flatMap fun i =>
        put (s.pixel (w.1 + i) (w.2.2.1 + j))) ∧
    (b < 15 → s.panel.overlays = [none, none, none, none] →
      bandTransfers s r b = head 20 319 (16 * b) (16 * b + 15) ++
        (List.range 16).flatMap fun j => (List.range 300).flatMap fun i => put (s.pixel (20 + i) (16 * b + j))) ∧
    (∀ (o : Rect) (first : Nat) (px : List Half), 1 ≤ o.w → 1 ≤ px.length → px.length ≤ 256 →
      chunkTransfers r o 256 first px =
        (List.range ((first + px.length - 1) / o.w + 1 - first / o.w)).flatMap fun k =>
          let line := first / o.w + k
          let a := max first (line * o.w)
          let z := min (first + px.length) (line * o.w + o.w)
          head (o.x + (a - line * o.w)) (o.x + (z - 1 - line * o.w)) (o.y + line) (o.y + line) ++
            ((px.drop (a - first)).take (z - a)).flatMap put))

/-- R108: the bit period of a UART slot, its two worked values, and that halves of D × baud are kept exact. R119 to
R121: a start edge is a change of RX from the idle level to the active one, seen while no frame is in progress; bit i
is sampled in the middle of its bit time. A frame whose start, data, parity and stop samples are as they should forms
one CHAR, or PARITY_ERR where the parity is wrong; one whose first stop sample is active forms a FRAME_ERR, or a BREAK
when every sample was active; a start bit found idle forms nothing. -/
def Obligations.UartPeriod : Prop :=
  ((∀ d baud : Nat, 0 < d → 0 < baud → 2 ∣ d * baud →
    uartPeriod d baud = (102400000000 + d * baud / 2) / (d * baud)) ∧
  (∀ d baud q : Nat, 0 < d * baud →
    (uartPeriod d baud = q ↔ 2 * (d * baud) * q ≤ 204800000000 + d * baud ∧
      204800000000 + d * baud < 2 * (d * baud) * (q + 1))) ∧
  uartPeriod 4 115200 = 222222 ∧ uartPeriod 1 25000000 = 4096) ∧
  (∀ (c : UartCfg) (r : UartRx) (was is : Half) (t : Nat),
    (r.phase = .hunt → was.getLsbD c.rx = c.idleHigh → is.getLsbD c.rx = !c.idleHigh →
      uartEdge c r was is t = { phase := .start, t0 := t, bit := 0, value := 0, par := false, allActive := true }) ∧
    (r.phase ≠ .hunt ∨ was.getLsbD c.rx = !c.idleHigh ∨ is.getLsbD c.rx = c.idleHigh → uartEdge c r was is t = r)) ∧
  (∀ P t0 i : Nat, samplePoint P t0 i = t0 + (2 * i + 1) * P / 512) ∧
  (∀ (c : UartCfg) (P limit fuel : Nat) (cur : Half) (r : UartRx),
    (r.phase = .hunt ∨ limit < samplePoint P r.t0 r.bit → uartAdvance c P cur limit (fuel + 1) r = (r, [])) ∧
    (∀ x, r.phase ≠ .hunt → samplePoint P r.t0 r.bit ≤ limit →
      x = uartSample c r (samplePoint P r.t0 r.bit) (cur.getLsbD c.rx = c.idleHigh) →
      uartAdvance c P cur limit (fuel + 1) r = ((uartAdvance c P cur limit fuel x.1).1,
        x.2 ++ (uartAdvance c P cur limit fuel x.1).2))) ∧
  (∀ (c : UartCfg) (r : UartRx) (t0 t : Nat) (data pars : List Bool) (l : List (Nat × Bool)) (value : Nat) (good : Bool),
    r = { phase := .start, t0 := t0, bit := 0, value := 0, par := false, allActive := true } →
    5 ≤ c.dataBits → c.dataBits ≤ 9 → 1 ≤ c.stopBits → data.length = c.dataBits →
    pars.length = (if c.parity = .none then 0 else 1) →
    value = (data.zipIdx.map fun x => x.1.toNat * 2 ^ x.2).sum →
    (good = true ↔ c.parity = .none ∨ (c.parity = .even ∧ (data.count true + pars.count true) % 2 = 0) ∨
      (c.parity = .odd ∧ (data.count true + pars.count true) % 2 = 1)) →
    (l.map (·.2) = false :: data ++ pars ++ List.replicate c.stopBits true → l.getLast? = some (t, true) →
      uartFeed c r l = (UartRx.hunt, [⟨if good then 2 else 3, t0, t + 1, value, pars.head?.map Bool.toNat, false, false,
        good⟩])) ∧
    (l.map (·.2) = false :: data ++ pars ++ [false] → l.getLast? = some (t, false) →
      ((∃ b ∈ data ++ pars, b = true) →
        uartFeed c r l = (UartRx.hunt, [⟨4, t0, t + 1, value, pars.head?.map Bool.toNat, false, false, good⟩])) ∧
      ((∀ b ∈ data ++ pars, b = false) →
        uartFeed c r l = (UartRx.hunt, [⟨5, t0, t + 1, 0, none, false, false, false⟩]))) ∧
    (uartFeed c r [(t, true)] = (UartRx.hunt, [])))

/-! ## Requests: what every port does -/

/-- A request row the port does not receive changes nothing but what every such command ends with. One that its port
may not take is answered WRONG_STATE while another console request is in service or in ENTRY, NO_CLAIM or
HELD_ELSEWHERE without the claim (R188, R193, R207), in that order, which is the model's choice (log 66). An answer
adds one reply, with the request's kind and tag, at the tail of its own port's replies, and changes nothing else. The
model's own choices or inferences in it: log 5, log 7, log 16, log 66. -/
def Obligations.RequestsTurnedAway : Prop :=
  (∀ (c : Instr) (p : Port) (tag : Tag) (r : Request) (s : State), c.request? = some (p, tag, r) →
    (s.receives p = false → exec c s = .next s ∨ exec c s = .next (conclude s s)) ∧
    (s.receives p = true → s.busy p r = true →
      exec c s = .next (refuse (asking p (Wire.code r) tag) .wrongState s) ∨
      exec c s = .next (conclude s (refuse (asking p (Wire.code r) tag) .wrongState s))) ∧
    (s.receives p = true → s.busy p r = false → r.needsClaim = true → s.ports.claim = none →
      exec c s = .next (refuse (asking p (Wire.code r) tag) .noClaim s) ∨
      exec c s = .next (conclude s (refuse (asking p (Wire.code r) tag) .noClaim s))) ∧
    (s.receives p = true → s.busy p r = false → r.needsClaim = true → s.ports.claim = some (other p) →
      exec c s = .next (refuse (asking p (Wire.code r) tag) .heldElsewhere s) ∨
      exec c s = .next (conclude s (refuse (asking p (Wire.code r) tag) .heldElsewhere s)))) ∧
  (∀ (q : Deferred) (st : Status) (body : ReplyBody) (s : State),
    (q.port = .console → answer q st body s = { s with ports := { s.ports with
      conReplies := s.ports.conReplies ++
        [{ kind := q.kind, tag := q.tag, status := st, body := body, last := false }] } }) ∧
    (q.port = .tether → answer q st body s = { s with ports := { s.ports with
      tethReplies := s.ports.tethReplies ++
        [{ kind := q.kind, tag := q.tag, status := st, body := body, last := false }] } }))

/-! ## Requests: front end, sequencer, store -/

/-- SET_PODS, SET_CLOCK and SET_WATCH (R6, R9, R14). Each threshold present replaces its pod's code, an absent one
leaves it. D is clamped into 1 to 1,048,576 and becomes 2 when it would be 1 beside a pod-B channel; the mask is taken
as given; the reply carries the tick length D × 2500 ps. The watch becomes NONE or the channel and edge kind, in every
acquisition state. The refusals of each. The model's own choices or inferences in it: log 77. -/
def Obligations.SetupRequestsResult : Prop :=
  (∀ (p : Port) (tag : Tag) (a b : Option Int) (s : State), s.ready p (.setPods a b) →
    (s.seq.acq = .idle → ∀ c0 c1 : Nat,
      (∀ v, a = some v → c0 = thresholdCode v) → (a = none → c0 = s.fe.pod0.code) →
      (∀ v, b = some v → c1 = thresholdCode v) → (b = none → c1 = s.fe.pod1.code) →
      exec (.setPods p tag a b) s = .next (answer (asking p 1 tag) .ok
        (.pods c0 (effectiveThreshold c0) s.fe.pod0.present c1 (effectiveThreshold c1) s.fe.pod1.present)
        { s with fe := { s.fe with pod0 := { s.fe.pod0 with code := c0 }, pod1 := { s.fe.pod1 with code := c1 } } })) ∧
    (s.seq.acq ≠ .idle → exec (.setPods p tag a b) s = .next (refuse (asking p 1 tag) .wrongState s))) ∧
  (∀ (p : Port) (tag : Tag) (d : Nat) (mask : Half) (s : State), s.ready p (.setClock d mask) →
    (s.seq.acq = .idle → ∃ e : Nat,
      e = (if max 1 (min 1048576 d) = 1 ∧ mask &&& 0xFF00 ≠ 0 then 2 else max 1 (min 1048576 d)) ∧
      exec (.setClock p tag d mask) s = .next (answer (asking p 2 tag) .ok (.clock e mask (e * 2500))
        { s with fe := { s.fe with divider := e, mask := mask } })) ∧
    (s.seq.acq ≠ .idle → exec (.setClock p tag d mask) s = .next (refuse (asking p 2 tag) .wrongState s))) ∧
  (∀ (p : Port) (tag : Tag) (s : State),
    (s.ready p (.setWatch none) → exec (.setWatch p tag none) s =
      .next (answer (asking p 3 tag) .ok .none { s with fe := { s.fe with watch := none } })) ∧
    (∀ c k : Nat, s.ready p (.setWatch (some (c, k))) →
      (∀ e : EdgeKind, c ≤ 15 → (k, e) ∈ [(0, EdgeKind.rise), (1, EdgeKind.fall), (2, EdgeKind.either)] →
        exec (.setWatch p tag (some (c, k))) s =
          .next (answer (asking p 3 tag) .ok .none { s with fe := { s.fe with watch := some (c, e) } })) ∧
      (15 < c ∨ 2 < k → exec (.setWatch p tag (some (c, k))) s = .next (refuse (asking p 3 tag) .outOfRange s))))

/-- LOAD_TRIGGER (R39): a set of arm parameters in range replaces them all, one with any field out of range replaces
none; outside IDLE it is refused. The ranges of the rule's table, field by field. The model's own choices or
inferences in it: log 57. -/
def Obligations.LoadTriggerResult : Prop :=
  (∀ (p : Port) (tag : Tag) (a : ArmParams) (s : State), s.ready p (.loadTrigger a) →
    (s.seq.acq = .idle → paramsInRange a = true → exec (.loadTrigger p tag a) s =
      .next (answer (asking p 4 tag) .ok .none { s with seq := { s.seq with params := a } })) ∧
    (s.seq.acq = .idle → paramsInRange a = false →
      exec (.loadTrigger p tag a) s = .next (refuse (asking p 4 tag) .outOfRange s)) ∧
    (s.seq.acq ≠ .idle → exec (.loadTrigger p tag a) s = .next (refuse (asking p 4 tag) .wrongState s))) ∧
  (∀ a : ArmParams, paramsInRange a = true ↔
    a.wPre < 2 ^ 46 ∧ 1 ≤ a.bPre ∧ a.bPre ≤ 511 ∧ a.pPost < 2 ^ 46 ∧ (a.reclaim = .on ∨ a.reclaim = .off) ∧
    1 ≤ a.sequence ∧ a.sequence ≤ 16 ∧ a.stages.length = 4 ∧
    ∀ g ∈ a.stages, 1 ≤ g.count ∧ g.count ≤ 65535 ∧ g.timeout < 2 ^ 32 ∧
      (g.next = .final ∨ ∃ k, k ≤ 3 ∧ g.next = .stage k) ∧
      (g.timeoutTarget = .final ∨ ∃ k, k ≤ 3 ∧ g.timeoutTarget = .stage k) ∧
      ((∃ cs, g.cond = .pattern cs ∧ cs.length = 16 ∧
          (∀ c ∈ cs, c = .ignore ∨ c = .low ∨ c = .high ∨ c = .rise ∨ c = .fall ∨ c = .edge) ∧
          (g.qualifier = .none ∨ ∃ n, 1 ≤ n ∧ n ≤ 65535 ∧
            (g.qualifier = .heldAtLeast n ∨ g.qualifier = .heldLessThan n))) ∨
        (∃ slot kind value mask, g.cond = .decoder slot kind value mask ∧ slot ≤ 3 ∧ value ≤ 65535 ∧ mask ≤ 65535 ∧
          g.qualifier = .none)))

/-- ARM (R40, R41, R66, R67): with room, the lowest EMPTY entry (after the reclaims that RECLAIM allows) becomes
FILLING with the free-list head and the values latched (R11), the tick counter is 0, pods are blanked by presence, the
compressor holds the arm BASE of the state then delivered (R10, R21), live slots that wait run and owe that BASE (R34,
R109), their tag cleared (log 53), and the acquisition is PRIMING up to W_pre; the SDRAM and the other entries are
untouched. Without room or outside IDLE it is refused. What room is, and the reclaims: oldest first, only eligible
segments, no longer than no entry is EMPTY or fewer than two blocks are free (R65, R66). The model's own choices or
inferences in it: log 16, log 49, log 53, log 74, log 77. -/
def Obligations.ArmResult : Prop :=
  (∀ (p : Port) (tag : Tag) (s : State), s.ready p .arm →
    (s.seq.acq = .idle → s.store.available = true → s.hasRoom = true →
      ∀ (r : State) (n b : Nat) (rest : List Nat) (st : Half),
        r = (if s.seq.params.reclaim = .on then reclaimForArm 16 s else s) → n < r.store.segs.length →
        r.lowestEmpty = some n → r.store.freeList = b :: rest →
        st = s.fe.levels &&& s.fe.mask &&& (if s.fe.pod0.present then 0xFFFF else 0xFF00) &&&
          (if s.fe.pod1.present then 0xFFFF else 0x00FF) →
        ∃ t, exec (.arm p tag) s = .next (conclude s (answer (asking p 5 tag) .accepted (.armed n 1) t)) ∧
          t.fe.tick = 0 ∧ t.fe.pod0.blanked = !s.fe.pod0.present ∧ t.fe.pod1.blanked = !s.fe.pod1.present ∧
          t.seq.acq = .priming ∧ t.seq.seg = some n ∧ t.seq.taken = 1 ∧ t.seq.seqEnd = false ∧
          t.seq.primingEnd = s.seq.params.wPre ∧ t.seq.params = s.seq.params ∧
          t.seg n = { Segment.empty with
            state := .filling, owner := some p, chain := [b], burstChain := 1, index := 1
            latched := { divider := s.fe.divider, mask := s.fe.mask, code0 := s.fe.pod0.code, code1 := s.fe.pod1.code,
                         blank0 := !s.fe.pod0.present, blank1 := !s.fe.pod1.present } } ∧
          (∀ m, m ≠ n → t.seg m = r.seg m) ∧ t.store.freeList = rest ∧
          (b < r.store.blocks.length → t.store.block b = { next := none, base := 0, used := 0 }) ∧
          t.comp.staging = [.base false st] ∧ t.comp.last = st ∧ t.comp.lossOpen = false ∧ t.comp.stagingTime = 0 ∧
          t.comp.tapTime = 0 ∧ t.comp.lastTick = 0 ∧
          t.writer.seg = some n ∧ t.writer.block = b ∧ t.writer.written = 0 ∧ t.tap.joining = [] ∧
          (∀ k x, r.slot k = x →
            (x.source = some .live → x.state = .waiting → t.slot k = { x with
              state := .running, joinNext := false, tag := none, walk := { Walk.reset with last := x.walk.last } }) ∧
            (x.live = true → t.slot k = { x with joinNext := false }) ∧
            (x.source ≠ some .live ∨ (x.state ≠ .waiting ∧ x.state ≠ .running) → t.slot k = x)) ∧
          (t.liveSlots = [] → t.tap.entries = r.tap.entries) ∧
          (t.liveSlots ≠ [] → r.tap.gapOpen = false → r.tap.entries.length ≤ 255 → t.tap.entries = r.tap.entries ++
            [⟨.base false st, 0, false, t.liveSlots, some n, s.fe.divider⟩]) ∧
          t.store.mem = s.store.mem ∧ t.ports.claim = s.ports.claim ∧ t.panel = s.panel) ∧
    (s.seq.acq ≠ .idle ∨ s.store.available = false →
      exec (.arm p tag) s = .next (conclude s (refuse (asking p 5 tag) .wrongState s))) ∧
    (s.seq.acq = .idle → s.store.available = true → s.hasRoom = false →
      exec (.arm p tag) s = .next (conclude s (refuse (asking p 5 tag) .noRoom s)))) ∧
  (∀ e : Segment, e.eligible = true ↔ e.state = .sealed ∧ e.kept = false ∧ e.pins.any = false) ∧
  (∀ s : State, s.hasRoom = true ↔
    ((∃ e ∈ s.store.segs, e.state = .empty) ∨ (s.seq.params.reclaim = .on ∧ ∃ e ∈ s.store.segs, e.eligible = true)) ∧
    2 ≤ s.store.freeList.length +
      (if s.seq.params.reclaim = .on then ((s.store.segs.filter (·.eligible)).map (·.chain.length)).sum else 0)) ∧
  (∀ s : State, s.store.segs.length = 16 → s.seq.params.reclaim = .on → s.hasRoom = true →
    ∃ ns : List Nat, reclaimForArm 16 s = ns.foldl (fun u n => freeSegment n u) s ∧
      (∃ e ∈ (reclaimForArm 16 s).store.segs, e.state = .empty) ∧ 2 ≤ (reclaimForArm 16 s).store.freeList.length ∧
      ∀ pre n post u, ns = pre ++ n :: post → u = pre.foldl (fun u n => freeSegment n u) s →
        ((∀ e ∈ u.store.segs, e.state ≠ .empty) ∨ u.store.freeList.length < 2) ∧ (u.seg n).eligible = true ∧
        ∀ m, (u.seg m).eligible = true →
          (u.seg n).order < (u.seg m).order ∨ ((u.seg n).order = (u.seg m).order ∧ n ≤ m))

/-- FORCE (R50, R51): in PRIMING and HUNTING the trigger is taken at the current tick, held to the start tick, with
the flag FORCED; the reply is OK with the current tick, and TRIGGERED is recorded by a port that wants it. With the
post-trigger length not yet over the acquisition is POSTFILL, otherwise it stops one tick on, COMPLETE (R52). In the
other states it is refused. The model's own choices or inferences in it: log 16. -/
def Obligations.ForceResult : Prop :=
  ∀ (p : Port) (tag : Tag) (s : State), s.ready p .force →
    (∀ n : Nat, (s.seq.acq = .priming ∨ ∃ k, s.seq.acq = .hunting k) → s.seq.seg = some n → n < s.store.segs.length →
      ∃ t start, exec (.force p tag) s = .next (conclude s (answer (asking p 6 tag) .ok (.tick s.fe.tick) t)) ∧
        start = ((reserveTest true s).seg n).start ∧
        (t.seg n).trigger = some { tick := max s.fe.tick start, forced := true, clamped := s.fe.tick < start } ∧
        t.seq.matchCount = 0 ∧ t.seq.run = 0 ∧ t.seq.expiry = none ∧ t.fe = s.fe ∧ t.store.mem = s.store.mem ∧
        t.ports.claim = s.ports.claim ∧ t.ports.conReplies = s.ports.conReplies ∧
        t.ports.conService = s.ports.conService ∧ t.ports.tethReplies = s.ports.tethReplies ∧
        t.ports.tethService = s.ports.tethService ∧ t.ports.link = s.ports.link ∧
        t.ports.con.levels = s.ports.con.levels ∧ t.ports.teth.levels = s.ports.teth.levels ∧
        (s.ports.con.level .triggered ≠ .off → ∃ a ∈ t.ports.con.alerts, a.kind = .triggered ∧ a.arg = n) ∧
        (s.ports.teth.level .triggered ≠ .off → ∃ a ∈ t.ports.teth.alerts, a.kind = .triggered ∧ a.arg = n) ∧
        (s.fe.tick < max s.fe.tick start + s.seq.params.pPost →
          t.seq.acq = .postfill ∧ t.seq.stopTick = s.seq.stopTick ∧ t.comp = s.comp) ∧
        (max s.fe.tick start + s.seq.params.pPost ≤ s.fe.tick →
          t.seq.acq = .draining ∧ t.seq.stopTick = some (s.fe.tick + 1) ∧ t.seq.reason = some .complete)) ∧
    (s.seq.acq = .idle ∨ s.seq.acq = .postfill ∨ s.seq.acq = .draining →
      exec (.force p tag) s = .next (conclude s (refuse (asking p 6 tag) .wrongState s)))

/-- HALT (R53): in PRIMING, HUNTING and POSTFILL the segment stops one tick after the current one with reason HALTED,
the sequence-end flag is set and the reply carries the stop tick; outside a loss interval the END stands in the
staging queue. In IDLE and DRAINING it is refused. The model's own choices or inferences in it: log 16. -/
def Obligations.HaltResult : Prop :=
  ∀ (p : Port) (tag : Tag) (s : State), s.ready p .halt →
    (s.seq.acq.sampling = true →
      ∃ t, exec (.halt p tag) s =
          .next (conclude s (answer (asking p 7 tag) .ok (.tick (s.fe.tick + 1)) t)) ∧
        t.seq = { s.seq with seqEnd := true, acq := .draining, stopTick := some (s.fe.tick + 1), reason := some .halted } ∧
        t.fe = s.fe ∧ t.writer = s.writer ∧ t.store.mem = s.store.mem ∧
        (∀ n, (t.seg n).trigger = (s.seg n).trigger) ∧
        (s.comp.lossOpen = false → t.comp.staging =
          s.comp.staging ++ placeRecord (s.fe.tick + 1 - s.comp.stagingTime) (fun d => .mark d .stop 2))) ∧
    (s.seq.acq = .idle ∨ s.seq.acq = .draining →
      exec (.halt p tag) s = .next (conclude s (refuse (asking p 7 tag) .wrongState s)))

/-- SET_STORE_LOW (R80, R81): the threshold, clamped to 512, replaces the old one and the test is made at once: armed
and the count below it, STORE_LOW is raised to both ports and the watch disarmed; disarmed and the count at or above
it, the watch is armed again; otherwise nothing. -/
def Obligations.SetStoreLowResult : Prop :=
  ∀ (p : Port) (tag : Tag) (n : Nat) (s : State), s.ready p (.setStoreLow n) →
    ∀ (free low : Nat), free = s.store.freeList.length → low = min 512 n →
    (s.store.armed = true → free < low → exec (.setStoreLow p tag n) s =
      .next (answer (asking p 8 tag) .ok (.storeLow low free false)
        (raiseBoth .storeLow free { s with store := { s.store with low := low, armed := false } }))) ∧
    (s.store.armed = true → low ≤ free → exec (.setStoreLow p tag n) s =
      .next (answer (asking p 8 tag) .ok (.storeLow low free true) { s with store := { s.store with low := low } })) ∧
    (s.store.armed = false → low ≤ free → exec (.setStoreLow p tag n) s =
      .next (answer (asking p 8 tag) .ok (.storeLow low free true)
        { s with store := { s.store with low := low, armed := true } })) ∧
    (s.store.armed = false → free < low → exec (.setStoreLow p tag n) s =
      .next (answer (asking p 8 tag) .ok (.storeLow low free false) { s with store := { s.store with low := low } }))

/-- DROP, KEEP and UNKEEP (R77, R78): the checks in their order; a SEALED segment without pins is freed, one with pins
becomes RELEASING, a RELEASING one stays; the kept flag of a FILLING or SEALED segment takes the value asked for. -/
def Obligations.DropKeepResult : Prop :=
  (∀ (p : Port) (tag : Tag) (n : Nat) (s : State), s.ready p (.drop n) →
    (15 < n ∨ (s.seg n).state = .empty → exec (.drop p tag n) s = .next (refuse (asking p 9 tag) .noSuch s)) ∧
    (n ≤ 15 → (s.seg n).state ≠ .empty → (s.seg n).owner = some (other p) →
      exec (.drop p tag n) s = .next (refuse (asking p 9 tag) .foreign s)) ∧
    (n ≤ 15 → (s.seg n).state = .filling → (s.seg n).owner ≠ some (other p) →
      exec (.drop p tag n) s = .next (refuse (asking p 9 tag) .wrongState s)) ∧
    (n ≤ 15 → (s.seg n).state = .sealed → (s.seg n).owner ≠ some (other p) → (s.seg n).pins.any = false →
      exec (.drop p tag n) s = .next (answer (asking p 9 tag) .ok (.dropped .empty) (freeSegment n s))) ∧
    (n ≤ 15 → (s.seg n).state = .sealed → (s.seg n).owner ≠ some (other p) → (s.seg n).pins.any = true →
      exec (.drop p tag n) s = .next (answer (asking p 9 tag) .ok (.dropped .releasing)
        { s with store := { s.store with segs := s.store.segs.set n { s.seg n with state := .releasing } } })) ∧
    (n ≤ 15 → (s.seg n).state = .releasing → (s.seg n).owner ≠ some (other p) →
      exec (.drop p tag n) s = .next (answer (asking p 9 tag) .ok (.dropped .releasing) s))) ∧
  (∀ (p : Port) (tag : Tag) (n : Nat) (s : State), s.ready p (.keep n) →
    ∀ (c : Instr) (k : Nat) (flag : Bool), (c, k, flag) ∈ [(Instr.keep p tag n, 10, true), (Instr.unkeep p tag n, 11, false)] →
    (n ≤ 15 → ((s.seg n).state = .filling ∨ (s.seg n).state = .sealed) → (s.seg n).owner ≠ some (other p) →
      exec c s = .next (answer (asking p k tag) .ok (.kept flag)
        { s with store := { s.store with segs := s.store.segs.set n { s.seg n with kept := flag } } })) ∧
    (15 < n ∨ (s.seg n).state = .empty → exec c s = .next (refuse (asking p k tag) .noSuch s)) ∧
    (n ≤ 15 → (s.seg n).state ≠ .empty → (s.seg n).owner = some (other p) →
      exec c s = .next (refuse (asking p k tag) .foreign s)) ∧
    (n ≤ 15 → (s.seg n).state = .releasing → (s.seg n).owner ≠ some (other p) →
      exec c s = .next (refuse (asking p k tag) .wrongState s)))

/-- R64, R136: a freed segment's entry takes the EMPTY values, its blocks join the free-list tail in chain order, its
annotations leave all four lists, SEGMENT_GONE is recorded by a port that wants it; no other entry, annotation or byte
of the SDRAM changes. R74, R76: a pin drops; only a RELEASING segment that has no pin left is freed. R101: a
requester's withdrawal takes its remainders, and the halfwords of its burst in flight will be discarded; nothing else
changes. -/
def Obligations.FreedSegment : Prop :=
  (∀ (n : Nat) (s : State), n < s.store.segs.length → s.notes.length = 4 →
    (freeSegment n s).seg n = Segment.empty ∧ (∀ m, m ≠ n → (freeSegment n s).seg m = s.seg m) ∧
    (freeSegment n s).store.freeList = s.store.freeList ++ (s.seg n).chain ∧
    (∀ k, k < 4 → (freeSegment n s).notesOf k = (s.notesOf k).filter fun e => e.seg ≠ n) ∧
    (freeSegment n s).store.mem = s.store.mem ∧ (freeSegment n s).seq = s.seq ∧
    (s.ports.con.level .segmentGone ≠ .off →
      ∃ a ∈ (freeSegment n s).ports.con.alerts, a.kind = .segmentGone ∧ a.arg = n) ∧
    (s.ports.teth.level .segmentGone ≠ .off →
      ∃ a ∈ (freeSegment n s).ports.teth.alerts, a.kind = .segmentGone ∧ a.arg = n)) ∧
  (∀ q : Pins, q.any = true ↔
    q.view = true ∨ q.decode ≠ 0 ∨ q.measure = true ∨ q.readConsole = true ∨ q.readTether = true) ∧
  (∀ (n : Nat) (f : Pins → Pins) (s u : State),
    u = { s with store := { s.store with segs := s.store.segs.set n { s.seg n with pins := f (s.seg n).pins } } } →
    ((s.seg n).state = .releasing → (f (s.seg n).pins).any = false → dropPin n f s = freeSegment n u) ∧
    ((s.seg n).state ≠ .releasing ∨ (f (s.seg n).pins).any = true → dropPin n f s = u)) ∧
  (∀ (q : Requester) (slot : Nat) (s t : State), t = withdraw q slot s →
    t = { s with mc := { s.mc with remainders := t.mc.remainders, flight := t.mc.flight } } ∧
    (∀ r, r ∈ t.mc.remainders ↔ r ∈ s.mc.remainders ∧ (r.req ≠ q ∨ r.slot ≠ slot)) ∧
    (∀ b, s.mc.flight = some (.read b) → b.req = q → b.slot = slot →
      t.mc.flight = some (.read { b with discard := true })) ∧
    ((∀ b, s.mc.flight = some (.read b) → b.req ≠ q ∨ b.slot ≠ slot) → t.mc.flight = s.mc.flight))

/-- READ_RECORDS (R82, R83, R216): the port's stream starts at the last block whose base tick is at or below the
effective from tick, the READ pin is set, and the reply carries the effective ticks and the record count, which counts
the records from that block's place 0 whose times are at or below the effective to tick; the 68 bytes of the header;
the tether port's stream then runs as far as its endpoint has room. The refusals in their order. The model's own
choices or inferences in it: log 16. -/
def Obligations.ReadRecordsResult : Prop :=
  ∀ (p : Port) (tag : Tag) (n lo hi : Nat) (s : State), s.ready p (.readRecords n lo hi) → s.store.available = true →
    (n ≤ 15 → (s.seg n).state = .sealed → (s.ports.port p).stream = none →
      max lo (s.seg n).start ≤ min hi (s.seg n).stop →
      ∃ (x : Stream) (u : State),
        u = setStream p (some x) (answer (asking p 12 tag) .accepted
            (.recordsStream (max lo (s.seg n).start) (min hi (s.seg n).stop) x.left)
            (s.setSeg n { s.seg n with pins := setRead p (s.seg n).pins })) ∧
        exec (.readRecords p tag n lo hi) s = .next (conclude s (if p = .tether then pumpTether u else u)) ∧
        x.source = .records n ∧ x.headerSent = false ∧ x.place = 0 ∧ x.ended = false ∧
        x.pos = s.firstPos n (max lo (s.seg n).start) ∧
        (∀ (recs : List Record) (time : Nat → Nat),
          recs = ((s.seg n).chain.drop (x.pos - (s.seg n).trimmed)).flatMap (fun b =>
            (List.range (s.store.block b).used).map fun i => Record.ofWord (readWord s.store.mem b i)) →
          (∀ i, time i = (s.store.block ((s.seg n).blockAt x.pos)).base +
            ((recs.take (i + 1)).map Record.delta).sum) →
          x.left ≤ recs.length ∧ (∀ i, i < x.left → time i ≤ min hi (s.seg n).stop) ∧
          (x.left < recs.length → min hi (s.seg n).stop < time x.left)) ∧
        x.header.length = 68 ∧
        (∀ (e : Segment) (tick flags : Nat) (reason : SealReason), e = s.seg n → e.reason = some reason →
          (e.trigger = none → tick = 0 ∧ flags = 0) →
          (∀ g, e.trigger = some g → tick = g.tick ∧
            flags = 1 + (if g.forced then 2 else 0) + (if g.clamped then 4 else 0)) →
          ∀ o w v, (o, w, v) ∈ [(0, 1, 1), (1, 1, n), (2, 6, max lo e.start), (8, 6, min hi e.stop), (14, 4, x.pos),
            (18, 6, (s.store.block (e.blockAt x.pos)).base), (24, 4, x.left), (28, 6, e.start), (34, 6, e.stop),
            (40, 6, tick), (46, 1, flags), (47, 1, reason.code), (48, 4, e.order), (52, 1, e.index),
            (53, 3, e.latched.divider), (56, 2, e.latched.mask.toNat), (58, 2, e.latched.code0),
            (60, 2, e.latched.code1), (62, 1, e.latched.blank0.toNat + 2 * e.latched.blank1.toNat), (63, 1, 0),
            (64, 2, e.losses), (66, 2, 0)] →
          ∀ j, j < w → x.header[o + j]? = some (BitVec.ofNat 8 (v / 256 ^ j)))) ∧
    (15 < n ∨ (s.seg n).state = .empty →
      exec (.readRecords p tag n lo hi) s = .next (conclude s (refuse (asking p 12 tag) .noSuch s))) ∧
    (n ≤ 15 → ((s.seg n).state = .filling ∨ (s.seg n).state = .releasing) →
      exec (.readRecords p tag n lo hi) s = .next (conclude s (refuse (asking p 12 tag) .wrongState s))) ∧
    (n ≤ 15 → (s.seg n).state = .sealed → (s.ports.port p).stream.isSome = true →
      exec (.readRecords p tag n lo hi) s = .next (conclude s (refuse (asking p 12 tag) .wrongState s))) ∧
    (n ≤ 15 → (s.seg n).state = .sealed → (s.ports.port p).stream = none →
      min hi (s.seg n).stop < max lo (s.seg n).start →
      exec (.readRecords p tag n lo hi) s = .next (conclude s (refuse (asking p 12 tag) .outOfRange s)))

/-! ## Requests: decoder slots, annotations, measurements -/

/-- DEC_START (R106, R107): when every check passes the slot record is filled for the starting port. LIVE in IDLE it
is WAITING; LIVE in DRAINING it is RUNNING and owes nothing yet; LIVE while samples are taken it is RUNNING and awaits
its joining BASE (R34), and where it makes the tap active the tap's time is the current tick (the model's choice, log
73); OFFLINE it is RUNNING from the stream's first block, its tick reached that block's base tick (log 58), and the
segment's DECODE count rises by 1. A check that fails gives its reply and changes nothing. The stream's first block
(R83): the last of the chain whose base tick is at or below the tick asked for, or the first one retained. The model's
own choices or inferences in it: log 16, log 58, log 73. -/
def Obligations.DecStartResult : Prop :=
  (∀ (p : Port) (tag : Tag) (k : Nat) (pr : Protocol) (src : Source) (quota level : Nat) (s : State),
    s.ready p (.decStart k pr src quota level) →
    (∀ st, startCheck k pr src quota level s = some st →
      exec (.decStart p tag k pr src quota level) s = .next (conclude s (refuse (asking p 13 tag) st s))) ∧
    (startCheck k pr src quota level s = none →
      ∀ x : Slot, x = { Slot.empty with state := .running, starter := some p, proto := some pr, source := some src,
                                        quota := quota, level := level,
                                        period := Protocol.periodFor (some pr) (s.sourceDivider src) } →
      (src = .live → s.seq.acq = .idle → exec (.decStart p tag k pr src quota level) s =
        .next (conclude s (answer (asking p 13 tag) .accepted (.slotStarted .waiting x.period none)
          (s.setSlot k { x with state := .waiting })))) ∧
      (src = .live → s.seq.acq = .draining → exec (.decStart p tag k pr src quota level) s =
        .next (conclude s (answer (asking p 13 tag) .accepted (.slotStarted .running x.period none)
          (s.setSlot k { x with joinNext := true })))) ∧
      (src = .live → s.seq.acq.sampling = true → exec (.decStart p tag k pr src quota level) s =
        .next (conclude s (answer (asking p 13 tag) .accepted (.slotStarted .running x.period none)
          { s.setSlot k x with
            tap := { s.tap with joining := if s.tap.gapOpen then s.tap.joining else s.tap.joining ++ [k] }
            comp := { s.comp with tapTime := if s.liveSlots = [] then s.fe.tick else s.comp.tapTime } }))) ∧
      (∀ n lo hi, src = .offline n lo hi →
        ∃ a b pos, a = max lo (s.seg n).start ∧ b = min hi (s.seg n).stop ∧ pos = s.firstPos n a ∧
          exec (.decStart p tag k pr src quota level) s =
            .next (conclude s (answer (asking p 13 tag) .accepted (.slotStarted .running x.period (some (a, b)))
              { s with
                slots := s.slots.set k { x with
                  source := some (.offline n a b)
                  reading := some { pos := pos, place := 0,
                                    reached := (s.store.block ((s.seg n).blockAt pos)).base } }
                store := { s.store with segs := s.store.segs.set n { s.seg n with
                  pins := { (s.seg n).pins with decode := (s.seg n).pins.decode + 1 } } } }))))) ∧
  (∀ (s : State) (n t : Nat) (chain : List Nat), (s.seg n).chain = chain → chain ≠ [] →
    ∃ i, i < chain.length ∧ s.firstPos n t = (s.seg n).trimmed + i ∧
      (s.seg n).blockAt (s.firstPos n t) = chain.getD i 0 ∧
      (∀ b ∈ chain.drop (i + 1), t < (s.store.block b).base) ∧
      ((s.store.block (chain.getD i 0)).base ≤ t ∨ (i = 0 ∧ ∀ b ∈ chain, t < (s.store.block b).base)))

/-- The checks of DEC_START in the order of R106, each with its ranges: the slot's number and state, the protocol's
channels and parameters (R119, R122, R125, R127), quota and level, the quotas of all slots together, the source, and
last the bit period of a UART slot, from the latched divider of the source's segment or from the one in force (R108).
The model's own choices or inferences in it: log 57. -/
def Obligations.DecStartChecks : Prop :=
  (∀ (k : Nat) (pr : Protocol) (quota level : Nat) (s : State),
    (∀ src, 3 < k → startCheck k pr src quota level s = some .noSuch) ∧
    (∀ src, k ≤ 3 → (s.slot k).state ≠ .free → startCheck k pr src quota level s = some .wrongState) ∧
    (∀ src, k ≤ 3 → (s.slot k).state = .free →
      protocolInRange pr = false ∨ quota = 0 ∨ 8192 < quota ∨ 32 < level →
      startCheck k pr src quota level s = some .outOfRange) ∧
    (k ≤ 3 → (s.slot k).state = .free → protocolInRange pr = true → 1 ≤ quota → quota ≤ 8192 → level ≤ 32 →
      (∀ src, 8192 < s.quotas + quota → startCheck k pr src quota level s = some .noRoom) ∧
      (s.quotas + quota ≤ 8192 →
        (∀ n lo hi src, src = Source.offline n lo hi →
          (s.store.available = false → startCheck k pr src quota level s = some .wrongState) ∧
          (s.store.available = true → 15 < n ∨ (s.seg n).state = .empty →
            startCheck k pr src quota level s = some .noSuch) ∧
          (s.store.available = true → n ≤ 15 → (s.seg n).state = .filling ∨ (s.seg n).state = .releasing →
            startCheck k pr src quota level s = some .wrongState) ∧
          (s.store.available = true → n ≤ 15 → (s.seg n).state = .sealed →
            min hi (s.seg n).stop < max lo (s.seg n).start → startCheck k pr src quota level s = some .outOfRange)) ∧
        (∀ src, src = .live ∨ (s.store.available = true ∧ ∃ n lo hi, src = .offline n lo hi ∧ n ≤ 15 ∧
            (s.seg n).state = .sealed ∧ max lo (s.seg n).start ≤ min hi (s.seg n).stop) →
          (∀ c, pr = .uart c → uartPeriod (s.sourceDivider src) c.baud < 1024 →
            startCheck k pr src quota level s = some .outOfRange) ∧
          ((∀ c, pr = .uart c → 1024 ≤ uartPeriod (s.sourceDivider src) c.baud) →
            startCheck k pr src quota level s = none)))) ∧
    (∀ n lo hi, s.sourceDivider (.offline n lo hi) = (s.seg n).latched.divider) ∧
    (∀ n, s.seq.seg = some n → s.sourceDivider .live = (s.seg n).latched.divider) ∧
    (s.seq.seg = none → s.sourceDivider .live = s.fe.divider)) ∧
  (∀ c : UartCfg, protocolInRange (.uart c) = true ↔ c.rx ≤ 15 ∧ 5 ≤ c.dataBits ∧ c.dataBits ≤ 9 ∧
    (c.stopBits = 1 ∨ c.stopBits = 2) ∧ 50 ≤ c.baud ∧ c.baud ≤ 25000000) ∧
  (∀ (c : SpiCfg) (chans : List Nat), chans = [c.clock, c.mosi] ++ c.select.toList ++ c.miso.toList →
    (protocolInRange (.spi c) = true ↔ (∀ ch ∈ chans, ch ≤ 15) ∧ chans.Nodup ∧ 4 ≤ c.wordLength ∧ c.wordLength ≤ 16 ∧
      c.gapTimeout < 2 ^ 32)) ∧
  (∀ c : I2cCfg, protocolInRange (.i2c c) = true ↔ c.scl ≤ 15 ∧ c.sda ≤ 15 ∧ c.scl ≠ c.sda) ∧
  (∀ c : StrobeCfg, protocolInRange (.strobed c) = true ↔ 1 ≤ c.data.length ∧ c.data.length ≤ 8 ∧ c.strobe ≤ 15 ∧
    (∀ ch ∈ c.data, ch ≤ 15) ∧ c.strobe ∉ c.data ∧ c.data.Nodup) ∧
  (∀ code : Nat, protocolInRange (.unknown code) = false)

/-- DEC_STOP (R111): a WAITING slot becomes STOPPED, cause REQUEST; a RUNNING live one leaves every owed set as well,
and its segment tag becomes none (the model's choice, log 51); a RUNNING OFFLINE one withdraws its burst and drops its
DECODE pin. DEC_CLEAR (R112, R137): the slot takes the values of a FREE one, its annotations go, and the reply carries
how many. The refusals in their order. The model's own choices or inferences in it: log 51. -/
def Obligations.DecStopClearResult : Prop :=
  (∀ (p : Port) (tag : Tag) (k : Nat) (s : State), s.ready p (.decStop k) →
    (3 < k ∨ (s.slot k).state = .free → exec (.decStop p tag k) s = .next (refuse (asking p 14 tag) .noSuch s)) ∧
    (k ≤ 3 → (s.slot k).state ≠ .free → (s.slot k).starter ≠ some p →
      exec (.decStop p tag k) s = .next (refuse (asking p 14 tag) .foreign s)) ∧
    (k ≤ 3 → (s.slot k).state ≠ .free → (s.slot k).starter = some p →
      ((s.slot k).state = .waiting → exec (.decStop p tag k) s = .next (answer (asking p 14 tag) .ok .none
        (s.setSlot k { s.slot k with state := .stopped, cause := some .request }))) ∧
      ((s.slot k).live = true → exec (.decStop p tag k) s = .next (answer (asking p 14 tag) .ok .none
        (leaveTap k (s.setSlot k { s.slot k with state := .stopped, cause := some .request, tag := none,
                                                 joinNext := false })))) ∧
      ((s.slot k).offline = true → k < s.slots.length →
        exec (.decStop p tag k) s = .next (answer (asking p 14 tag) .ok .none
          (dropPin (s.slot k).segment (fun q => { q with decode := q.decode - 1 })
            (withdraw .decoder k (s.setSlot k { s.slot k with state := .stopped, cause := some .request }))))) ∧
      ((s.slot k).state = .done ∨ (s.slot k).state = .truncated ∨ (s.slot k).state = .stopped →
        exec (.decStop p tag k) s = .next (refuse (asking p 14 tag) .wrongState s)))) ∧
  (∀ (p : Port) (tag : Tag) (k : Nat) (s : State), s.ready p (.decClear k) → s.slots.length = 4 → s.notes.length = 4 →
    (k ≤ 3 → (s.slot k).state ≠ .free → (s.slot k).starter = some p →
      ∃ t, exec (.decClear p tag k) s = .next (answer (asking p 15 tag) .ok (.removed (s.notesOf k).length) t) ∧
        t.slot k = Slot.empty ∧ t.notesOf k = [] ∧ t.store.mem = s.store.mem ∧ t.seq = s.seq ∧ t.fe = s.fe ∧
        ((s.slot k).offline = false → (∀ j, j ≠ k → t.notesOf j = s.notesOf j) ∧ t.store = s.store)) ∧
    (3 < k ∨ (s.slot k).state = .free → exec (.decClear p tag k) s = .next (refuse (asking p 15 tag) .noSuch s)) ∧
    (k ≤ 3 → (s.slot k).state ≠ .free → (s.slot k).starter ≠ some p →
      exec (.decClear p tag k) s = .next (refuse (asking p 15 tag) .foreign s)))

/-- QUEUE_TAKE (R130): up to n entries leave the head and are carried oldest first, with the level, the full flag and
the drop count as they stood; the drop count becomes 0 and the full notice clears below 32. QUEUE_PEEK (R131): the
head without removing it, the level and the drop count, to either port. The refusals in their order. What joins the
queue (R129): below 32 entries at the tail, raising CHARQ_LEVEL to the starting port when the count comes to a level
other than 0; at 32 it is dropped and counted up to 255, and the first such drop raises CHARQ_FULL. -/
def Obligations.CharQueueResult : Prop :=
  (∀ (p : Port) (tag : Tag) (k n : Nat) (s : State), s.ready p (.queueTake k n) →
    (k ≤ 3 → (s.slot k).state ≠ .free → (s.slot k).starter = some p → n ≤ 32 →
      exec (.queueTake p tag k n) s = .next (answer (asking p 16 tag) .ok
        (.taken ((s.slot k).queue.take n) (s.slot k).queue.length ((s.slot k).queue.length = 32) (s.slot k).drops)
        { s with slots := s.slots.set k { s.slot k with
            queue := (s.slot k).queue.drop n
            drops := 0
            fullNotice := if (s.slot k).queue.length - n < 32 then false else (s.slot k).fullNotice } })) ∧
    (3 < k ∨ (s.slot k).state = .free → exec (.queueTake p tag k n) s = .next (refuse (asking p 16 tag) .noSuch s)) ∧
    (k ≤ 3 → (s.slot k).state ≠ .free → (s.slot k).starter ≠ some p →
      exec (.queueTake p tag k n) s = .next (refuse (asking p 16 tag) .foreign s)) ∧
    (k ≤ 3 → (s.slot k).state ≠ .free → (s.slot k).starter = some p → 32 < n →
      exec (.queueTake p tag k n) s = .next (refuse (asking p 16 tag) .outOfRange s))) ∧
  (∀ (p : Port) (tag : Tag) (k : Nat) (s : State), s.ready p (.queuePeek k) →
    (3 < k ∨ (s.slot k).state = .free → exec (.queuePeek p tag k) s = .next (refuse (asking p 17 tag) .noSuch s)) ∧
    (k ≤ 3 → (s.slot k).state ≠ .free → exec (.queuePeek p tag k) s = .next (answer (asking p 17 tag) .ok
      (.peeked (s.slot k).queue.head? (s.slot k).queue.length (s.slot k).drops) s))) ∧
  (∀ (k : Nat) (e : CharEntry) (s u : State) (p : Port) (x : Slot), s.slot k = x → x.starter = some p →
    k < s.slots.length →
    (x.queue.length < 32 → u = { s with slots := s.slots.set k { x with queue := x.queue ++ [e] } } →
      (x.level ≠ 0 → x.level = x.queue.length + 1 → queueEntry k e s = raiseTo p .charqLevel k u) ∧
      (x.level = 0 ∨ x.level ≠ x.queue.length + 1 → queueEntry k e s = u)) ∧
    (32 ≤ x.queue.length →
      u = { s with slots := s.slots.set k { x with drops := min 255 (x.drops + 1), fullNotice := true } } →
      (x.drops ≤ 255 → x.fullNotice = false → queueEntry k e s = raiseTo p .charqFull k u) ∧
      (x.drops ≤ 255 → x.fullNotice = true → queueEntry k e s = u)))

/-- READ_NOTES (R139): the port's stream starts at the head of the slot's list and the reply carries how many entries
are selected, up to the maximum count. The refusals in their order. -/
def Obligations.ReadNotesResult : Prop :=
  ∀ (p : Port) (tag : Tag) (k n lo hi m : Nat) (s : State), s.ready p (.readNotes k n lo hi m) →
    (3 < k ∨ (s.slot k).state = .free ∨ 15 < n ∨ (s.seg n).state = .empty →
      exec (.readNotes p tag k n lo hi m) s = .next (refuse (asking p 18 tag) .noSuch s)) ∧
    (k ≤ 3 → (s.slot k).state ≠ .free → n ≤ 15 → (s.seg n).state ≠ .empty →
      (m = 0 ∨ 4096 < m ∨ hi < lo →
        exec (.readNotes p tag k n lo hi m) s = .next (refuse (asking p 18 tag) .outOfRange s)) ∧
      (1 ≤ m → m ≤ 4096 → lo ≤ hi → (s.ports.port p).stream.isSome = true →
        exec (.readNotes p tag k n lo hi m) s = .next (refuse (asking p 18 tag) .wrongState s)) ∧
      (1 ≤ m → m ≤ 4096 → lo ≤ hi → (s.ports.port p).stream = none →
        ∃ (x : Stream) (u : State) (count : Nat),
          count = min m ((s.notesOf k).countP fun e => e.seg = n && lo ≤ e.start && e.start ≤ hi) ∧
          u = setStream p (some x) (answer (asking p 18 tag) .accepted (.notesStream count) s) ∧
          exec (.readNotes p tag k n lo hi m) s = .next (if p = .tether then pumpTether u else u) ∧
          x.source = .notes k n lo hi ∧ x.cursor = 0 ∧ x.left = m ∧ x.header.length = 20 ∧ x.headerSent = false ∧
          (x.ended = true ↔ s.notesOf k = [])))

/-- MEASURE (R142, R145): taken, the engine is BUSY on the ordered ticks with accounting begun at A, any older result
is gone and the MEASURE pin is set; with A equal to B it completes at once with every count 0. MEASURE_RESULT (R147):
the held result and its port in READY, WRONG_STATE with the measurement in flight in BUSY, NO_SUCH in EMPTY; the
engine is not changed. The refusals in their order. What the engine does with a record at its time (R143, R144): the
ticks up to it, held to B, are accounted high or unknown in the state in force, an edge strictly between A and B is
counted, the state becomes what the record says; a record at or past B, or an END, stops it. A TRIMMED answer counts
the ticks up to the first retained block unknown, and a measurement with none left completes. The records of a burst,
and the result (R145). The model's own choices or inferences in it: log 16. -/
def Obligations.MeasureRequestsResult : Prop :=
  (∀ (p : Port) (tag : Tag) (n a b : Nat) (mask : Half) (s : State), s.ready p (.measure n a b mask) →
    (s.store.available = false ∨ s.meas.st = .busy → exec (.measure p tag n a b mask) s =
      .next (conclude s (refuse (asking p 19 tag) .wrongState s))) ∧
    (s.store.available = true → s.meas.st ≠ .busy →
      (15 < n ∨ (s.seg n).state = .empty → exec (.measure p tag n a b mask) s =
        .next (conclude s (refuse (asking p 19 tag) .noSuch s))) ∧
      (n ≤ 15 → (s.seg n).state = .releasing → exec (.measure p tag n a b mask) s =
        .next (conclude s (refuse (asking p 19 tag) .wrongState s))) ∧
      (n ≤ 15 → (s.seg n).state = .filling ∨ (s.seg n).state = .sealed →
        (a ≠ b → exec (.measure p tag n a b mask) s = .next (conclude s
          { answer (asking p 19 tag) .accepted (.measuring (min a b) (max a b))
              (s.setSeg n { s.seg n with pins := { (s.seg n).pins with measure := true } }) with
            meas := { Measure.reset with st := .busy, port := p, seg := n, a := min a b, b := max a b, mask := mask,
                                         acct := min a b } })) ∧
        (a = b → ∃ t r, exec (.measure p tag n a b mask) s = .next (conclude s t) ∧ t.meas.st = .ready ∧
          t.meas.result = some r ∧ r.port = p ∧ r.seg = n ∧ r.ticks = 0 ∧ r.picos = 0 ∧ r.incomplete = false ∧
          (∀ c ∈ r.chans, c.edges = 0 ∧ c.high = 0 ∧ c.unknown = 0) ∧ t.store.mem = s.store.mem)))) ∧
  (∀ (p : Port) (tag : Tag) (s : State), s.ready p .measureResult →
    (∀ r, s.meas.st = .ready → s.meas.result = some r →
      exec (.measureResult p tag) s = .next (answer (asking p 20 tag) .ok (.measured r) s)) ∧
    (s.meas.st = .busy → exec (.measureResult p tag) s =
      .next (answer (asking p 20 tag) .wrongState (.measureBusy s.meas.seg s.meas.a s.meas.b) s)) ∧
    (s.meas.st = .empty → exec (.measureResult p tag) s = .next (refuse (asking p 20 tag) .noSuch s))) ∧
  (∀ (bits : Half) (n k : Nat) (l : List Nat), (bumpFrom bits n 0 l).length = l.length ∧
    (bumpFrom bits n 0 l)[k]? = l[k]?.map fun c => if bits.getLsbD k then c + n else c) ∧
  (∀ (m : Measure) (t e : Nat), e = min t m.b →
    (e ≤ m.acct → m.account t = m) ∧
    (∀ st, m.acct < e → m.cur = some st →
      m.account t = { m with high := bumpFrom st (e - m.acct) 0 m.high, acct := e }) ∧
    (m.acct < e → m.cur = none → m.account t = { m with unknown := m.unknown + (e - m.acct), acct := e })) ∧
  (∀ (r : Record) (rs : List Record) (m a : Measure) (t : Nat), t = m.time + r.delta →
    a = { m.account t with time := t, place := m.place + 1 } →
    (m.b ≤ t → Measure.read (r :: rs) m = (a, true)) ∧
    (t < m.b →
      (∀ st, r = .base false st → Measure.read (r :: rs) m = Measure.read rs { a with cur := some st }) ∧
      (∀ st d v, r = .base true st ∨ r = .mark d .lossBegin v ∨ r = .mark d .lossEnd v →
        Measure.read (r :: rs) m = Measure.read rs { a with cur := none }) ∧
      (∀ d st was, r = .trans d st → m.cur = some was → m.a < t → Measure.read (r :: rs) m =
        Measure.read rs { a with edges := bumpFrom (was ^^^ st) 1 0 m.edges, cur := some st }) ∧
      (∀ d st, r = .trans d st → m.cur = none ∨ t ≤ m.a →
        Measure.read (r :: rs) m = Measure.read rs { a with cur := some st }) ∧
      (∀ d v, r = .extend d ∨ r = .mark d .podLost v → Measure.read (r :: rs) m = Measure.read rs a) ∧
      (∀ d v, r = .mark d .stop v → Measure.read (r :: rs) m = ({ a with cur := none }, true)))) ∧
  (∀ m : Measure, Measure.read [] m = (m, false)) ∧
  (∀ (recs : List Record) (full tail : Bool) (s u : State) (m : Measure) (done : Bool),
    Measure.read recs s.meas = (m, done) → u = { s with meas := m } →
    (done = true → measureRecords recs full tail s = completeMeasure u) ∧
    (done = false → full = false → measureRecords recs full tail s = u) ∧
    (done = false → full = true → tail = true → (s.seg m.seg).state = .filling →
      measureRecords recs full tail s = completeMeasure { s with meas := { m with cur := none } }) ∧
    (done = false → full = true → tail = false → measureRecords recs full tail s =
      { s with meas := { m with pos := some (m.pos.getD 0 + 1), place := 0 } })) ∧
  (∀ (s : State) (m : Measure), m = s.meas.account s.meas.b → ∃ r : MeasResult,
    completeMeasure s = raiseTo m.port .measureDone m.seg (dropPin m.seg (fun q => { q with measure := false })
      { s with meas := { Measure.reset with st := .ready, result := some r } }) ∧
    r.port = m.port ∧ r.seg = m.seg ∧ r.a = m.a ∧ r.b = m.b ∧ r.mask = m.mask ∧ r.ticks = m.b - m.a ∧
    r.picos = (m.b - m.a) * (s.seg m.seg).latched.divider * 2500 ∧ (r.incomplete = true ↔ m.unknown ≠ 0) ∧
    ∀ c, c ∈ r.chans ↔ m.mask.getLsbD c.chan = true ∧ m.edges[c.chan]? = some c.edges ∧
      m.high[c.chan]? = some c.high ∧ c.unknown = m.unknown) ∧
  (∀ (s : State) (e : Segment) (a : Nat), s.seg s.meas.seg = e → a = min e.start s.meas.b →
    measureTrimmed s = { s with meas := { s.meas with
      cur := none, pos := some e.trimmed, place := 0, time := e.start
      unknown := s.meas.unknown + (a - s.meas.acct), acct := max s.meas.acct a } } ∧
    (s.meas.st = .busy → s.meas.b ≤ e.start → finishMeasure (measureTrimmed s) = completeMeasure (measureTrimmed s)) ∧
    (s.meas.st ≠ .busy ∨ s.meas.acct < s.meas.b → finishMeasure s = s))

/-! ## Requests: renderer and panel -/

/-- SET_VIEW, SET_LAYOUT, SET_PALETTE and SET_CURSORS (R148 to R151): the setting is replaced, T0 and S clamped, the
reply given, and a frame requested. A layout is taken when it has 1 to 20 rows, each of a known kind with its subject,
a height of 4 to 32 and a colour index up to 7; a taken one keeps every row's height and colour, in order. The model's
own choices or inferences in it: log 16. -/
def Obligations.ViewSettingsResult : Prop :=
  (∀ (p : Port) (tag : Tag) (s : State), s.ready p (.setCursors none none) →
    (∀ seg t0 scale follow, (∀ n, seg = .number n → n ≤ 15) →
      exec (.setView p tag seg t0 scale follow) s = .next (conclude s (requestFrame (answer (asking p 21 tag) .ok
        (.viewed (min t0 (2 ^ 47 - 1)) (max 16 (min (2 ^ 32) scale)))
        { s with render := { s.render with
          view := ⟨seg, min t0 (2 ^ 47 - 1), max 16 (min (2 ^ 32) scale), follow, some p⟩ } })))) ∧
    (∀ n t0 scale follow, 15 < n → exec (.setView p tag (.number n) t0 scale follow) s =
      .next (conclude s (refuse (asking p 21 tag) .outOfRange s))) ∧
    (∀ rows l, layoutOf? rows = some l → exec (.setLayout p tag rows) s =
      .next (conclude s (requestFrame (answer (asking p 22 tag) .ok .none
        { s with render := { s.render with layout := l } })))) ∧
    (∀ rows, layoutOf? rows = none → exec (.setLayout p tag rows) s =
      .next (conclude s (refuse (asking p 22 tag) .outOfRange s))) ∧
    (∀ cs : List Half, cs.length = 8 → exec (.setPalette p tag cs) s =
      .next (conclude s (requestFrame (answer (asking p 23 tag) .ok .none
        { s with render := { s.render with palette := cs } })))) ∧
    (∀ a b, exec (.setCursors p tag a b) s =
      .next (conclude s (requestFrame (answer (asking p 24 tag) .ok .none
        { s with render := { s.render with cursorA := a, cursorB := b } }))))) ∧
  (∀ rows : List RowReq,
    ((layoutOf? rows).isSome = true ↔ 1 ≤ rows.length ∧ rows.length ≤ 20 ∧ ∀ r ∈ rows,
      ((r.kind = 0 ∧ r.subject ≤ 15) ∨ (r.kind = 1 ∧ r.subject ≤ 3) ∨ r.kind = 2) ∧
      4 ≤ r.height ∧ r.height ≤ 32 ∧ r.colour ≤ 7) ∧
    ∀ l, layoutOf? rows = some l → l.map (·.height) = rows.map (·.height) ∧ l.map (·.colour) = rows.map (·.colour))

/-- R153 to R155: a frame requested in IDLE outside ENTRY begins with LATCH, which copies the layout, the palette, the
cursors and the scale as they stand and clears nothing else of the settings; requested during a frame or in ENTRY it
sets the frame-again flag and nothing else. R75, R155: the segment a number names is latched when it is FILLING or
SEALED, or RELEASING with its VIEW pin kept, and no other; FOLLOW names the FILLING one, else the SEALED one with the
greatest seal order, the lower number of equals; its VIEW pin is set, its ticks are copied, T0 is the view's or
follows the end tick. The pin of the segment viewed before drops. R156: no record is read for a frame that shows none.
The model's own choices or inferences in it: log 26, log 55. -/
def Obligations.FrameRequested : Prop :=
  (∀ s : State,
    (s.render.frame = .idle → s.power.st ≠ .entry →
      (requestFrame s).render.frame = .classifying ∧
      (requestFrame s).render.latch.layout = s.render.layout ∧ (requestFrame s).render.latch.palette = s.render.palette ∧
      (requestFrame s).render.latch.cursorA = s.render.cursorA ∧
      (requestFrame s).render.latch.cursorB = s.render.cursorB ∧
      (requestFrame s).render.latch.scale = s.render.view.scale ∧
      (requestFrame s).render.view = s.render.view ∧ (requestFrame s).render.trace = s.render.trace ∧
      (requestFrame s).store.mem = s.store.mem ∧
      (s.render.layout ≠ s.render.latch.layout ∨ s.render.palette ≠ s.render.latch.palette →
        ∀ b, b < 15 → b ∈ (requestFrame s).render.dirty)) ∧
    (s.render.frame ≠ .idle ∨ s.power.st = .entry →
      requestFrame s = { s with render := { s.render with again := true } })) ∧
  (∀ (s t : State) (v : View), s.render.frame = .idle → s.power.st ≠ .entry → v = s.render.view → t = requestFrame s →
    (∀ n, v.seg = .number n ∨ (v.seg = .follow ∧
        (((s.seg n).state = .filling ∧ ∀ j, j < n → (s.seg j).state ≠ .filling) ∨
          ((s.seg n).state = .sealed ∧ ∀ j, (s.seg j).state ≠ .filling ∧ ((s.seg j).state = .sealed →
            (s.seg j).order < (s.seg n).order ∨ ((s.seg j).order = (s.seg n).order ∧ n ≤ j))))) →
      ((s.seg n).state = .filling ∨ (s.seg n).state = .sealed ∨
          ((s.seg n).state = .releasing ∧ (s.seg n).pins.view = true) →
        t.render.latch.seg = some n ∧ t.seg n = { s.seg n with pins := { (s.seg n).pins with view := true } } ∧
        t.render.latch.start = (s.seg n).start ∧ t.render.latch.stop = (s.seg n).stop) ∧
      ((s.seg n).state = .empty ∨ ((s.seg n).state = .releasing ∧ (s.seg n).pins.view = false) →
        t.render.latch.seg = none) ∧
      (∀ j, j ≠ n → (s.seg j).pins.view = true → (∀ i, (s.seg i).pins.view = true → i = j) →
        ((s.seg j).state ≠ .releasing ∨ { (s.seg j).pins with view := false }.any = true →
          t.seg j = { s.seg j with pins := { (s.seg j).pins with view := false } }) ∧
        ((s.seg j).state = .releasing → { (s.seg j).pins with view := false }.any = false →
          t.seg j = Segment.empty))) ∧
    (v.seg = .follow → (∀ j, (s.seg j).state ≠ .filling ∧ (s.seg j).state ≠ .sealed) → t.render.latch.seg = none) ∧
    (t.render.latch.seg = none ∨ v.follow = false → t.render.latch.t0 = v.t0) ∧
    (t.render.latch.seg ≠ none → v.follow = true → t.render.latch.t0 =
      if t.render.latch.stop < 300 * v.scale / 256 then t.render.latch.start
      else max t.render.latch.start (t.render.latch.stop - 300 * v.scale / 256)) ∧
    (t.render.reader.done = true ↔ t.render.latch.seg = none ∨
      t.render.latch.stop ≤ max t.render.latch.t0 t.render.latch.start ∨
      colEnd t.render.latch.t0 v.scale 299 ≤ t.render.latch.start) ∧
    t.render.reader.pos = none ∧ t.render.reader.recs = [])

/-- SET_LIVE_DIVIDER (R152): a value from 1 to 8 replaces the divider, the live count is brought down to it, no frame
is requested; any other value is OUT_OF_RANGE; after a full reset the divider is 2. -/
def Obligations.SetLiveDividerResult : Prop :=
  State.reset.render.divider = 2 ∧
  ∀ (p : Port) (tag : Tag) (n : Nat) (s : State), s.ready p (.setLiveDivider n) →
    (1 ≤ n → n ≤ 8 → exec (.setLiveDivider p tag n) s = .next (answer (asking p 25 tag) .ok .none
      { s with render := { s.render with divider := n, liveCount := min n s.render.liveCount } })) ∧
    (n = 0 ∨ 8 < n → exec (.setLiveDivider p tag n) s = .next (refuse (asking p 25 tag) .outOfRange s))

/-- PANEL_SETUP, PANEL_ON, PANEL_OFF, PANEL_SLEEP and PANEL_WAKE (R171 to R174, R180): where each is taken, what it
sets, its reply, and the command sequence that then waits for a bus boundary; elsewhere WRONG_STATE. Leaving SHOWING
with a band on the bus takes effect at once: the TE watch stops, the TE-missing flag clears, and emission is to end
after that band. The ranges of a setup record. PANEL_OFF during a start sequence (R173): the init command in progress,
if it is in one, completes, no later one is sent, and the off sequence follows; how far it had come is open. The
model's own choices or inferences in it: log 16, log 27, log 45, log 57, log 60. -/
def Obligations.PanelRequestsResult : Prop :=
  (∀ (p : Port) (tag : Tag) (s : State), s.ready p .panelOn →
    (∀ r, s.panel.st = .off → s.panel.seqBusy = false →
      (setupInRange r = true → exec (.panelSetup p tag r) s = .next (answer (asking p 26 tag) .ok .none
        { s with panel := { s.panel with setup := some r } })) ∧
      (setupInRange r = false → exec (.panelSetup p tag r) s = .next (refuse (asking p 26 tag) .outOfRange s))) ∧
    (∀ r, s.panel.st ≠ .off ∨ s.panel.seqBusy = true →
      exec (.panelSetup p tag r) s = .next (refuse (asking p 26 tag) .wrongState s)) ∧
    (s.panel.st = .off → s.panel.setup.isSome = true → exec (.panelOn p tag) s =
      .next (conclude s (pokeBus (answer (asking p 27 tag) .accepted .none { s with panel := { s.panel with
        st := .starting, torn := 0, waiting := s.panel.waiting ++ [.start] } })))) ∧
    (s.panel.st ≠ .off ∨ s.panel.setup = none →
      exec (.panelOn p tag) s = .next (conclude s (refuse (asking p 27 tag) .wrongState s))) ∧
    (s.panel.st ≠ .off → exec (.panelOff p tag) s =
      .next (conclude s (turnOff (answer (asking p 28 tag) .ok .none s)))) ∧
    (s.panel.st = .off → exec (.panelOff p tag) s =
      .next (conclude s (refuse (asking p 28 tag) .wrongState s))) ∧
    (s.panel.st = .showing → exec (.panelSleep p tag) s =
      .next (conclude s (sleepPanel s.panel.dormantSleep (answer (asking p 29 tag) .ok .none s)))) ∧
    (s.panel.st ≠ .showing → exec (.panelSleep p tag) s =
      .next (conclude s (refuse (asking p 29 tag) .wrongState s))) ∧
    (s.panel.st = .sleeping → exec (.panelWake p tag) s =
      .next (conclude s (pokeBus (answer (asking p 30 tag) .accepted .none { s with panel := { s.panel with
        st := .waking, waiting := s.panel.waiting ++ [.wake] } })))) ∧
    (s.panel.st ≠ .sleeping → exec (.panelWake p tag) s =
      .next (conclude s (refuse (asking p 30 tag) .wrongState s)))) ∧
  (∀ (s : State) (b : Nat) (d : Bool), s.panel.st = .showing → s.panel.bus = .band b → s.panel.emission = .emitting →
    s.panel.waiting = [] →
    turnOff s = { s with panel := { s.panel with st := .off, dormantSleep := false, teTimer := false, teMissing := false,
                                                 leaving := true, waiting := [.off] } } ∧
    sleepPanel d s = { s with panel := { s.panel with st := .sleeping, dormantSleep := d, teTimer := false,
                                                      teMissing := false, leaving := true, waiting := [.sleepIn] } }) ∧
  (∀ r : PanelSetup, setupInRange r = true ↔ (r.width = 8 ∨ r.width = 16) ∧ r.wakeDelay ≤ 255 ∧
    (r.teUsed = .on ∨ r.teUsed = .off) ∧ r.tePolarity ≤ 1 ∧ r.init.length ≤ 32 ∧
    ∀ e ∈ r.init, (∃ code ps, e = .command code ps ∧ ps.length ≤ 4) ∨ (∃ ms, e = .delay ms ∧ 1 ≤ ms ∧ ms ≤ 255)) ∧
  (∀ (p : Port) (tag : Tag) (s : State) (r : PanelSetup) (cmds : List (Byte × List Byte)) (rest : List InitEntry),
    s.ready p .panelOff → s.panel.st ≠ .off → s.panel.setup = some r → s.panel.waiting = [] → s.panel.changes = [] →
    s.panel.emission = .idle → rest = [] ∨ (∃ ms l, rest = .delay ms :: l) →
    s.panel.bus = .start ((cmds.map fun c => .command c.1 c.2) ++ rest) →
    ∃ (i : Nat) (last : Bool) (sent : List Transfer), (last = true → rest = [] ∧ cmds.length ≤ i) ∧
      sent = (cmds.take (i + 1)).flatMap (fun c => .command c.1 :: c.2.map fun b => .data (b.setWidth 16)) ++
        (if last then [.command r.displayOn] else []) ∧
      exec (.panelOff p tag) s = .next (conclude s { answer (asking p 28 tag) .ok .none s with
        free := s.free + 1
        panel := { s.panel with
          st := .off, dormantSleep := false, teTimer := false, teMissing := false, bus := .off
          out := s.panel.out ++ sent ++ [.command r.displayOff, .command r.sleepIn] } }))

/-- OVERLAY_SET and OVERLAY_CLEAR (R182): a legal change joins those pending and its reply is deferred. OVERLAY_PIXELS
(R183): the pixels join the queue's tail as one run and the reply carries the level after them. The refusals in their
order. The model's own choices or inferences in it: log 16, log 40. -/
def Obligations.OverlayRequestsResult : Prop :=
  (∀ (p : Port) (tag : Tag) (id x y w h : Nat) (s : State), s.ready p (.overlaySet id x y w h) →
    (3 < id → exec (.overlaySet p tag id x y w h) s = .next (refuse (asking p 31 tag) .noSuch s)) ∧
    (id ≤ 3 → w = 0 ∨ h = 0 ∨ 320 < x + w ∨ 240 < y + h →
      exec (.overlaySet p tag id x y w h) s = .next (refuse (asking p 31 tag) .outOfRange s)) ∧
    (id ≤ 3 → 0 < w → 0 < h → x + w ≤ 320 → y + h ≤ 240 → exec (.overlaySet p tag id x y w h) s =
      .next (defer (asking p 31 tag) { s with panel := { s.panel with changes := s.panel.changes ++
        [{ id := id, rect := some { x := x, y := y, w := w, h := h }, reply := some (asking p 31 tag) }] } })) ∧
    (3 < id ∨ s.panel.overlays.getD id none = none →
      exec (.overlayClear p tag id) s = .next (refuse (asking p 32 tag) .noSuch s)) ∧
    (∀ r, id ≤ 3 → s.panel.overlays.getD id none = some r → exec (.overlayClear p tag id) s =
      .next (defer (asking p 32 tag) { s with panel := { s.panel with changes := s.panel.changes ++
        [{ id := id, rect := none, reply := some (asking p 32 tag) }] } }))) ∧
  (∀ (p : Port) (tag : Tag) (id offset : Nat) (px : List Half) (s : State), s.ready p (.overlayPixels id offset px) →
    (3 < id ∨ s.panel.overlays.getD id none = none → exec (.overlayPixels p tag id offset px) s =
      .next (conclude s (refuse (asking p 33 tag) .noSuch s))) ∧
    (∀ r level, id ≤ 3 → s.panel.overlays.getD id none = some r →
      level = (s.panel.queue.map fun q => q.pixels.length).sum →
      (px = [] ∨ r.w * r.h < offset + px.length → exec (.overlayPixels p tag id offset px) s =
        .next (conclude s (refuse (asking p 33 tag) .outOfRange s))) ∧
      (px ≠ [] → offset + px.length ≤ r.w * r.h → 2048 < level + px.length →
        exec (.overlayPixels p tag id offset px) s = .next (conclude s (refuse (asking p 33 tag) .noRoom s))) ∧
      (px ≠ [] → offset + px.length ≤ r.w * r.h → level + px.length ≤ 2048 →
        exec (.overlayPixels p tag id offset px) s = .next (conclude s (pokeBus
          (answer (asking p 33 tag) .ok (.queueLevel (level + px.length)) { s with panel := { s.panel with
            queue := s.panel.queue ++ [{ id := id, offset := offset, pixels := px }] } }))))))

/-! ## Requests: status, ports, power -/

/-- IDENTIFY, NOP and STATUS with selector PORT (R194). -/
def Obligations.IdentifyNopPortStatus : Prop :=
  ∀ (p : Port) (tag : Tag) (s : State),
    (s.ready p .identify → exec (.identify p tag) s =
      .next (answer (asking p 42 tag) .ok (.identity "Telpadin" "LA-216" 1) s)) ∧
    (s.ready p .nop → exec (.nop p tag) s = .next (answer (asking p 43 tag) .ok .none s)) ∧
    (s.receives p = true → p = .console → exec (.statusPort p tag) s = .next (answer (asking p 44 tag) .ok
      (.consolePort s.ports.claim s.ports.con.alerts.length (s.ports.con.stream.map fun x => (x.source, x.delivered))
        s.ports.conReplies.length s.ports.conService.isSome) s)) ∧
    (s.receives p = true → p = .tether → exec (.statusPort p tag) s = .next (answer (asking p 44 tag) .ok
      (.tetherPort s.ports.claim s.ports.teth.alerts.length (s.ports.teth.stream.map fun x => (x.source, x.delivered))
        s.ports.link s.ports.remoteWake (s.ports.tethReplies.length + s.ports.tethService)) s))

/-- The status queries are answered whenever the port receives requests, ENTRY and a request in service included, with
the values in force, and change nothing (R59, R85, R132, R169, R186, R188, R211). The remaining grace, in
milliseconds, is a free value within the running sample period, at most what the last sample left. An entry's report
is its own, but for the chain length of a FILLING entry, that of the last writer burst ended (R85). The model's own
choices or inferences in it: log 10, log 50, log 57, log 71, log 74. -/
def Obligations.StatusQueriesAnswered : Prop :=
  (∀ (p : Port) (tag : Tag) (s : State), s.receives p = true →
    exec (.statusAcquisition p tag) s = .next (answer (asking p 44 tag) .ok
      (.acquisition s.seq.acq s.seq.matchCount s.seq.entryTick s.seq.expiry s.seq.run s.fe.tick s.seq.seg s.seq.taken
        s.seq.params.sequence (s.seq.seg.bind fun n => (s.seg n).trigger) s.seq.stopTick s.seq.reason s.ports.claim
        s.comp.staging.length s.comp.lossOpen
        { effective := effectiveThreshold s.fe.pod0.code, present := s.fe.pod0.present, blanked := s.fe.pod0.blanked }
        { effective := effectiveThreshold s.fe.pod1.code, present := s.fe.pod1.present,
          blanked := s.fe.pod1.blanked }) s) ∧
    exec (.statusStore p tag) s = .next (answer (asking p 44 tag) .ok
      (.store s.store.freeList.length s.store.low s.store.armed s.store.sealCounter
        (s.store.segs.map SegReport.of)) s) ∧
    exec (.statusDecoders p tag) s = .next (answer (asking p 44 tag) .ok
      (.decoders [SlotReport.of s 0, SlotReport.of s 1, SlotReport.of s 2, SlotReport.of s 3] s.quotas) s) ∧
    exec (.statusRender p tag) s = .next (answer (asking p 44 tag) .ok
      (.render s.render.view s.render.latch.seg s.render.latch.start s.render.latch.stop s.render.latch.t0
        s.render.latch.t0 (colEnd s.render.latch.t0 s.render.latch.scale 299) s.render.layout s.render.palette
        s.render.cursorA s.render.cursorB s.render.divider s.render.liveCount s.render.frame s.render.again
        s.render.dirty s.render.completed) s) ∧
    exec (.panelStatus p tag) s = .next (answer (asking p 34 tag) .ok
      (.panel s.panel.st s.panel.dormantSleep s.panel.setup.isSome s.panel.codes.width (s.panel.codes.teUsed = .on)
        s.panel.codes.tePolarity s.panel.codes.wakeDelay s.panel.teMissing s.panel.torn s.panel.emission
        s.panel.handOff s.panel.overlays ((s.panel.queue.map fun q => q.pixels.length).sum) s.panel.queue.length) s)) ∧
  (∀ (p : Port) (tag : Tag) (s : State), s.receives p = true →
    ∃ (left : Option Nat) (f : Nat), exec (.powerStatus p tag) s = .next (answer (asking p 49 tag) .ok
        (.power s.power.st s.power.cause s.power.wake s.power.reading s.power.charger s.power.low s.power.cutoff
          s.power.lowArmed left s.mc.st) { s with free := f }) ∧
      (s.power.grace = none → left = none ∧ f = s.free) ∧
      (∀ g, s.power.grace = some g → ∃ m, left = some m ∧ m ≤ g ∧ g < m + 250)) ∧
  (∀ e : Segment, ∃ n, SegReport.of e = ⟨e.state, e.owner, n, e.trimmed, e.start, e.stop, e.trigger, e.reason, e.order,
      e.index, e.losses, e.kept, e.pins⟩ ∧
    (e.state = .filling → n = e.burstChain) ∧ (e.state ≠ .filling → n = e.chain.length))

/-- CLAIM and RELEASE (R195): the rows of the rule's table; each change of the holder raises CLAIM_CHANGE to both
ports with the new holder as argument. -/
def Obligations.ClaimReleaseResult : Prop :=
  ∀ (p : Port) (tag : Tag) (s : State), s.ready p .release →
    (∀ tk, s.ports.claim = none → exec (.claim p tag tk) s = .next (answer (asking p 35 tag) .ok .none
      (raiseBoth .claimChange (if p = .console then 1 else 2) { s with ports := { s.ports with claim := some p } }))) ∧
    (∀ tk, s.ports.claim = some p → exec (.claim p tag tk) s = .next (answer (asking p 35 tag) .ok .none s)) ∧
    (s.ports.claim = some (other p) → exec (.claim p tag false) s = .next (refuse (asking p 35 tag) .heldElsewhere s)) ∧
    (s.ports.claim = some .tether → p = .console → s.seq.acq = .idle → exec (.claim p tag true) s =
      .next (answer (asking p 35 tag) .ok .none
        (raiseBoth .claimChange 1 { s with ports := { s.ports with claim := some .console } }))) ∧
    (s.ports.claim = some .tether → p = .console → s.seq.acq ≠ .idle →
      exec (.claim p tag true) s = .next (refuse (asking p 35 tag) .wrongState s)) ∧
    (s.ports.claim = some .console → p = .tether →
      exec (.claim p tag true) s = .next (refuse (asking p 35 tag) .outOfRange s)) ∧
    (s.ports.claim = some p → s.seq.acq = .idle → exec (.release p tag) s = .next (answer (asking p 36 tag) .ok .none
      (raiseBoth .claimChange 0 { s with ports := { s.ports with claim := none } }))) ∧
    (s.ports.claim = some p → s.seq.acq ≠ .idle →
      exec (.release p tag) s = .next (refuse (asking p 36 tag) .wrongState s)) ∧
    (s.ports.claim = none → exec (.release p tag) s = .next (refuse (asking p 36 tag) .noClaim s)) ∧
    (s.ports.claim = some (other p) → exec (.release p tag) s = .next (refuse (asking p 36 tag) .heldElsewhere s))

/-- R200: a kind raised to a port whose level for it is OFF is not recorded; otherwise the set then holds it with the
new argument and a count one higher (1 when it was not there, 255 at most), and every other kind as before. The
premise is the order that `StepKeepsAlertOrder` keeps. -/
def Obligations.AlertRaised : Prop :=
  ∀ (q : PortState) (k : AlertKind) (arg : Nat), q.alertsOk →
    (q.level k = .off → q.raised k arg = q) ∧
    (q.level k ≠ .off →
      (∀ n, (q.alerts.find? fun a => a.kind = k).map (·.count) = some n →
        ({ kind := k, count := min 255 (n + 1), arg := arg } : Alert) ∈ (q.raised k arg).alerts) ∧
      ((q.alerts.find? fun a => a.kind = k) = none →
        ({ kind := k, count := 1, arg := arg } : Alert) ∈ (q.raised k arg).alerts) ∧
      (q.raised k arg).alerts.filter (fun a => a.kind ≠ k) = q.alerts.filter (fun a => a.kind ≠ k) ∧
      (q.raised k arg).levels = q.levels ∧ (q.raised k arg).stream = q.stream)

/-- READ_NEXT (R197): the header alone first; a records chunk is deferred to its bursts; an annotation chunk carries
up to 12 of the next selected entries at once, LAST exactly when they are the last the stream delivers, whatever
entries that are not selected follow (the model's reading, log 76). STREAM_CANCEL (R199): the console stream ends, its
read withdrawn and its pin dropped; on the tether port the buffer is still fetched and a zero-length packet follows.
What a burst brings a records stream (R83, R84, R197, R198): the words still owed join its bytes, the place moves on,
the READ pin drops with the last one; the console's chunk goes out once 256 bytes stand or the stream ends, LAST when
it takes the rest; the tether endpoint takes whole packets of 512, and a short or empty one at the end. The model's
own choices or inferences in it: log 16, log 39, log 76. -/
def Obligations.StreamRequestsResult : Prop :=
  (∀ (tag : Tag) (s : State), s.ready .console .readNext →
    (s.ports.con.stream = none → exec (.readNext .console tag) s =
      .next (conclude s (refuse (asking .console 38 tag) .wrongState s))) ∧
    (∀ x, s.ports.con.stream = some x → x.headerSent = false → exec (.readNext .console tag) s =
      .next (conclude s (answer (asking .console 38 tag) .ok (.header x.header)
        (setStream .console (some { x with headerSent := true, delivered := x.delivered + x.header.length }) s)))) ∧
    (∀ x n, s.ports.con.stream = some x → x.headerSent = true → x.source = .records n → x.ended = false →
      x.acc.length < 256 → exec (.readNext .console tag) s =
        .next (conclude s (defer (asking .console 38 tag)
          (setStream .console (some { x with want := some (asking .console 38 tag, 256) }) s)))) ∧
    (∀ x k n lo hi es, s.ports.con.stream = some x → x.headerSent = true → x.source = .notes k n lo hi →
      x.ended = false → x.acc = [] → 1 ≤ x.left →
      es = (((s.notesOf k).drop x.cursor).filter fun e => e.seg = n ∧ lo ≤ e.start ∧ e.start ≤ hi).take (min 12 x.left) →
      ∃ (c : Nat) (last : Bool),
        (last = true ↔ es.length = x.left ∨
          es = ((s.notesOf k).drop x.cursor).filter fun e => e.seg = n ∧ lo ≤ e.start ∧ e.start ≤ hi) ∧
        (last = false → (((s.notesOf k).drop c).filter fun e => e.seg = n ∧ lo ≤ e.start ∧ e.start ≤ hi) =
          (((s.notesOf k).drop x.cursor).filter fun e => e.seg = n ∧ lo ≤ e.start ∧ e.start ≤ hi).drop es.length) ∧
        exec (.readNext .console tag) s = .next (conclude s (pushReply .console
          { kind := 38, tag := tag, status := .ok, body := .chunk (es.flatMap Note.export), last := last }
          (setStream .console (if last then none else some
            { x with cursor := c, left := x.left - es.length, delivered := x.delivered + 20 * es.length }) s))))) ∧
  (∀ (tag : Tag) (s : State), s.ready .tether .readNext →
    exec (.readNext .tether tag) s = .next (conclude s (refuse (asking .tether 38 tag) .wrongState s))) ∧
  (∀ (p : Port) (tag : Tag) (s : State), s.ready p .streamCancel → (s.ports.port p).stream = none →
    exec (.streamCancel p tag) s = .next (refuse (asking p 39 tag) .wrongState s)) ∧
  (∀ (tag : Tag) (x : Stream) (s : State), s.ready .console .streamCancel → s.ports.con.stream = some x →
    x.want = none →
    (x.reading = none → exec (.streamCancel .console tag) s =
      .next (answer (asking .console 39 tag) .ok (.cancelled x.delivered) (setStream .console none s))) ∧
    (∀ n, x.reading = some n → exec (.streamCancel .console tag) s =
      .next (answer (asking .console 39 tag) .ok (.cancelled x.delivered)
        (setStream .console none (dropPin n (clearRead .console) (withdraw .console 0 s)))))) ∧
  (∀ (tag : Tag) (x : Stream) (s : State), s.ready .tether .streamCancel → s.ports.teth.stream = some x →
    x.reading = none → x.cancelled = false → x.buffer.length < 2 → exec (.streamCancel .tether tag) s =
      .next (answer (asking .tether 39 tag) .ok (.cancelled x.delivered) (setStream .tether (some
        { x with acc := [], ended := true, cancelled := true, headerSent := true, buffer := x.buffer ++ [[]],
                 endQueued := true }) s))) ∧
  (∀ (seg : Nat) (ws : List Word) (full tail : Bool) (s u : State) (x y : Stream) (q : Deferred) (n : Nat),
    s.ports.con.stream = some x → x.source = .records seg → x.want = some (q, n) →
    y = { x with
      acc := x.acc ++ (ws.take x.left).flatMap fun w => leBytes 4 w.toNat
      left := x.left - ws.length
      ended := decide (x.left ≤ ws.length)
      pos := if full = true ∧ tail = false then x.pos + 1 else x.pos
      place := if full = true ∧ tail = false then 0 else x.place + min x.left ws.length } →
    u = dropPin seg (fun pins => { pins with readConsole := false }) (setStream .console (some y) s) →
    (ws.length < x.left → y.acc.length < n →
      streamWords .console seg ws full tail s = setStream .console (some y) s) ∧
    (ws.length < x.left → n ≤ y.acc.length → streamWords .console seg ws full tail s =
      answerDeferred q .ok (.chunk (y.acc.take n)) false (setStream .console
        (some { y with acc := y.acc.drop n, want := none, delivered := y.delivered + n }) s)) ∧
    (x.left ≤ ws.length → y.acc.length ≤ n → streamWords .console seg ws full tail s =
      answerDeferred q .ok (.chunk y.acc) true (setStream .console none u)) ∧
    (x.left ≤ ws.length → n < y.acc.length → streamWords .console seg ws full tail s =
      answerDeferred q .ok (.chunk (y.acc.take n)) false (setStream .console
        (some { y with acc := y.acc.drop n, want := none, delivered := y.delivered + n }) u))) ∧
  (∀ (seg : Nat) (ws : List Word) (full tail : Bool) (s : State) (x y : Stream),
    s.ports.teth.stream = some x → x.source = .records seg → s.ports.link = .configured → x.headerSent = true →
    x.endQueued = false →
    y = { x with
      acc := x.acc ++ (ws.take x.left).flatMap fun w => leBytes 4 w.toNat
      left := x.left - ws.length
      ended := decide (x.left ≤ ws.length)
      pos := if full = true ∧ tail = false then x.pos + 1 else x.pos
      place := if full = true ∧ tail = false then 0 else x.place + min x.left ws.length } →
    (ws.length < x.left → y.acc.length < 512 ∨ 2 ≤ x.buffer.length →
      streamWords .tether seg ws full tail s = setStream .tether (some y) s) ∧
    (ws.length < x.left → 512 ≤ y.acc.length → x.buffer.length = 1 → streamWords .tether seg ws full tail s =
      setStream .tether (some { y with
        acc := y.acc.drop 512, buffer := x.buffer ++ [y.acc.take 512], delivered := y.delivered + 512 }) s) ∧
    (x.left ≤ ws.length → y.acc.length < 512 → x.buffer.length ≤ 1 → (s.seg seg).state ≠ .releasing →
      streamWords .tether seg ws full tail s = setStream .tether (some { y with
        acc := [], buffer := x.buffer ++ [y.acc], delivered := y.delivered + y.acc.length, endQueued := true })
        (s.setSeg seg { s.seg seg with pins := { (s.seg seg).pins with readTether := false } })))

/-- ALERT_LEVELS (R201): with 1 to 15 legal pairs each kind named takes the level of the last pair that names it,
every other kind keeps its level, kinds now OFF leave the set, the reply carries the levels; otherwise nothing
changes. ALERT_FETCH (R202): the first URGENT kind in the fixed order, else the first ROUTINE one, leaves the set, and
the reply carries it with its level and how many are left. ATTN follows the console set. The model's own choices or
inferences in it: log 83. -/
def Obligations.AlertRequestsResult : Prop :=
  (∀ (p : Port) (tag : Tag) (pairs : List (Nat × Nat)) (s : State), s.ready p (.alertLevels pairs) →
    (1 ≤ pairs.length ∧ pairs.length ≤ 15 ∧ (∀ x ∈ pairs, 1 ≤ x.1 ∧ x.1 ≤ 15 ∧ x.2 ≤ 2) →
      (s.ports.port p).levels.length = 15 →
      ∃ ls : List AlertLevel, ls.length = 15 ∧
        (∀ k, 1 ≤ k → (∀ x ∈ pairs, x.1 ≠ k) → ls[k - 1]? = (s.ports.port p).levels[k - 1]?) ∧
        (∀ pre post k c l, pairs = pre ++ (k, c) :: post → (∀ x ∈ post, x.1 ≠ k) →
          (c, l) ∈ [(0, AlertLevel.off), (1, AlertLevel.routine), (2, AlertLevel.urgent)] → ls[k - 1]? = some l) ∧
        exec (.alertLevels p tag pairs) s = .next (answer (asking p 40 tag) .ok (.levels ls)
          (State.refreshAttn { s with ports := s.ports.setPort p { s.ports.port p with
            levels := ls
            alerts := (s.ports.port p).alerts.filter fun a => ls.getD (a.kind.place - 1) .off ≠ .off } }))) ∧
    (pairs = [] ∨ 15 < pairs.length ∨ (∃ x ∈ pairs, x.1 = 0 ∨ 15 < x.1 ∨ 2 < x.2) →
      exec (.alertLevels p tag pairs) s = .next (refuse (asking p 40 tag) .outOfRange s))) ∧
  (∀ (p : Port) (tag : Tag) (s : State), s.ready p .alertFetch → (s.ports.port p).alertsOk →
    ((s.ports.port p).alerts = [] →
      exec (.alertFetch p tag) s = .next (answer (asking p 41 tag) .ok (.alert none 0) s)) ∧
    (∀ pre a post l, (s.ports.port p).alerts = pre ++ a :: post → (s.ports.port p).level a.kind = l →
      (l = .urgent ∧ (∀ b ∈ pre, (s.ports.port p).level b.kind ≠ .urgent)) ∨
        (l = .routine ∧ (∀ b ∈ pre, (s.ports.port p).level b.kind = .off) ∧
          ∀ b ∈ post, (s.ports.port p).level b.kind ≠ .urgent) →
      exec (.alertFetch p tag) s = .next (answer (asking p 41 tag) .ok (.alert (some (a, l)) (pre.length + post.length))
        (State.refreshAttn { s with ports := s.ports.setPort p { s.ports.port p with alerts := pre ++ post } })))) ∧
  (∀ s : State, State.refreshAttn s = { s with ports := { s.ports with
    attn := decide (s.power.st ≠ .startup ∧ s.ports.con.alerts ≠ []) } })

/-- DOZE (R206), WAKE_CAUSES_CLEAR (R207), SET_BATTERY (R209): what each sets and answers. PORT_RESET (R196) and
RESET_PART (R205) are answered OK and do nothing before that reply is delivered. The model's own choices or inferences
in it: log 16. -/
def Obligations.PowerRequestsResult : Prop :=
  (∀ (p : Port) (tag : Tag) (secs : Nat) (s : State), s.ready p (.doze secs) →
    (s.seq.acq = .idle → (∀ k ∈ s.slots, k.state ≠ .running) → s.ports.con.stream = none → s.ports.teth.stream = none →
      s.meas.st ≠ .busy → s.power.grace = none → exec (.doze p tag secs) s =
        .next (conclude s (answer (asking p 45 tag) .accepted (.dozing secs) { s with power := { s.power with
          st := .entry, wake := WakeSet.empty, timer := secs, timerOn := false, entryStep := .frame } }))) ∧
    (s.seq.acq ≠ .idle ∨ (∃ k ∈ s.slots, k.state = .running) ∨ s.ports.con.stream ≠ none ∨ s.ports.teth.stream ≠ none ∨
      s.meas.st = .busy ∨ s.power.grace ≠ none → exec (.doze p tag secs) s =
        .next (conclude s (refuse (asking p 45 tag) .wrongState s)))) ∧
  (∀ (p : Port) (tag : Tag) (s : State), s.ready p .wakeCausesClear →
    exec (.wakeCausesClear p tag) s = .next (answer (asking p 46 tag) .ok .none
      { s with power := { s.power with wake := WakeSet.empty } }) ∧
    exec (.portReset p tag) s = .next (answer (asking p 37 tag) .ok .none s) ∧
    exec (.resetPart p tag) s = .next (answer (asking p 48 tag) .ok .none s)) ∧
  (∀ (p : Port) (tag : Tag) (low cutoff : Nat) (s : State), s.ready p (.setBattery low cutoff) → ∀ l c : Nat,
    l = max 3100 (min 4200 low) → c = min (max 3000 (min 4200 cutoff)) (l - 100) →
    exec (.setBattery p tag low cutoff) s = .next (answer (asking p 47 tag) .ok (.battery l c)
      { s with power := { s.power with low := l, cutoff := c } }))

/-! ## Events: the ports -/

/-- R187, R189, R196, R203, R205: a chip-select assertion fixes the frame that goes out, and in SHUTDOWN does nothing.
A full transaction clocks that frame out, delivers the reply sent, with its effect, and then takes the frame that came
in, exactly as the request's own row does in the state after the delivery; one that sent STARTING, or that woke the
part, takes nothing, nor does one begun in ENTRY that ends in DORMANT or WAKEUP (the model's choice, log 72), and one
that clocked no byte or ends in SHUTDOWN leaves no frame fixed. A short one delivers nothing and adds BAD_FORM, or
counts one more on the BAD_FORM that waits. The model's own choices or inferences in it: log 5, log 7, log 16, log 41,
log 62, log 72. -/
def Obligations.ConsoleTransactions : Prop :=
  (∀ (batt : Nat) (s : State),
    (s.power.st = .shutdown → exec (.chipSelectAssertion batt) s = .next s) ∧
    (s.power.st = .startup ∨ s.power.st = .wakeup → exec (.chipSelectAssertion batt) s =
      .next { s with ports := { s.ports with
        outFrame := some (.none true s.ports.conService.isSome s.ports.con.alerts.length) } }) ∧
    (∀ r rest, s.awake = true → s.ports.conReplies = r :: rest →
      exec (.chipSelectAssertion batt) s = .next { s with ports := { s.ports with outFrame := some (.reply r) } }) ∧
    (s.awake = true → s.ports.conReplies = [] → exec (.chipSelectAssertion batt) s = .next { s with ports := { s.ports with
      outFrame := some (.none false s.ports.conService.isSome s.ports.con.alerts.length) } })) ∧
  (∀ (frame : List Byte) (batt : Nat) (s u d : State) (f : OutFrame), s.power.st ≠ .shutdown →
    s.ports.outFrame = some f ∨ (s.ports.outFrame = none ∧ s.power.st ≠ .dormant ∧ f = s.outgoing) →
    264 ≤ frame.length →
    u = { s with ports := { s.ports with outFrame := none, conOut := f.clocked frame.length } } →
    (∀ w n, f = .none true w n → exec (.consoleTransaction frame batt) s = .next (conclude s u)) ∧
    ((∃ w n, f = .none false w n ∧ d = u) ∨
      (∃ r v, f = .reply r ∧ v = { u with ports := { u.ports with conReplies := u.ports.conReplies.drop 1 } } ∧
        ((r.status ≠ .ok ∨ (r.kind ≠ 37 ∧ r.kind ≠ 48)) ∧ d = v ∨
          r.status = .ok ∧ r.kind = 37 ∧ d = portReset .console v ∨
          r.status = .ok ∧ r.kind = 48 ∧ d = fullReset .request v)) →
      (d.awake = false ∨ Wire.consoleFrame frame = .none →
        exec (.consoleTransaction frame batt) s = .next (conclude s d)) ∧
      (∀ k tag, d.awake = true → Wire.consoleFrame frame = .malformed k tag →
        exec (.consoleTransaction frame batt) s =
          .next (conclude s (refuse { port := .console, kind := k, tag := tag } .badForm d))) ∧
      (∀ k tag r c, d.receives .console = true → Wire.consoleFrame frame = .request k tag r →
        c.request? = some (.console, tag, r) → ∃ t, (exec c d = .next t ∨ exec c d = .next (conclude d t)) ∧
          exec (.consoleTransaction frame batt) s = .next (conclude s t)))) ∧
  (∀ (frame : List Byte) (batt : Nat) (s : State) (c : Instr),
    c = .consoleTransaction frame batt ∨ c = .shortTransaction frame batt →
    (s.power.st = .shutdown → exec c s = .next (conclude s { s with ports := { s.ports with outFrame := none } })) ∧
    (frame = [] → s.ports.outFrame ≠ none ∨ s.power.st ≠ .dormant →
      exec c s = .next (conclude s { s with ports := { s.ports with outFrame := none } })) ∧
    (s.power.st = .dormant → s.ports.outFrame = none → frame ≠ [] → s.power.cutoff ≤ batt ∨ s.power.charger = true →
      exec c s = .next (conclude s { s with
        ports := { s.ports with
          conOut := (OutFrame.none true s.ports.conService.isSome s.ports.con.alerts.length).clocked frame.length }
        power := { s.power with
          st := .wakeup, timerOn := false, reading := some batt, pll := .starting
          wake := { s.power.wake with console := true } } }))) ∧
  (∀ (frame : List Byte) (batt : Nat) (s u : State) (f : OutFrame), 1 ≤ frame.length → frame.length < 264 →
    s.power.st ≠ .shutdown →
    s.ports.outFrame = some f ∨ (s.ports.outFrame = none ∧ s.power.st ≠ .dormant ∧ f = s.outgoing) →
    u = { s with ports := { s.ports with outFrame := none, conOut := f.clocked frame.length } } →
    ((∃ w n, f = .none true w n) → exec (.shortTransaction frame batt) s = .next (conclude s u)) ∧
    ∀ (kind : Byte) (tag : Tag), kind = frame.getD 1 0 → tag = frame.getD 3 0 ++ frame.getD 2 0 →
    (∀ w n, f ≠ .none true w n) → s.awake = true →
    ((∀ r ∈ s.ports.conReplies, ∀ n, r.body ≠ .badForm n) → exec (.shortTransaction frame batt) s =
      .next (conclude s { u with ports := { u.ports with conReplies := s.ports.conReplies ++
        [{ kind := kind, tag := tag, status := .badForm, body := .badForm 1, last := false }] } })) ∧
    (∀ pre r post n, s.ports.conReplies = pre ++ r :: post → r.body = .badForm n →
      (∀ x ∈ pre, ∀ m, x.body ≠ .badForm m) → n ≤ 255 → exec (.shortTransaction frame batt) s =
        .next (conclude s { u with ports := { u.ports with conReplies :=
          pre ++ { r with body := .badForm (min 255 (n + 1)) } :: post } })))

/-- R191, R198, R199, R205, R196: an OUT transfer is taken exactly as the request's own row, a malformed one answered
BAD_FORM, one not received changes nothing. Fetching a reply delivers it, with its effect. Fetching a stream packet
makes room for the next one; the last one ends the stream. In every power state but STARTUP and SHUTDOWN (R192, R203)
they are fetched while the link is CONFIGURED. The model's own choices or inferences in it: log 4, log 7, log 16, log
61. -/
def Obligations.TetherTransfers : Prop :=
  (∀ (frame : List Byte) (s : State),
    (s.receives .tether = false → exec (.tetherRequestTransfer frame) s = .next s) ∧
    (∀ k tag r c, s.receives .tether = true → Wire.tetherFrame frame = .request k tag r →
      c.request? = some (.tether, tag, r) → ∃ t, (exec c s = .next t ∨ exec c s = .next (conclude s t)) ∧
        exec (.tetherRequestTransfer frame) s = .next (conclude s t)) ∧
    (∀ k tag, s.receives .tether = true → Wire.tetherFrame frame = .malformed k tag →
      exec (.tetherRequestTransfer frame) s =
        .next (conclude s (refuse { port := .tether, kind := k, tag := tag } .badForm s)))) ∧
  (∀ s : State, s.power.st ≠ .startup → s.power.st ≠ .shutdown → s.ports.link = .configured →
    (∀ r rest, s.ports.tethReplies = r :: rest →
      (r.status ≠ .ok ∨ (r.kind ≠ 37 ∧ r.kind ≠ 48) → exec .tetherReplyAck s =
        .next (conclude s { s with ports := { s.ports with tethReplies := rest, tethOut := r.bytes } })) ∧
      (r.status = .ok → r.kind = 37 → exec .tetherReplyAck s =
        .next (conclude s (portReset .tether { s with ports := { s.ports with tethReplies := rest, tethOut := r.bytes } }))) ∧
      (r.status = .ok → r.kind = 48 → exec .tetherReplyAck s =
        .next (conclude s (fullReset .request { s with ports := { s.ports with tethReplies := rest, tethOut := r.bytes } })))) ∧
    (∀ x b rest, s.ports.teth.stream = some x → x.buffer = b :: rest →
      (rest = [] → x.endQueued = true →
        exec .streamPacketAck s = .next (conclude s (setStream .tether none s))) ∧
      (∀ n, x.source = .records n → x.headerSent = true → x.endQueued = false → rest.length ≤ 1 →
        (x.acc.length < 512 → x.ended = false → exec .streamPacketAck s =
          .next (conclude s (setStream .tether (some { x with buffer := rest }) s))) ∧
        (x.acc.length < 512 → x.ended = true → exec .streamPacketAck s =
          .next (conclude s (setStream .tether (some { x with
            buffer := rest ++ [x.acc], acc := [], endQueued := true, delivered := x.delivered + x.acc.length }) s))) ∧
        (512 ≤ x.acc.length → rest.length = 1 → exec .streamPacketAck s =
          .next (conclude s (setStream .tether (some { x with
            buffer := rest ++ [x.acc.take 512], acc := x.acc.drop 512, delivered := x.delivered + 512 }) s))))))

/-- R192, R196: the link's states. A bus reset and a loss of VBUS carry out a tether port reset: the claim the port
held is free, its alert set is empty at default levels, its replies and stream are gone, every slot it started is
FREE, and the link is DETACHED with remote wake not allowed. A port reset of the console (R196): the capture it owns
stops with OWNER_LOST, its measurement is cancelled, what it held is gone in the same way, and an overlay change that
waits loses the reply it owes. The model's own choices or inferences in it: log 16, log 42. -/
def Obligations.LinkEvents : Prop :=
  (∀ s : State, s.connected = true →
    (s.ports.link = .detached →
      exec .usbConfigure s = .next { s with ports := { s.ports with link := .configured } }) ∧
    (s.ports.link = .configured →
      exec .usbSuspend s = .next { s with ports := { s.ports with link := .suspended } }) ∧
    (∀ batt, s.power.st = .run → s.ports.link = .suspended → s.ports.teth.stream = none → exec (.usbResume batt) s =
      .next (conclude s { s with ports := { s.ports with link := .configured, resuming := false } })) ∧
    (s.ports.link ≠ .suspended →
      exec .remoteWakeAllow s = .next { s with ports := { s.ports with remoteWake := true } } ∧
      exec .remoteWakeForbid s = .next { s with ports := { s.ports with remoteWake := false } })) ∧
  (∀ s : State, exec .vbusPresent s = .next { s with ports := { s.ports with vbus := true } }) ∧
  (∀ (c : Instr) (s : State), s.slots.length = 4 → s.power.st = .run → s.ports.vbus = true →
    (∃ batt, c = .usbBusReset batt) ∨ c = .vbusLoss →
    ∃ t, exec c s = .next (conclude s t) ∧ t.ports.vbus = decide (c ≠ .vbusLoss) ∧ t.ports.link = .detached ∧
      t.ports.remoteWake = false ∧ t.ports.resuming = false ∧
      t.ports.claim = (if s.ports.claim = some .tether then none else s.ports.claim) ∧
      t.ports.teth = PortState.reset ∧ t.ports.tethReplies = [] ∧ t.ports.tethService = 0 ∧
      (∀ k, k < 4 → (s.slot k).starter = some .tether → (t.slot k).state = .free) ∧
      (∀ e ∈ t.store.segs, e.owner ≠ some .tether)) ∧
  (∀ s t : State, s.slots.length = 4 → t = portReset .console s →
    t.ports.claim = (if s.ports.claim = some .console then none else s.ports.claim) ∧
    t.ports.con = PortState.reset ∧ t.ports.conReplies = [] ∧ t.ports.conService = none ∧ t.ports.attn = false ∧
    t.ports.tethReplies = s.ports.tethReplies ∧ t.ports.link = s.ports.link ∧ t.store.mem = s.store.mem ∧
    (∀ k, k < 4 → (s.slot k).starter = some .console → (t.slot k).state = .free) ∧
    (∀ e ∈ t.store.segs, e.owner ≠ some .console) ∧
    (∀ c ∈ t.panel.changes, ∀ q, c.reply = some q → q.port ≠ .console) ∧
    (s.meas.st = .busy → s.meas.port = .console → t.meas = Measure.reset) ∧
    (s.ports.claim = some .console → s.seq.acq.sampling = true → t.seq.acq = .draining ∧ t.seq.seqEnd = true ∧
      t.seq.stopTick = some (s.fe.tick + 1) ∧ t.seq.reason = some .ownerLost) ∧
    (s.ports.claim ≠ some .console → t.seq = s.seq))

/-! ## Events: pods, ticks, capture -/

/-- R1, R2, R4: a change of a sense line opens its pod's debounce window when it now disagrees with the presence and
closes it when it agrees. At the window's 50 ms the presence follows the line and POD_CHANGE is raised; a pod lost
while samples are taken is also blanked and handed to the compressor, behind a pod already lost before the same tick
(that order is the model's choice, log 48). An earlier expiry does nothing. The model's own choices or inferences in
it: log 4, log 15, log 48. -/
def Obligations.PodEvents : Prop :=
  ∀ (pod : Fin 2) (now : Nat) (s : State), s.debouncing = true →
    (∀ line, line = (s.fe.pod pod).sense → exec (.senseLineChange pod line now) s = .next s) ∧
    (∀ line, line ≠ (s.fe.pod pod).sense → exec (.senseLineChange pod line now) s =
      .next { s with fe := s.fe.setPod pod { s.fe.pod pod with
        sense := line, window := if line = (s.fe.pod pod).present then none else some now } }) ∧
    ((s.fe.pod pod).window = none → exec (.debounceExpiry pod now) s = .next s) ∧
    (∀ t, (s.fe.pod pod).window = some t → now < t + 50000 → exec (.debounceExpiry pod now) s = .next s) ∧
    (∀ t, (s.fe.pod pod).window = some t → t + 50000 ≤ now →
      (s.seq.acq.sampling = true → (s.fe.pod pod).sense = false → (s.fe.pod pod).blanked = false →
        exec (.debounceExpiry pod now) s = .next (raiseBoth .podChange pod { s with
          fe := { s.fe.setPod pod { s.fe.pod pod with window := none, present := false, blanked := true } with
                  lost := s.fe.lost ++ [pod.val] } })) ∧
      (s.seq.acq.sampling = false ∨ (s.fe.pod pod).sense = true ∨ (s.fe.pod pod).blanked = true →
        exec (.debounceExpiry pod now) s = .next (raiseBoth .podChange pod { s with
          fe := s.fe.setPod pod { s.fe.pod pod with window := none, present := (s.fe.pod pod).sense } })))

/-- R7, R10, R12, R22: each comparator of a powered pod follows its input with 50 mV of hysteresis either way. One
period of the sample clock, the events due at the tick before it first: in IDLE the counter holds; while DRAINING it
counts and wraps; while samples are taken it counts, the state delivered is the levels of the latched mask's channels
with blanked pods LOW. A change of it is queued as one TRANSITION and a pod lost as a POD_LOST when the queue has
room, else a loss interval opens, which counts what it drops and closes at level 512 with a LOSS_END and a BASE (R23
to R27; here in PRIMING, before any trigger). The tap takes the same TRANSITION, a joining BASE for a slot that waits
for one, or opens a gap, which closes at level 128 with a flagged BASE (R34, R35, R37). In HUNTING the current PATTERN
stage is evaluated: its condition, its qualifier, its match count, and where a match leads (R44 to R46, R48); FINAL
takes the trigger at this tick (R50, R52). An annotation offered matches a DECODER stage at its end, held to the tick
(R47, R48, R50). The model's own choices or inferences in it: log 4, log 14, log 15, log 16, log 49, log 63, log 65,
log 77. -/
def Obligations.SampleTickResult : Prop :=
  (∀ (f : FrontEnd) (v : List Int) (k : Nat), k < 16 →
    ((f.pod (if k < 8 then 0 else 1)).powered = false → (f.compare v).levels.getLsbD k = f.levels.getLsbD k) ∧
    (∀ th, (f.pod (if k < 8 then 0 else 1)).powered = true →
      th = effectiveThreshold (f.pod (if k < 8 then 0 else 1)).code →
      (f.levels.getLsbD k = true → ((f.compare v).levels.getLsbD k = true ↔ th - 50 ≤ v.getD k 0)) ∧
      (f.levels.getLsbD k = false → ((f.compare v).levels.getLsbD k = true ↔ th + 50 < v.getD k 0)))) ∧
  (∀ (v : List Int) (s : State), s.clocked = false → exec (.sampleTick v) s = .next s) ∧
  (∀ (v : List Int) (s u : State), s.clocked = true → u = settle s →
    ∃ t, exec (.sampleTick v) s = .next (conclude s t) ∧ t.fe.levels = (u.fe.compare v).levels ∧
      (u.seq.acq = .idle → t.fe.tick = u.fe.tick ∧ t.comp.staging = u.comp.staging) ∧
      (u.seq.acq = .draining → t.fe.tick = (u.fe.tick + 1) % 281474976710656) ∧
      (∀ n st, u.seq.acq.sampling = true → u.fe.tick + 1 < 140737488355328 → u.seq.seg = some n →
        st = (u.fe.compare v).levels &&& (u.seg n).latched.mask &&&
          (if u.fe.pod0.blanked then 0xFF00 else 0xFFFF) &&& (if u.fe.pod1.blanked then 0x00FF else 0xFFFF) →
        t.fe.tick = u.fe.tick + 1 ∧ t.fe.lost = [] ∧ t.comp.last = st ∧ t.comp.lastTick = u.fe.tick + 1 ∧
        (u.seq.acq = .priming → u.comp.lossOpen = false → ∀ g, g = u.fe.tick + 1 - u.comp.stagingTime → g ≤ 16383 →
          (u.fe.lost = [] → st = u.comp.last → t.comp.staging = u.comp.staging) ∧
          (u.fe.lost = [] → st ≠ u.comp.last → u.comp.staging.length ≤ 1021 →
            t.comp.staging = u.comp.staging ++ [.trans g st] ∧ t.comp.stagingTime = u.fe.tick + 1) ∧
          (∀ pod, u.fe.lost = [pod] → st = u.comp.last → u.comp.staging.length ≤ 1021 →
            t.comp.staging = u.comp.staging ++ [.mark g .podLost pod] ∧ t.comp.stagingTime = u.fe.tick + 1) ∧
          (∀ pod, u.fe.lost = [pod] → st ≠ u.comp.last → u.comp.staging.length ≤ 1020 →
            t.comp.staging = u.comp.staging ++ [.trans g st, .mark 0 .podLost pod] ∧
              t.comp.stagingTime = u.fe.tick + 1) ∧
          (∀ pods, u.fe.lost = pods → pods.length ≤ 2 → st ≠ u.comp.last → 1022 ≤ u.comp.staging.length →
            t.comp.staging = u.comp.staging ++ [.mark g .lossBegin 0] ∧ t.comp.stagingTime = u.fe.tick + 1 ∧
              t.comp.lossOpen = true ∧ t.comp.lostCount = 1 + pods.length)) ∧
        (u.seq.acq = .priming → u.comp.lossOpen = true → u.comp.stagingTime ≤ u.fe.tick → u.fe.lost = [] →
          (512 < u.comp.staging.length → t.comp.staging = u.comp.staging ∧ t.comp.lossOpen = true ∧
            t.comp.stagingTime = u.comp.stagingTime ∧
            (u.comp.lostCount ≤ 4095 →
              t.comp.lostCount = if st = u.comp.last then u.comp.lostCount else min 4095 (u.comp.lostCount + 1))) ∧
          (u.comp.staging.length ≤ 512 → u.fe.tick + 1 - u.comp.stagingTime ≤ 16383 → n < u.store.segs.length →
            t.comp.staging = u.comp.staging ++
              [.mark (u.fe.tick + 1 - u.comp.stagingTime) .lossEnd u.comp.lostCount, .base false st] ∧
            t.comp.stagingTime = u.fe.tick + 1 ∧ t.comp.lossOpen = false ∧ t.comp.lostCount = 0 ∧
            (t.seg n).losses = satSucc 65535 (u.seg n).losses ∧
            (u.ports.con.level .loss ≠ .off → ∃ a ∈ t.ports.con.alerts, a.kind = .loss ∧ a.arg = n))) ∧
        (u.seq.acq = .priming → u.liveSlots ≠ [] → u.fe.lost = [] → u.comp.tapTime ≤ u.fe.tick →
          u.tap.heldEnd = none → ∀ D, D = (u.seg n).latched.divider →
          (u.tap.gapOpen = false → u.tap.joining = [] → u.owers ≠ [] → st ≠ u.comp.last →
            u.fe.tick + 1 - u.comp.tapTime ≤ 16383 →
            t.comp.tapTime = u.fe.tick + 1 ∧
            (u.tap.entries.length ≤ 255 → t.tap.gapOpen = false ∧ t.tap.entries = u.tap.entries ++
              [⟨.trans (u.fe.tick + 1 - u.comp.tapTime) st, u.fe.tick + 1, false, u.owers, some n, D⟩]) ∧
            (256 ≤ u.tap.entries.length → t.tap.gapOpen = true ∧ t.tap.entries = u.tap.entries)) ∧
          (∀ j, u.tap.gapOpen = false → u.tap.joining = [j] → st = u.comp.last → t.tap.joining = [] ∧
            (u.tap.entries.length ≤ 255 → t.tap.gapOpen = false ∧ t.tap.entries = u.tap.entries ++
              [⟨.base false st, u.fe.tick + 1, false, [j], some n, D⟩]) ∧
            (256 ≤ u.tap.entries.length → t.tap.gapOpen = true ∧ t.tap.entries = u.tap.entries)) ∧
          (u.tap.gapOpen = true → u.allOwers ≠ [] →
            (u.tap.entries.length ≤ 128 → t.tap.gapOpen = false ∧ t.tap.joining = [] ∧ t.tap.entries =
              u.tap.entries ++ [⟨.base false st, u.fe.tick + 1, true, u.allOwers, some n, D⟩]) ∧
            (128 < u.tap.entries.length → t.tap.gapOpen = true ∧ t.tap.entries = u.tap.entries))) ∧
        (∀ j g cs run hit, u.seq.acq = .hunting j → u.liveSlots = [] → u.stageAt j = g → g.cond = .pattern cs →
          qualify g.qualifier u.seq.held (patternHolds cs 0 u.seq.prev st) u.seq.run = (run, hit) →
          (hit = false → t.seq = { u.seq with
            run := run, held := patternHolds cs 0 u.seq.prev st, prev := st }) ∧
          (hit = true → u.seq.matchCount + 1 < g.count → t.seq = { u.seq with
            run := run, held := patternHolds cs 0 u.seq.prev st, prev := st
            matchCount := u.seq.matchCount + 1 }) ∧
          (∀ i, hit = true → g.count ≤ u.seq.matchCount + 1 → g.next = .stage i → t.seq = { u.seq with
            acq := .hunting i, entryTick := u.fe.tick + 1, matchCount := 0, run := 0, held := false, prev := st
            expiry := if (u.stageAt i).timeout = 0 then none else some (u.fe.tick + 1 + (u.stageAt i).timeout) }) ∧
          (∀ start, hit = true → g.count ≤ u.seq.matchCount + 1 → g.next = .final → n < u.store.segs.length →
            1032 ≤ u.freePlaces n → start = (u.seg n).start →
            (t.seg n).trigger = some { tick := max (u.fe.tick + 1) start, forced := false,
                                       clamped := decide (u.fe.tick + 1 < start) } ∧
            t.seq.matchCount = 0 ∧ t.seq.run = 0 ∧ t.seq.held = false ∧ t.seq.expiry = none ∧
            (u.ports.con.level .triggered ≠ .off → ∃ a ∈ t.ports.con.alerts, a.kind = .triggered ∧ a.arg = n) ∧
            (u.fe.tick + 1 < max (u.fe.tick + 1) start + u.seq.params.pPost → t.seq.acq = .postfill) ∧
            (u.seq.params.pPost = 0 → start ≤ u.fe.tick + 1 → t.seq.acq = .draining ∧
              t.seq.stopTick = some (u.fe.tick + 2) ∧ t.seq.reason = some .complete))))) ∧
  (∀ (cs : List ChanCond) (was is : Half), patternHolds cs 0 was is = true ↔ ∀ k c, cs[k]? = some c →
    c = .ignore ∨ (c = .low ∧ is.getLsbD k = false) ∨ (c = .high ∧ is.getLsbD k = true) ∨
    (c = .rise ∧ was.getLsbD k = false ∧ is.getLsbD k = true) ∨
    (c = .fall ∧ was.getLsbD k = true ∧ is.getLsbD k = false) ∨ (c = .edge ∧ was.getLsbD k ≠ is.getLsbD k)) ∧
  (∀ (held holds : Bool) (run m : Nat), run ≤ 65535 → m ≤ 65535 →
    qualify .none held holds run = (run, holds && !held) ∧
    (holds = true → qualify (.heldAtLeast m) held holds run = (min 65535 (run + 1), decide (run + 1 = m)) ∧
      qualify (.heldLessThan m) held holds run = (min 65535 (run + 1), false)) ∧
    (holds = false → qualify (.heldAtLeast m) held holds run = (0, false) ∧
      qualify (.heldLessThan m) held holds run = (0, decide (1 ≤ run ∧ run < m)))) ∧
  (∀ (slot seg kind stop value j gSlot gKind gValue gMask : Nat) (s : State), s.seq.acq = .hunting j →
    (s.stageAt j).cond = .decoder gSlot gKind gValue gMask →
    (slot ≠ gSlot ∨ s.seq.seg ≠ some seg ∨ kind ≠ gKind ∨ value &&& gMask ≠ gValue &&& gMask →
      offerNote slot seg kind stop value s = s) ∧
    (slot = gSlot → s.seq.seg = some seg → kind = gKind → value &&& gMask = gValue &&& gMask →
      (s.seq.matchCount + 1 < (s.stageAt j).count → offerNote slot seg kind stop value s =
        { s with seq := { s.seq with matchCount := s.seq.matchCount + 1 } }) ∧
      (∀ i, (s.stageAt j).count ≤ s.seq.matchCount + 1 → (s.stageAt j).next = .stage i →
        offerNote slot seg kind stop value s = { s with seq := { s.seq with
          acq := .hunting i, entryTick := s.fe.tick, matchCount := 0, run := 0, held := false, prev := s.comp.last
          expiry := if (s.stageAt i).timeout = 0 then none else some (s.fe.tick + (s.stageAt i).timeout) } }) ∧
      ((s.stageAt j).count ≤ s.seq.matchCount + 1 → (s.stageAt j).next = .final →
        offerNote slot seg kind stop value s = takeTrigger (min stop s.fe.tick) false s)))

/-- R13, R19, R42, R49, R50, R52: the events due at a tick. An idle extend is due at t_last + 1,073,741,823 and joins
its stream at that delta; a full staging queue opens a loss interval, and an open tap gap takes no record. Priming
ends in stage 0, a timed-out stage gives way to its target with the expiry as entry tick; the target FINAL takes the
trigger with that tick, held to the start tick. POSTFILL stops one tick after the current one with COMPLETE; the tick
limit stops at 2^47 with TIME_LIMIT and ends the sequence. None of them acts before it is due. The model's own choices
or inferences in it: log 4, log 16, log 18, log 79. -/
def Obligations.TickEventsResult : Prop :=
  (∀ s : State,
    (s.seq.acq.sampling = true → s.comp.lossOpen = false → s.fe.tick = s.comp.stagingTime + 1073741823 →
      s.comp.staging.length ≤ 1021 → exec (.idleExtend .staging) s =
      .next (conclude s { s with comp := { s.comp with
        staging := s.comp.staging ++ [.extend 1073741823], stagingTime := s.fe.tick } })) ∧
    (s.seq.acq.sampling = true → s.comp.lossOpen = false → s.fe.tick = s.comp.stagingTime + 1073741823 →
      1021 < s.comp.staging.length → exec (.idleExtend .staging) s =
        .next (conclude s { s with comp := { s.comp with
          staging := s.comp.staging ++ placeRecord 1073741823 (fun d => .mark d .lossBegin 0)
          lossOpen := true, lostCount := 0, stagingTime := s.fe.tick } })) ∧
    (s.seq.acq.sampling = false ∨ s.comp.lossOpen = true ∨ s.fe.tick ≠ s.comp.stagingTime + 1073741823 →
      exec (.idleExtend .staging) s = .next (conclude s s)) ∧
    (∀ n, s.seq.acq.sampling = true → s.tapActive = true → s.fe.tick = s.comp.tapTime + 1073741823 → s.tap.gapOpen = false → s.tap.entries.length ≤ 255 → s.owers ≠ [] →
      s.seq.seg = some n → exec (.idleExtend .tap) s = .next (conclude s { s with
        comp := { s.comp with tapTime := s.fe.tick }
        tap := { s.tap with entries := s.tap.entries ++
          [⟨.extend 1073741823, s.fe.tick, false, s.owers, some n, (s.seg n).latched.divider⟩] } })) ∧
    (s.seq.acq.sampling = true → s.tapActive = true → s.fe.tick = s.comp.tapTime + 1073741823 → s.tap.gapOpen = true →
      exec (.idleExtend .tap) s = .next (conclude s { s with comp := { s.comp with tapTime := s.fe.tick } })) ∧
    (s.seq.acq.sampling = false ∨ s.tapActive = false ∨ s.fe.tick ≠ s.comp.tapTime + 1073741823 →
      exec (.idleExtend .tap) s = .next (conclude s s))) ∧
  (∀ s : State,
    (s.seq.acq = .priming → s.seq.primingEnd ≤ s.fe.tick → exec .primingEnd s = .next { s with seq := { s.seq with
      acq := .hunting 0, entryTick := s.seq.primingEnd, matchCount := 0, run := 0, held := false, prev := s.comp.last
      expiry := if (s.stageAt 0).timeout = 0 then none else some (s.seq.primingEnd + (s.stageAt 0).timeout) } }) ∧
    (s.seq.acq ≠ .priming ∨ s.fe.tick < s.seq.primingEnd → exec .primingEnd s = .next s)) ∧
  (∀ (s : State) (k e : Nat), s.seq.acq = .hunting k → s.seq.expiry = some e →
    (s.fe.tick < e → exec .stageTimeout s = .next (conclude s s)) ∧
    (∀ j, e ≤ s.fe.tick → (s.stageAt k).timeoutTarget = .stage j → exec .stageTimeout s =
      .next (conclude s { s with seq := { s.seq with
        acq := .hunting j, entryTick := e, matchCount := 0, run := 0, held := false, prev := s.comp.last
        expiry := if (s.stageAt j).timeout = 0 then none else some (e + (s.stageAt j).timeout) } })) ∧
    (∀ n g, e ≤ s.fe.tick → (s.stageAt k).timeoutTarget = .final → s.seq.seg = some n → n < s.store.segs.length →
      1032 ≤ s.freePlaces n → s.fe.tick < g.tick + s.seq.params.pPost →
      g = { tick := max e (s.seg n).start, forced := false, clamped := decide (e < (s.seg n).start) } →
      exec .stageTimeout s = .next (conclude s { raiseBoth .triggered n
        (s.setSeg n { s.seg n with trigger := some g }) with
          seq := { s.seq with acq := .postfill, matchCount := 0, run := 0, expiry := none, held := false } }))) ∧
  (∀ (s : State) (g : Trigger), s.seq.acq = .postfill → s.trigger = some g →
    (s.fe.tick < g.tick + s.seq.params.pPost → exec .postfillEnd s = .next (conclude s s)) ∧
    (g.tick + s.seq.params.pPost ≤ s.fe.tick → s.comp.lossOpen = false → s.tapActive = false →
      s.fe.tick + 1 - s.comp.stagingTime ≤ 16383 → exec .postfillEnd s = .next (conclude s { s with
        seq := { s.seq with acq := .draining, stopTick := some (s.fe.tick + 1), reason := some .complete }
        comp := { s.comp with stagingTime := s.fe.tick + 1, staging :=
          s.comp.staging ++ [.mark (s.fe.tick + 1 - s.comp.stagingTime) .stop 1] }
        tap := { s.tap with joining := [] } }))) ∧
  (∀ s u : State, s.clocked = true → u = settle s →
    (u.fe.tick + 1 < 140737488355328 → exec .timeLimit s = .next (conclude s u)) ∧
    (u.seq.acq.sampling = true → 140737488355328 ≤ u.fe.tick + 1 → ∃ t, exec .timeLimit s = .next (conclude s t) ∧
      t.seq.acq = .draining ∧ t.seq.stopTick = some 140737488355328 ∧ t.seq.reason = some .timeLimit ∧
      t.seq.seqEnd = true ∧ t.fe.tick = 140737488355328))

/-- R27, R31, R37: at level 512 or less a loss interval closes, at the current tick with a LOSS_END of what was lost
before it and a BASE of the state, past the tick it opened at (the model's choice, log 63), or when an END is held, at
the stop tick with that END; the interval is counted and LOSS raised. A tap gap closes while samples are taken with
one flagged BASE owed by every live slot. The model's own choices or inferences in it: log 4, log 16, log 63, log 78.
-/
def Obligations.LossAndGapClose : Prop :=
  (∀ (s : State) (n : Nat), s.comp.lossOpen = true → s.comp.staging.length ≤ 512 → s.seq.seg = some n →
    (s.seq.acq.sampling = true → s.comp.stagingTime < s.fe.tick → s.fe.tick - s.comp.stagingTime ≤ 16383 →
      s.comp.tickLost = [] → exec .lossClose s = .next (conclude s (raiseBoth .loss n
        ({ s with comp := { s.comp with
          staging := s.comp.staging ++
            [Record.mark (s.fe.tick - s.comp.stagingTime) .lossEnd s.comp.tickBefore, Record.base false s.comp.last]
          stagingTime := s.fe.tick, lossOpen := false, lostCount := 0, heldEnd := false } }.setSeg n
            { s.seg n with losses := satSucc 65535 (s.seg n).losses })))) ∧
    (∀ t r, s.seq.stopTick = some t → s.seq.reason = some r → s.comp.heldEnd = true → s.comp.stagingTime < t →
      t - s.comp.stagingTime ≤ 16383 → exec .endLossClose s = .next (conclude s (raiseBoth .loss n
        ({ s with comp := { s.comp with
          staging := s.comp.staging ++
            [Record.mark (t - s.comp.stagingTime) .lossEnd s.comp.lostCount, Record.mark 0 .stop r.code]
          stagingTime := t, lossOpen := false, lostCount := 0, heldEnd := false } }.setSeg n
            { s.seg n with losses := satSucc 65535 (s.seg n).losses }))))) ∧
  (∀ s : State, s.comp.lossOpen = false ∨ 512 < s.comp.staging.length →
    exec .lossClose s = .next (conclude s s) ∧ exec .endLossClose s = .next (conclude s s)) ∧
  (∀ (s : State) (n : Nat), s.tap.gapOpen = true → s.tap.entries.length ≤ 128 → s.seq.acq.sampling = true →
    s.seq.seg = some n → s.tap.heldEnd = none → s.comp.tickLost = [] → s.liveSlots ≠ [] → s.allOwers = s.liveSlots →
    exec .tapGapClose s = .next (conclude s { s with
      comp := { s.comp with tapTime := s.fe.tick }
      tap := { entries := s.tap.entries ++
                 [⟨.base false s.comp.last, s.fe.tick, true, s.liveSlots, some n, (s.seg n).latched.divider⟩]
               gapOpen := false, heldEnd := none, joining := [] } })) ∧
  (∀ s : State, s.tap.gapOpen = false ∨ 128 < s.tap.entries.length → exec .tapGapClose s = .next (conclude s s))

/-- R29, R32, R72: at the end of a writer burst its records stand in the next places of the writer's block, they have
left the staging queue, the counts, the segment's end tick and the chain length the store status reports (R85) follow,
and no byte outside the group's 16 is touched. A burst with the END seals the segment with the stop tick and reason. A
sequence that goes on is armed again at the current tick, with the next index, for the claim's holder (R57; here
without RECLAIM), or ends with STORE_LOW for want of room (R58); one that does not go on is then IDLE. The writer's
block request (R30, R68 to R70): before the trigger a full window or an empty free list trims the oldest block first;
the free-list head is then the answer, or there is none; the test of R80 follows. The reserve test (R71): with 1,032
places or a free block nothing; else the oldest eligible segment is reclaimed, or a block trimmed at the trigger, or
after it the segment stops with STORE_FULL. The model's own choices or inferences in it: log 1, log 11, log 16, log
74. -/
def Obligations.WriterBurstResult : Prop :=
  (∀ (s : State) (n m p : Nat), s.memOk → s.power.pll = .locked → s.mc.flight = some (.write n) → s.writer.seg = some m →
    s.seq.seg = some m → n ≤ s.comp.staging.length → s.writer.group.length + n ≤ 4 →
    s.writer.written = p + s.writer.group.length → p + 4 ≤ 16384 → s.writer.block < s.store.blocks.length →
    m < s.store.segs.length →
    ∃ t, exec .writerBurstEnd s = .next (conclude s t) ∧ t.mc.flight = none ∧
      (∀ i r, i < n → s.comp.staging[i]? = some r → readWord t.store.mem s.writer.block (s.writer.written + i) = r.word) ∧
      (∀ i r, s.writer.group[i]? = some r → readWord t.store.mem s.writer.block (p + i) = r.word) ∧
      (∀ a, a < 65536 * s.writer.block + 4 * p ∨ 65536 * s.writer.block + 4 * p + 16 ≤ a →
        Memory.read t.store.mem a = Memory.read s.store.mem a) ∧
      ((∀ r ∈ s.comp.staging.take n, r.isEnd = false) → s.seq.acq ≠ .postfill ∨ s.store.freeList ≠ [] →
        t.comp.staging = s.comp.staging.drop n ∧ t.writer.written = s.writer.written + n ∧
        (t.store.block s.writer.block).used = s.writer.written + n ∧
        t.writer.time = s.writer.time + ((s.comp.staging.take n).map Record.delta).sum ∧
        t.seg m = { s.seg m with stop := t.writer.time, burstChain := (s.seg m).chain.length } ∧ t.seq = s.seq) ∧
      (∀ e reason, (∃ r ∈ s.comp.staging.take n, r.isEnd = true) → s.seq.stopTick = some e → s.seq.reason = some reason →
        reason ≠ .complete ∨ s.seq.seqEnd = true ∨ s.seq.params.sequence ≤ s.seq.taken ∨ 140737488355328 ≤ s.fe.tick →
        t.comp.staging = s.comp.staging.drop n ∧
        t.seg m = { s.seg m with state := .sealed, reason := some reason, stop := e,
                                 burstChain := (s.seg m).chain.length,
                                 order := satSucc 4294967295 s.store.sealCounter } ∧
        t.store.sealCounter = satSucc 4294967295 s.store.sealCounter ∧ t.writer.seg = none ∧
        t.seq.acq = .idle ∧ t.seq.seg = none) ∧
      (∀ e, (∃ r ∈ s.comp.staging.take n, r.isEnd = true) → s.seq.stopTick = some e → s.seq.reason = some .complete →
        s.seq.seqEnd = false → s.seq.taken < s.seq.params.sequence → s.fe.tick < 140737488355328 →
        s.seq.params.reclaim ≠ .on → (s.seg m).state = .filling →
        t.seg m = { s.seg m with state := .sealed, reason := some .complete, stop := e,
                                 burstChain := (s.seg m).chain.length,
                                 order := satSucc 4294967295 s.store.sealCounter } ∧
        (∀ k b c rest, s.lowestEmpty = some k → s.store.freeList = b :: c :: rest →
          t.seq = { s.seq with acq := .priming, seg := some k, taken := s.seq.taken + 1, stopTick := none,
                               reason := none, primingEnd := s.fe.tick + s.seq.params.wPre } ∧
          t.seg k = { Segment.empty with
            state := .filling, owner := s.ports.claim, chain := [b], burstChain := 1, start := s.fe.tick
            stop := s.fe.tick, index := s.seq.taken + 1
            latched := { divider := s.fe.divider, mask := s.fe.mask, code0 := s.fe.pod0.code, code1 := s.fe.pod1.code,
                         blank0 := !s.fe.pod0.present, blank1 := !s.fe.pod1.present } } ∧
          t.store.freeList = c :: rest ∧ t.fe.tick = s.fe.tick ∧ t.comp.staging = [.base false t.comp.last] ∧
          t.comp.stagingTime = s.fe.tick ∧ t.writer.seg = some k ∧ t.writer.block = b ∧ t.writer.written = 0) ∧
        (s.lowestEmpty = none ∨ s.store.freeList.length ≤ 1 →
          t.seq = { s.seq with acq := .idle, seg := none, stopTick := none, reason := none } ∧ t.writer.seg = none ∧
          (s.ports.con.level .storeLow ≠ .off →
            ∃ a ∈ t.ports.con.alerts, a.kind = .storeLow ∧ a.arg = s.store.freeList.length))) ∧
      ((∀ r ∈ s.comp.staging.take n, r.isEnd = false) → s.seq.acq = .postfill → s.store.freeList = [] →
        s.seq.params.reclaim ≠ .on → (s.seg m).chain.getLast? = some s.writer.block → 15352 < s.writer.written + n →
        t.seq.acq = .draining ∧ t.seq.seqEnd = true ∧ t.seq.stopTick = some (s.fe.tick + 1) ∧
          t.seq.reason = some .storeFull)) ∧
  (∀ (n base : Nat) (s : State) (e : Segment), s.seg n = e → n < s.store.segs.length →
    (∀ b c r x free, e.chain = b :: c :: r → e.trigger = none →
      s.seq.params.bPre + 1 ≤ e.chain.length ∨ s.store.freeList = [] → s.store.freeList ++ [b] = x :: free →
      ∃ u, requestBlock n base s = (storeLowTest u, some x) ∧ u = { s with store := u.store } ∧
        u.store.freeList = free ∧ (∀ j, j ≠ n → u.seg j = s.seg j) ∧
        u.seg n = { e with chain := (c :: r) ++ [x], trimmed := e.trimmed + 1, start := (s.store.block c).base } ∧
        (x < s.store.blocks.length → u.store.block x = { next := none, base := base, used := 0 }) ∧
        u.store.mem = s.store.mem) ∧
    (e.trigger ≠ none ∨ (e.chain.length ≤ s.seq.params.bPre ∧ (s.store.freeList ≠ [] ∨ e.chain.length ≤ 1)) →
      (s.store.freeList = [] → requestBlock n base s = (storeLowTest s, none)) ∧
      (∀ x free, s.store.freeList = x :: free →
        ∃ u, requestBlock n base s = (storeLowTest u, some x) ∧ u = { s with store := u.store } ∧
          u.store.freeList = free ∧ (∀ j, j ≠ n → u.seg j = s.seg j) ∧ u.seg n = { e with chain := e.chain ++ [x] } ∧
          (x < s.store.blocks.length → u.store.block x = { next := none, base := base, used := 0 }) ∧
          u.store.mem = s.store.mem))) ∧
  (∀ (s : State) (n : Nat) (atTrigger : Bool), s.seq.seg = some n →
    (1032 ≤ s.freePlaces n ∨ s.store.freeList ≠ [] → reserveTest atTrigger s = s) ∧
    (s.freePlaces n < 1032 → s.store.freeList = [] →
      (∀ m, s.seq.params.reclaim = .on → s.oldestEligible = some m → reserveTest atTrigger s = freeSegment m s) ∧
      (s.seq.params.reclaim ≠ .on ∨ s.oldestEligible = none →
        (atTrigger = true → reserveTest atTrigger s = storeLowTest (trimSegment n s)) ∧
        (atTrigger = false → reserveTest atTrigger s = stopNow .storeFull s))) ∧
    (∀ b, (s.seg n).chain.getLast? = some b → s.freePlaces n = 16384 - (s.store.block b).used)) ∧
  (∀ s : State, storeLowTest s =
    if s.store.armed = true ∧ s.store.freeList.length < s.store.low then
      raiseBoth .storeLow s.store.freeList.length { s with store := { s.store with armed := false } }
    else if s.store.armed = false ∧ s.store.low ≤ s.store.freeList.length then
      { s with store := { s.store with armed := true } }
    else s)

/-- R96, R97: a refresh-due event raises the debt, up to 8, and a refresh lowers it and leaves the banks IDLE. R92,
R95: the end of a read burst leaves its bank open on its row; one no longer wanted is discarded, any other brings its
requester the records of its places. R98: the order in which a grant point chooses; R93: the circular order writer,
renderer, decoder reader, measurement engine, console and tether readout, from the requester after the one last
granted. R99, R100: a writer that becomes urgent cuts a read burst in flight once it has come on a number of halfwords
that is open: one whose last halfword is on its way completes, any other leaves a remainder of the halfwords delivered
and the one on its way, and its bank OPEN or IDLE; the remainder is the requester's next burst. R102: ENTERING grants
nothing and refreshes the debt away. The model's own choices or inferences in it: log 8, log 16, log 29, log 46, log
80. -/
def Obligations.ControllerEvents : Prop :=
  (∀ s : State, s.power.pll = .locked →
    (s.mc.st = .serving ∨ s.mc.st = .entering → exec .refreshDue s = .next (conclude s { s with mc := { s.mc with
      debt := min 8 (s.mc.debt + 1), phase := (s.mc.phase + 1) % 3 } })) ∧
    (s.mc.st ≠ .serving → s.mc.st ≠ .entering → exec .refreshDue s = .next (conclude s s)) ∧
    (s.mc.flight = some .refresh → exec .refreshEnd s = .next (conclude s { s with mc := { s.mc with
      flight := none, banks := [.idle, .idle, .idle, .idle], debt := s.mc.debt - 1 } }))) ∧
  (∀ (s u : State) (b : ReadBurst) (recs : List Record), s.power.pll = .locked → s.mc.flight = some (.read b) →
    u = { s with mc := { s.mc with
      flight := none
      banks := s.mc.banks.set (b.group / 64 % 4) (.opened (16 * b.block + b.group / 256)) } } →
    (b.discard = true → exec .readBurstEnd s = .next (conclude s u)) ∧
    (b.discard = false → b.halves = [] → b.data = groupHalves s.store.mem b.block b.group 0 →
      4 * b.group + 4 ≤ b.len → s.readPlace b.req b.slot = 4 * b.group →
      recs = (List.range 4).map (fun i => Record.ofWord (readWord s.store.mem b.block (4 * b.group + i))) →
      (b.req = .renderer → exec .readBurstEnd s =
        .next (conclude s (renderRecords recs (b.len = 4 * b.group + 4) b.tail u))) ∧
      (b.req = .decoder → exec .readBurstEnd s =
        .next (conclude s (decoderRecords b.slot recs (b.len = 4 * b.group + 4) b.tail u))) ∧
      (b.req = .measure → exec .readBurstEnd s =
        .next (conclude s (measureRecords recs (b.len = 4 * b.group + 4) b.tail u))) ∧
      (∀ p, b.req = readRequester p → exec .readBurstEnd s = .next (conclude s (streamWords p b.seg
        ((List.range 4).map fun i => readWord s.store.mem b.block (4 * b.group + i)) (b.len = 4 * b.group + 4) b.tail
        u))))) ∧
  (∀ (order : List Requester) (i : Nat) (q : Requester),
    order = [.writer, .renderer, .decoder, .measure, .console, .tether] → order[i]? = some q →
    circleAfter q = order.drop (i + 1) ++ order.take (i + 1)) ∧
  (∀ s : State, s.mc.st = .serving → s.mc.flight = none →
    (8 ≤ s.mc.debt → arbitrate s = startRefresh s) ∧
    (s.mc.debt < 8 → 256 ≤ s.comp.staging.length → s.writerWants = true → arbitrate s = grantWriter s) ∧
    (s.mc.debt < 8 → (∀ q, s.wants q = false) →
      (1 ≤ s.mc.debt → arbitrate s = startRefresh s) ∧ (s.mc.debt = 0 → arbitrate s = s)) ∧
    (∀ pre q post, s.mc.debt < 8 → s.comp.staging.length < 256 → circleAfter s.mc.last = pre ++ q :: post →
      (∀ x ∈ pre, s.wants x = false) → s.wants q = true → (grant q s).mc.flight.isSome = true →
      arbitrate s = grant q s ∧ (grant q s).mc.last = q)) ∧
  (∀ (s : State) (b : ReadBurst) (i : Nat) (kept : List Half), s.mc.flight = some (.read b) →
    i = b.group / 64 % 4 → kept = b.halves ++ (if b.transferring then b.data.take (b.delivered + 1) else []) →
    (b.transferring = true → b.data.length ≤ b.delivered + 1 → cutRead s = endRead b s) ∧
    (b.transferring = false ∨ b.delivered + 1 < b.data.length → ∃ x : Bank,
      cutRead s = { s with mc := { s.mc with
        flight := none
        banks := s.mc.banks.set i x
        remainders := s.mc.remainders ++ (if b.discard then [] else
          [⟨b.req, b.slot, b.seg, b.pos, b.group, b.len, b.tail, kept⟩]) } } ∧
      (∀ row, s.mc.banks.getD i .idle = .opening row ∨ s.mc.banks.getD i .idle = .opened row → x = .opened row) ∧
      (s.mc.banks.getD i .idle = .closing ∨ s.mc.banks.getD i .idle = .idle → x = .idle))) ∧
  (∀ (s : State) (b : ReadBurst), s.mc.flight = some (.read b) → b.delivered < b.data.length →
    ∃ (banks : List Bank) (moving : Bool) (k : Nat), progress s = { s with free := s.free + 1, mc := { s.mc with
        banks := banks, flight := some (.read { b with transferring := moving, delivered := k }) } } ∧
      b.delivered ≤ k ∧ k < b.data.length ∧ (b.transferring = true → moving = true)) ∧
  (∀ before s : State, before.urgent = false → 256 ≤ s.comp.staging.length → s.mc.st = .serving →
    s.power.st ≠ .entry → s.power.pll = .locked → s.writer.seg = none ∨ s.writer.written < 16384 →
    conclude before s = finishMeasure (arbitrate (cutRead (progress s)))) ∧
  (∀ (s : State) (q : Requester) (r : Remainder) (b : Nat), (q = .decoder ∨ q = .console ∨ q = .tether) →
    s.remainder q = some r → (s.seg r.seg).trimmed ≤ r.pos → b = (s.seg r.seg).blockAt r.pos →
    ∃ (banks : List Bank) (data : List Half), grant q s = { s with mc := { s.mc with
        last := q, banks := banks, remainders := s.mc.remainders.filter (·.req ≠ q)
        flight := some (.read ⟨r.req, r.slot, r.seg, r.pos, b, r.group, r.len, r.tail, r.halves, data, false, false,
          0⟩) } } ∧
      data.length = 8 - r.halves.length ∧ ∀ i, i < data.length → data[i]? =
        some (readHalf s.store.mem (32768 * b + 8 * r.group + r.halves.length + i))) ∧
  (∀ s : State,
    (s.mc.st = .entering → s.mc.flight = none →
      (1 ≤ s.mc.debt → arbitrate s = startRefresh s) ∧ (s.mc.debt = 0 → arbitrate s = s)) ∧
    (s.mc.flight ≠ none ∨ s.mc.st = .initialising ∨ s.mc.st = .selfRefresh ∨ s.mc.st = .exiting → arbitrate s = s))

/-- R35, R109, R114, R115: a live slot consumes the first tap entry it owes, which leaves the tap with its last ower.
An unflagged BASE sets the tag, the state and the known-through tick, and decoding begins; an entry that only carries
time moves the known-through tick of a slot without sample points. R128, R135: an annotation of a live slot with a tag
joins its list's tail, and past the quota pushes the head out. An annotation of a live slot without one only feeds the
queue; an OFFLINE slot's is stored, or past the quota the slot is TRUNCATED; END, or a record past its to tick,
completes it (R110). A closing BASE behind a writer BASE of its own tick begins an SPI decoding anew in its own state,
the first tick's (R30, R115, R123). What the decoders form: WORD and SHORT_WORD of SPI, with a select or with the gap
timeout (R122 to R124), the conditions and bytes of I2C (R125, R126), VALUE of a strobe (R127). The model's own
choices or inferences in it: log 4, log 16, log 24, log 75. -/
def Obligations.TapEntryConsumed : Prop :=
  (∀ (k : Fin 4) (s : State) (pre post rest : List TapEntry) (e : TapEntry) (x : Slot), s.awake = true →
    s.seq.acq ≠ .idle → s.slots.length = 4 → s.slot k = x → x.live = true → s.tap.entries = pre ++ e :: post →
    (∀ y ∈ pre, k.val ∉ y.owed) → k.val ∈ e.owed → (∃ y ∈ post, k.val ∈ y.owed) →
    rest = pre ++ (if e.owed.filter (· ≠ k.val) = [] then post
      else { e with owed := e.owed.filter (· ≠ k.val) } :: post) →
    (∀ b st c, e.item = .base b st → e.gap = false → x.proto = some (.strobed c) →
      exec (.tapEntryConsume k) s = .next (conclude s ({ s with tap := { s.tap with entries := rest } }.setSlot k { x with
        tag := e.seg, period := none
        walk := { x.walk with cur := st, decoding := true, lossFrom := none, known := e.time, last := some e.time,
                              proto := .strobed } }))) ∧
    (∀ d c, e.item = .extend d → 1 ≤ e.time → x.walk.decoding = true → x.proto = some (.strobed c) →
      x.walk.proto = .strobed →
      exec (.tapEntryConsume k) s = .next (conclude s ({ s with tap := { s.tap with entries := rest } }.setSlot k { x with
        walk := { x.walk with known := e.time - 1, last := some e.time } })))) ∧
  (∀ (k : Fin 4) (s : State), s.awake = true → (∀ y ∈ s.tap.entries, k.val ∉ y.owed) →
    exec (.tapEntryConsume k) s = .next (conclude s s)) ∧
  (∀ (k n : Nat) (f : Formed) (s : State), (s.slot k).live = true → (s.slot k).tag = some n → f.feeds = none →
    (∀ j, s.seq.acq ≠ .hunting j) → s.render.frame ≠ .classifying →
    ((s.notesOf k).length < (s.slot k).quota →
      handOn k f s = { s with notes := s.notes.set k (s.notesOf k ++ [f.entry k n]) }) ∧
    ((s.slot k).quota ≤ (s.notesOf k).length →
      (handOn k f s).notes = s.notes.set k ((s.notesOf k).drop 1 ++ [f.entry k n]) ∧ (handOn k f s).slots = s.slots)) ∧
  (∀ (k : Nat) (f : Formed) (s : State), (s.slot k).live = true → (s.slot k).tag = none →
    (f.feeds = none → handOn k f s = s) ∧ (∀ e, f.feeds = some e → handOn k f s = queueEntry k e s)) ∧
  (∀ (k n lo hi : Nat) (f : Formed) (s u : State) (x : Slot), s.slot k = x → x.state = .running →
    x.source = some (.offline n lo hi) → k < s.slots.length →
    (s.render.frame ≠ .classifying → (s.notesOf k).length < x.quota →
      u = { s with notes := s.notes.set k (s.notesOf k ++ [f.entry k n]) } →
      (f.feeds = none → handOn k f s = u) ∧ (∀ e, f.feeds = some e → handOn k f s = queueEntry k e u)) ∧
    (x.quota ≤ (s.notesOf k).length → ∀ p, x.starter = some p →
      u = dropPin n (fun q => { q with decode := q.decode - 1 }) (withdraw .decoder k (s.setSlot k
        { x with state := .truncated, truncation := some f.start })) →
      handOn k f s = raiseStarter k .decodeDone u)) ∧
  (∀ (k n lo hi t : Nat) (r : Record) (s : State) (x : Slot) (c : StrobeCfg), s.slot k = x → x.state = .running →
    x.source = some (.offline n lo hi) → k < s.slots.length → x.proto = some (.strobed c) → t = x.reached + r.delta →
    r.isEnd = true ∨ (hi < t ∧ r.isLossEnd = false) →
    ((offlineRecord k lo hi r s).slot k).state = .done) ∧
  (∀ (k n lo hi ch : Nat) (st : Half) (s : State) (x : Slot) (c : SpiCfg), s.slot k = x → x.state = .running →
    x.source = some (.offline n lo hi) → k < s.slots.length → x.proto = some (.spi c) → c.select = some ch →
    x.reached ≤ hi → x.walk.decoding = true → st ≠ x.walk.cur → (∃ r, x.walk.proto = .spi r) →
    offlineRecord k lo hi (.base false st) s = s.setSlot k { x with walk := { x.walk with
      cur := st, lossFrom := none, known := x.reached
      proto := .spi ⟨st.getLsbD ch != c.selectHigh, [], [], 0, none⟩ } }) ∧
  (∀ (c : SpiCfg) (r : SpiRx) (was is : Half) (t : Nat) (edge : Bool) (mosi miso : List Bool) (first : Nat),
    (edge = true ↔ was.getLsbD c.clock ≠ is.getLsbD c.clock ∧
      (was.getLsbD c.clock = c.idleHigh ↔ c.leading = true)) →
    mosi = r.mosi ++ [was.getLsbD c.mosi] → first = (if r.mosi = [] then t else r.first) →
    miso = (match c.miso with
      | some m => r.miso ++ [was.getLsbD m]
      | none => []) →
    (edge = false → c.select = none → spiEdge c r was is t = (r, [])) ∧
    (edge = true → c.select = none → c.gapTimeout = 0 ∨ (∀ l, r.lastEdge = some l → t - l ≤ c.gapTimeout) →
      (mosi.length < c.wordLength → spiEdge c r was is t =
        ({ r with mosi := mosi, miso := miso, first := first, lastEdge := some t }, [])) ∧
      (c.wordLength ≤ mosi.length → spiEdge c r was is t =
        ({ r with mosi := [], miso := [], first := first, lastEdge := some t },
          [⟨6, first, t + 1, bitsValue c.msbFirst mosi, c.miso.map fun _ => bitsValue c.msbFirst miso, false, false,
            false⟩]))) ∧
    (∀ l, edge = true → c.select = none → r.lastEdge = some l → 1 ≤ c.gapTimeout → c.gapTimeout < t - l →
      r.mosi ≠ [] → 2 ≤ c.wordLength → spiEdge c r was is t =
        ({ r with mosi := [was.getLsbD c.mosi], miso := c.miso.toList.map was.getLsbD, first := t, lastEdge := some t },
          [⟨7, r.first, l + 1, bitsValue c.msbFirst r.mosi, some r.mosi.length, false, false, false⟩])) ∧
    (∀ ch l, c.select = some ch → (was.getLsbD ch = c.selectHigh) → is.getLsbD ch ≠ c.selectHigh →
      r.lastEdge = some l → r.mosi ≠ [] → spiEdge c r was is t =
        ({ r with mosi := [], miso := [], aligned := true },
          [⟨7, r.first, l + 1, bitsValue c.msbFirst r.mosi, some r.mosi.length, false, false, false⟩])) ∧
    (∀ ch, c.select = some ch → is.getLsbD ch ≠ c.selectHigh → r.mosi = [] → (spiEdge c r was is t).2 = []) ∧
    (∀ ch, c.select = some ch → r.aligned = false → r.mosi = [] → (spiEdge c r was is t).2 = []) ∧
    (∀ ch, c.select = some ch → was.getLsbD ch = c.selectHigh → is.getLsbD ch = c.selectHigh → edge = true →
      r.aligned = true →
      (mosi.length < c.wordLength → spiEdge c r was is t =
        ({ r with mosi := mosi, miso := miso, first := first, lastEdge := some t }, [])) ∧
      (c.wordLength ≤ mosi.length → spiEdge c r was is t =
        ({ r with mosi := [], miso := [], first := first, lastEdge := some t },
          [⟨6, first, t + 1, bitsValue c.msbFirst mosi, c.miso.map fun _ => bitsValue c.msbFirst miso, false, false,
            false⟩]))) ∧
    (∀ ch, c.select = some ch → was.getLsbD ch ≠ c.selectHigh → is.getLsbD ch = c.selectHigh →
      (edge = false ∨ r.aligned = false → spiEdge c r was is t = ({ r with mosi := [], miso := [] }, [])) ∧
      (edge = true → r.aligned = true → 2 ≤ c.wordLength → spiEdge c r was is t =
        ({ r with mosi := [was.getLsbD c.mosi], miso := c.miso.toList.map was.getLsbD, first := t, lastEdge := some t },
          []))) ∧
    (∀ ch, c.select = some ch → was.getLsbD ch ≠ c.selectHigh → is.getLsbD ch ≠ c.selectHigh →
      spiEdge c r was is t = (r, [])) ∧
    (∀ ch, c.select = some ch → was.getLsbD ch = c.selectHigh → is.getLsbD ch = c.selectHigh →
      edge = false ∨ r.aligned = false → spiEdge c r was is t = (r, []))) ∧
  (∀ bits : List Bool, bitsValue true bits = (bits.reverse.zipIdx.map fun x => x.1.toNat * 2 ^ x.2).sum ∧
    bitsValue false bits = (bits.zipIdx.map fun x => x.1.toNat * 2 ^ x.2).sum) ∧
  (∀ (c : I2cCfg) (r : I2cRx) (was is : Half) (t v : Nat) (err : List Formed),
    err = (if r.bits = [] then [] else [⟨13, r.first, t + 1, r.bits.length, none, false, false, false⟩]) →
    (was.getLsbD c.scl = true → is.getLsbD c.scl = true → was.getLsbD c.sda = true → is.getLsbD c.sda = false →
      i2cEdge c r was is t = (⟨true, [], 0, true, false⟩,
        if r.active then err ++ [⟨9, t, t + 1, 0, none, false, false, false⟩]
        else [⟨8, t, t + 1, 0, none, false, false, false⟩])) ∧
    (was.getLsbD c.scl = true → is.getLsbD c.scl = true → was.getLsbD c.sda = false → is.getLsbD c.sda = true →
      r.active = true → i2cEdge c r was is t =
        (⟨false, [], 0, false, false⟩, err ++ [⟨12, t, t + 1, 0, none, false, false, false⟩])) ∧
    (was.getLsbD c.scl = false → is.getLsbD c.scl = true → r.active = true →
      (r.bits.length < 8 → i2cEdge c r was is t = ({ r with
        bits := r.bits ++ [was.getLsbD c.sda], first := if r.bits = [] then t else r.first }, [])) ∧
      (8 ≤ r.bits.length → v = bitsValue true r.bits →
        (r.isAddress = true → i2cEdge c r was is t =
          ({ r with bits := [], isAddress := false, read := decide (v % 2 = 1) },
            [⟨10, r.first, t + 1, v / 2, none, decide (v % 2 = 1), !(was.getLsbD c.sda), false⟩])) ∧
        (r.isAddress = false → i2cEdge c r was is t =
          ({ r with bits := [] }, [⟨11, r.first, t + 1, v, none, r.read, !(was.getLsbD c.sda), false⟩])))) ∧
    (r.active = false → was.getLsbD c.sda = is.getLsbD c.sda → i2cEdge c r was is t = (r, []))) ∧
  (∀ (c : StrobeCfg) (was is : Half) (t : Nat),
    strobeEdge c was is t =
      if (was.getLsbD c.strobe = false ∧ is.getLsbD c.strobe = true ∧ c.edge ≠ .fall) ∨
          (was.getLsbD c.strobe = true ∧ is.getLsbD c.strobe = false ∧ c.edge ≠ .rise) then
        [⟨14, t, t + 1, ((c.data.map was.getLsbD).zipIdx.map fun x => x.1.toNat * 2 ^ x.2).sum, none, false, false,
          false⟩]
      else [])

/-! ## Events: the display -/

/-- R154, R156, R157, R177, R181: CLASSIFY's end puts the new cells into the trace table and marks the bands of each
row whose cells changed, or of every row when a cursor's columns did (R167). The dirty set is the hand-off: an empty
one, or a panel that does not show, completes the frame, which starts the next when the frame-again flag is set
(R153); otherwise the frame is EMITTING, and the emission waits for a TE event or starts at once by the TE use (R178).
A TE event clears the TE-missing flag, restarts the watch, lets a waiting emission start and marks a running one torn.
A TE event and the live timer raise the live count; at the divider the live condition requests a frame and clears the
count. The watch's expiry sets the TE-missing flag and raises PANEL_EVENT. CLASSIFY's reading (R156): it is done at a
record at or past the frame's last column, past the end tick, or at the END, or at the last record of the chain. A
column's class (R160, R161): OUTSIDE the segment; UNKNOWN when a loss touches its span; else EDGE for the channels
that change inside it, HIGH or LOW by the state in force at its start. An ANNOTATION row shows the last selected entry
that covers a column, hatched for kinds 1, 3, 4 and 13, with the digits of its label (R164, R165). The model's own
choices or inferences in it: log 4, log 16, log 25, log 56, log 59, log 81. -/
def Obligations.RendererEvents : Prop :=
  (∀ s : State, s.awake = true → s.render.frame = .classifying →
    (s.render.reader.done = false → exec .classifyEnd s = .next (conclude s s)) ∧
    (∀ (l : Latch) (drawn : Option Nat → List Nat), s.render.reader.done = true → l = s.render.latch →
      (∀ cur, drawn cur = match cur with
        | none => []
        | some a => (List.range 300).filter fun c => colEdge l.t0 l.scale c ≤ a ∧ a < colEnd l.t0 l.scale c) →
      (∀ b, s.panel.bus ≠ .band b) → s.render.trace.length = 20 → l.layout.length ≤ 20 →
      ∃ (dirty : List Nat) (u : State), dirty.Pairwise (· < ·) ∧
        (∀ b, b ∈ dirty ↔ b < 15 ∧ (b ∈ s.render.dirty ∨ ∃ i row y, l.layout[i]? = some row ∧
          y = ((l.layout.take i).map (·.height)).sum ∧ y < 16 * b + 16 ∧ 16 * b < y + row.height ∧
          (drawn l.cursorA ≠ s.render.drawnA ∨ drawn l.cursorB ≠ s.render.drawnB ∨
            (newTrace s)[i]? ≠ s.render.trace[i]?))) ∧
        u = { s with render := { s.render with
          trace := newTrace s, dirty := dirty, drawnA := drawn l.cursorA, drawnB := drawn l.cursorB
          reader := { s.render.reader with walks := (List.range 4).map s.finishedWalk } } } ∧
        (dirty = [] ∨ s.panel.st ≠ .showing → exec .classifyEnd s = .next (conclude s (completeFrame u))) ∧
        (dirty ≠ [] → s.panel.st = .showing →
          (s.panel.bus ≠ .idle ∨ (s.panel.teUsed = true ∧ s.panel.teMissing = false ∧ s.panel.waiting = [] ∧
            s.panel.queue = [])) → exec .classifyEnd s = .next (conclude s { u with
              render := { u.render with frame := .emitting }
              panel := { u.panel with
                handOff := dirty, tornMark := false
                emission := if s.panel.teUsed = true ∧ s.panel.teMissing = false then .waiting false
                  else .emitting } })) ∧
        (∀ b rest r, dirty = b :: rest → s.panel.st = .showing → s.panel.bus = .idle → s.panel.setup = some r →
          s.panel.teUsed = false ∨ s.panel.teMissing = true → s.panel.waiting = [] → s.panel.changes = [] →
          bandWindows s.panel.overlays b ≠ [] → exec .classifyEnd s = .next (conclude s { u with
            render := { u.render with frame := .emitting }
            panel := { u.panel with
              handOff := dirty, tornMark := false, emission := .emitting, bus := .band b, remarked := false
              out := bandTransfers u r b } })))) ∧
  (∀ s u : State,
    u = { s with render := { s.render with completed := (s.render.completed + 1) % 65536, frame := .idle } } →
    (s.render.again = false ∨ s.power.st = .entry → completeFrame s = u) ∧
    (s.render.again = true → s.power.st ≠ .entry →
      completeFrame s = requestFrame { u with render := { u.render with again := false } })) ∧
  (∀ (rising : Bool) (s : State), s.awake = true → s.panel.st = .showing → s.panel.bus ≠ .idle →
    s.render.liveCount + 1 < s.render.divider →
    (∀ r, s.panel.setup = some r → r.teUsed = .on → (rising = true ↔ r.tePolarity = 0) →
      exec (.teEvent rising) s = .next (conclude s { s with
        panel := { s.panel with
          teMissing := false, teTimer := true
          emission := if s.panel.emission = .waiting false then .waiting true else s.panel.emission
          tornMark := s.panel.tornMark || s.panel.emission = .emitting }
        render := { s.render with liveCount := s.render.liveCount + 1 } })) ∧
    (∀ r, s.panel.setup = some r → r.teUsed ≠ .on ∨ ¬(rising = true ↔ r.tePolarity = 0) →
      exec (.teEvent rising) s = .next s)) ∧
  (∀ s : State, s.awake = true → s.panel.st = .showing → s.panel.teUsed = false ∨ s.panel.teMissing = true →
    (s.render.liveCount + 1 < s.render.divider → exec .liveTimerExpiry s =
      .next (conclude s { s with render := { s.render with liveCount := s.render.liveCount + 1 } })) ∧
    (s.render.divider ≤ s.render.liveCount + 1 →
      (s.liveCondition = false → exec .liveTimerExpiry s =
        .next (conclude s { s with render := { s.render with liveCount := s.render.divider } })) ∧
      (s.liveCondition = true → exec .liveTimerExpiry s =
        .next (conclude s (requestFrame { s with render := { s.render with liveCount := 0 } }))))) ∧
  (∀ s : State, s.awake = true → s.panel.st = .showing → s.panel.bus ≠ .idle →
    (s.panel.teTimer = false → exec .teMissingTimeout s = .next s) ∧
    (s.panel.teTimer = true → (∀ g, s.panel.emission ≠ .waiting g) → exec .teMissingTimeout s =
      .next (conclude s (raiseBoth .panelEvent 1
        { s with panel := { s.panel with teMissing := true, teTimer := false } }))) ∧
    (∀ g, s.panel.teTimer = true → s.panel.emission = .waiting g → exec .teMissingTimeout s =
      .next (conclude s (raiseBoth .panelEvent 1 { s with panel := { s.panel with
        teMissing := true, teTimer := false, emission := .emitting, tornMark := false } })))) ∧
  (∀ (r : Record) (rs : List Record) (last stop t : Nat) (d a : Reader), t = d.time + r.delta →
    a = { d with time := t, place := d.place + 1 } →
    (last ≤ t ∨ stop < t → Reader.read last stop (r :: rs) d = { a with done := true }) ∧
    (t < last → t ≤ stop → r.isEnd = true →
      Reader.read last stop (r :: rs) d = { a with recs := d.recs ++ [⟨t, r⟩], done := true }) ∧
    (t < last → t ≤ stop → r.isEnd = false →
      Reader.read last stop (r :: rs) d = Reader.read last stop rs { a with recs := d.recs ++ [⟨t, r⟩] })) ∧
  (∀ (last stop : Nat) (d : Reader), Reader.read last stop [] d = d) ∧
  (∀ (recs : List Record) (full tail : Bool) (s : State) (l : Latch) (d : Reader), l = s.render.latch →
    d = Reader.read (colEnd l.t0 l.scale 299) l.stop recs s.render.reader →
    (d.done = true ∨ full = false →
      renderRecords recs full tail s = { s with render := { s.render with reader := d } }) ∧
    (d.done = false → full = true → tail = true →
      renderRecords recs full tail s = { s with render := { s.render with reader := { d with done := true } } }) ∧
    (d.done = false → full = true → tail = false → renderRecords recs full tail s =
      { s with render := { s.render with reader := { d with pos := some (d.pos.getD 0 + 1), place := 0 } } })) ∧
  (∀ (recs : List TimedRec) (start stop a b lo hi : Nat), lo = max a start → hi = min b stop →
    (hi ≤ lo → colData recs start stop a b = .outside) ∧
    (∀ pre mid post t1 t2 d1 d2 a1 v, lo < hi →
      recs = pre ++ ⟨t1, .mark d1 .lossBegin a1⟩ :: (mid ++ ⟨t2, .mark d2 .lossEnd v⟩ :: post) →
      (∀ x ∈ pre, x.item.state?.isSome = true) → (∀ x ∈ mid, x.item.state?.isSome = true) → t1 < hi → lo < t2 →
      colData recs start stop a b = .unknown) ∧
    (∀ pre post t1 d1 a1, lo < hi → recs = pre ++ ⟨t1, .mark d1 .lossBegin a1⟩ :: post →
      (∀ x ∈ pre, x.item.state?.isSome = true) → (∀ x ∈ post, x.item.isLossEnd = false) → t1 < hi →
      colData recs start stop a b = .unknown) ∧
    (lo < hi → (∀ x ∈ recs, x.item.state?.isSome = true ∨ (∃ d, x.item = .extend d) ∨ x.item.isEnd = true) →
      ∃ edges st : Half, colData recs start stop a b = .known edges st ∧
        (∀ pre x post s0, recs = pre ++ x :: post → x.item.state? = some s0 → x.time ≤ lo →
          (∀ y ∈ post, y.item.state? = none ∨ lo < y.time) → st = s0) ∧
        (∀ k, edges.getLsbD k = true ↔ ∃ pre t d is post, recs = pre ++ ⟨t, .trans d is⟩ :: post ∧ lo < t ∧ t < hi ∧
          ((pre.filterMap fun (x : TimedRec) => x.item.state?).getLast?.getD 0).getLsbD k ≠ is.getLsbD k))) ∧
  (∀ (k : Nat) (edges st : Half), ColData.outside.cell k = .outside ∧ ColData.unknown.cell k = .unknown ∧
    (ColData.known edges st).cell k =
      if edges.getLsbD k then .edge else if st.getLsbD k then .high else .low) ∧
  (∀ (s : State) (l : Latch) (d : Reader) (i : Nat) (row : Row), l = s.render.latch → d = s.render.reader →
    (l.layout[i]? = some row →
      (row.kind = .blank → (newTrace s)[i]? = some (List.replicate 300 .none)) ∧
      (∀ k, row.kind = .channel k → l.seg = none → (newTrace s)[i]? = some (List.replicate 300 .outside)) ∧
      (∀ k n, row.kind = .channel k → l.seg = some n → d.frozen = [] → (newTrace s)[i]? = some ((List.range 300).map
        fun c => (colData d.recs d.frameStart l.stop (colEdge l.t0 l.scale c) (colEnd l.t0 l.scale c)).cell k)) ∧
      (∀ k sel, row.kind = .annotation k → s.walkOf k = NoteWalk.head →
        sel = (s.notesOf k).filter (fun e => l.seg = some e.seg ∧ e.start < colEnd l.t0 l.scale 299 ∧
          colEdge l.t0 l.scale 0 < e.stop) →
        ∃ cells : List Cell, (newTrace s)[i]? = some cells ∧ cells.length = 300 ∧ ∀ c, c < 300 →
          ((∀ e ∈ sel, e.stop ≤ colEdge l.t0 l.scale c ∨ colEnd l.t0 l.scale c ≤ e.start) → cells[c]? = some .none) ∧
          (∀ pre e post, sel = pre ++ e :: post → colEdge l.t0 l.scale c < e.stop → e.start < colEnd l.t0 l.scale c →
            (∀ x ∈ post, x.stop ≤ colEdge l.t0 l.scale c ∨ colEnd l.t0 l.scale c ≤ x.start) →
            ∃ label, cells[c]? = some (.bar (decide (e.kind ∈ [1, 3, 4, 13])) label) ∧
              ∀ (cols : List Nat) (n digits first : Nat),
                cols = (List.range 300).filter (fun x => colEdge l.t0 l.scale x < e.stop ∧
                  e.start < colEnd l.t0 l.scale x) → n = cols.length →
                digits = (if e.value ≤ 0xFF then 2 else if e.value ≤ 0x1FF then 3 else 4) →
                first = cols.headD 0 + (n - 6 * digits) / 2 →
                (6 * digits + 2 ≤ n → 9 ≤ row.height → first ≤ c → c < first + 6 * digits →
                  label = some (e.value / 16 ^ (digits - 1 - (c - first) / 6) % 16, (c - first) % 6)) ∧
                (pre = [] → n < 6 * digits + 2 ∨ row.height < 9 ∨ c < first ∨ first + 6 * digits ≤ c →
                  label = none)))) ∧
    (l.layout.length ≤ i → i < 20 → (newTrace s)[i]? = some (List.replicate 300 .none)))

/-- R168, R172 to R174, R178, R182, R184: the ends of what the panel bus carries. A band written leaves the hand-off
list and, unless marked again, the dirty set; the next one follows, and the last completes the frame. A chunk's pixels
leave their run. A change replaces its overlay, drops its id's runs, marks the bands with a plot pixel it uncovers and
requests a frame (R168); a change waits for the bus (log 82). INIT_DELAY_END says that the commands before that delay
have been sent, and the entries after it follow; PANEL_START_DONE that the rest and the display-on command have, and
the panel reaches SHOWING with every band dirty, no overlay and no pixels; a wake's end reaches SHOWING. A wake that
was abandoned while it waited sends its sleep-out command before the sequence behind it (the model's choice, log 28).
The model's own choices or inferences in it: log 16, log 28, log 40, log 45, log 82. -/
def Obligations.PanelBusEvents : Prop :=
  (∀ (s : State) (b : Nat), s.awake = true → s.panel.bus = .band b → s.panel.emission = .emitting →
    s.panel.leaving = false → s.panel.waiting = [] → s.panel.changes = [] → s.panel.queue = [] →
    (∀ b2 rest, s.panel.handOff.filter (· ≠ b) = b2 :: rest → bandWindows s.panel.overlays b2 ≠ [] →
      ∃ t, exec .bandWritten s = .next (conclude s t) ∧ t.panel.bus = .band b2 ∧ t.panel.handOff = b2 :: rest ∧
        (∀ r, s.panel.setup = some r → t.panel.out = bandTransfers s r b2) ∧
        t.panel.emission = .emitting ∧ t.render.frame = s.render.frame ∧
        t.render.dirty = if s.panel.remarked then s.render.dirty else s.render.dirty.filter (· ≠ b)) ∧
    (s.panel.handOff.filter (· ≠ b) = [] → s.render.again = false →
      ∃ t, exec .bandWritten s = .next (conclude s t) ∧ t.panel.bus = .idle ∧ t.panel.handOff = [] ∧
        t.panel.emission = .idle ∧ t.render.frame = .idle ∧ t.render.completed = (s.render.completed + 1) % 65536 ∧
        t.panel.torn = (if s.panel.tornMark then satSucc 65535 s.panel.torn else s.panel.torn) ∧
        t.render.dirty = if s.panel.remarked then s.render.dirty else s.render.dirty.filter (· ≠ b))) ∧
  (∀ (s : State) (n : Nat) (r : PixelRun) (rest : List PixelRun), s.awake = true → s.panel.bus = .chunk n →
    s.panel.queue = r :: rest → s.panel.emission = .idle → s.panel.waiting = [] → s.panel.changes = [] →
    ∃ t, exec .overlayChunkEnd s = .next (conclude s t) ∧
      t.panel.queue = (if r.pixels.length ≤ n then rest
        else { r with offset := r.offset + n, pixels := r.pixels.drop n } :: rest) ∧
      (s.panel.st ≠ .showing ∨ t.panel.queue = [] → t.panel.bus = .idle) ∧
      (∀ q l, s.panel.st = .showing → t.panel.queue = q :: l → t.panel.bus = .chunk (min 256 q.pixels.length) ∧
        ∀ o p, s.panel.overlays.getD q.id none = some o → s.panel.setup = some p →
          t.panel.out = chunkTransfers p o 256 q.offset (q.pixels.take 256))) ∧
  (∀ (s : State) (c : OverlayChange) (rest : List OverlayChange), s.awake = true → s.panel.bus = .idle →
    s.panel.changes = c :: rest → s.panel.emission = .idle → s.panel.waiting = [] →
    s.panel.queue = [] ∨ s.panel.st ≠ .showing →
    ∃ t, exec .overlayChangeApply s = .next (conclude s t) ∧ t.panel.overlays = s.panel.overlays.set c.id c.rect ∧
      t.panel.queue = s.panel.queue.filter (fun r => r.id ≠ c.id) ∧ t.panel.changes = rest ∧
      (s.render.frame ≠ .idle ∨ s.power.st = .entry → (∀ b ∈ s.render.dirty, b < 15) → t.render.again = true ∧
        ∀ b, b ∈ t.render.dirty ↔ b ∈ s.render.dirty ∨ (b < 15 ∧
          ∃ o x y, s.panel.overlays.getD c.id none = some o ∧ y / 16 = b ∧ 20 ≤ x ∧ o.x ≤ x ∧ x < o.x + o.w ∧
            o.y ≤ y ∧ y < o.y + o.h ∧ ∀ q, some q ∈ t.panel.overlays →
              x < q.x ∨ q.x + q.w ≤ x ∨ y < q.y ∨ q.y + q.h ≤ y)) ∧
      (s.render.frame = .idle → s.power.st ≠ .entry → t.render.frame = .classifying) ∧
      (∀ tag, c.reply = some (asking .console 31 tag) → t.ports.conService = none ∧ t.ports.conReplies =
        s.ports.conReplies ++ [{ kind := 31, tag := tag, status := .ok, body := .none, last := false }])) ∧
  (∀ (s : State) (r : PanelSetup) (cmds : List (Byte × List Byte)) (left : List InitEntry) (sent : List Transfer),
    s.awake = true → s.panel.setup = some r → left = cmds.map (fun c => InitEntry.command c.1 c.2) →
    sent = cmds.flatMap (fun c => .command c.1 :: c.2.map fun b => .data (b.setWidth 16)) →
    (∀ ms rest, s.panel.bus = .start (left ++ .delay ms :: rest) →
      exec .initDelayEnd s = .next (conclude s { s with panel := { s.panel with
        bus := .start rest, out := s.panel.out ++ sent } }) ∧
      exec .panelStartDone s = .next (conclude s s)) ∧
    (s.panel.bus = .start left → exec .initDelayEnd s = .next (conclude s s)) ∧
    (s.panel.bus = .start left → s.panel.emission = .idle → s.panel.waiting = [] → s.panel.changes = [] →
      ∃ t, exec .panelStartDone s = .next (conclude s t) ∧ t.panel.st = .showing ∧
        t.panel.bus = .idle ∧ t.panel.out = s.panel.out ++ sent ++ [.command r.displayOn] ∧
        t.panel.overlays = [none, none, none, none] ∧ t.panel.queue = [] ∧
        t.panel.teTimer = s.panel.teUsed ∧ t.render.dirty = List.range 15 ∧
        (s.render.frame = .idle → s.power.st ≠ .entry → t.render.frame = .classifying)) ∧
    (∀ rest, s.panel.bus = .idle → s.panel.emission = .idle → s.panel.waiting = .start :: rest → s.panel.changes = [] →
      busBoundary false s = { s with panel := { s.panel with waiting := rest, out := [], bus := .start r.init } }) ∧
    (∀ rest, s.panel.bus = .idle → s.panel.emission = .idle → s.panel.changes = [] →
      (s.panel.waiting = .sleepOut :: .off :: rest → busBoundary false s = { s with panel := { s.panel with
        waiting := rest, out := [.command r.sleepOut, .command r.displayOff, .command r.sleepIn], bus := .off } }) ∧
      (s.panel.waiting = .sleepOut :: .sleepIn :: rest → busBoundary false s = { s with panel := { s.panel with
        waiting := rest, out := [.command r.sleepOut, .command r.sleepIn], bus := .sleepIn } }))) ∧
  (∀ s : State, s.awake = true → s.panel.emission = .idle → s.panel.waiting = [] → s.panel.changes = [] →
    (s.panel.queue = [] →
      (s.panel.bus = .off → exec .offSequenceEnd s =
        .next (conclude s { s with panel := { s.panel with bus := .idle } })) ∧
      (s.panel.bus = .sleepIn → exec .sleepInEnd s =
        .next (conclude s { s with panel := { s.panel with bus := .idle } })) ∧
      (s.panel.bus = .wakeDelay → ∃ t, exec .wakeDelayEnd s = .next (conclude s t) ∧ t.panel.st = .showing ∧
        t.panel.bus = .idle ∧ t.panel.overlays = s.panel.overlays ∧ t.panel.teTimer = s.panel.teUsed ∧
        (s.render.frame = .idle → s.power.st ≠ .entry → t.render.frame = .classifying))))

/-! ## Events: power -/

/-- R8, R89, R204, R205: a full reset gives every item its reset value and keeps the levels of the input pins, the
cause naming the event; power applied also empties the SDRAM, and in SHUTDOWN the pin does nothing (the model's
inference, log 19). Release starts the PLL and opens the windows of pods whose line disagrees. The lock starts the 200
µs wait, its end the SDRAM commands, their end SERVING, RUN and the first battery sample (log 38). A comparator just
powered begins HIGH when its input is above the threshold (at it LOW, log 47), one that was powered keeps its
hysteresis (R7). The model's own choices or inferences in it: log 1, log 2, log 4, log 7, log 15, log 16, log 19, log
32, log 36, log 38, log 43, log 44, log 47. -/
def Obligations.StartUp : Prop :=
  (∀ (s r : State) (m : Memory) (cause : ResetCause), r = { State.reset with
      fe := { FrontEnd.reset with pod0 := { Pod.reset with sense := s.fe.pod0.sense }
                                  pod1 := { Pod.reset with sense := s.fe.pod1.sense } }
      store := { Store.reset with mem := m }
      ports := { Ports.reset with vbus := s.ports.vbus, conOut := s.ports.conOut, tethOut := s.ports.tethOut }
      power := { Power.reset with cause := cause, charger := s.power.charger }
      free := s.free
      pending := s.pending } →
    (m = [] → cause = .powerOn → exec .powerOn s = .next r) ∧
    (s.power.st ≠ .shutdown → m = s.store.mem → cause = .pin → exec .resetPin s = .next r)) ∧
  (∀ s : State, s.power.st = .shutdown → exec .resetPin s = .next s) ∧
  (∀ (now : Nat) (s : State), s.power.inReset = true → s.power.st = .startup → exec (.resetRelease now) s = .next { s with
    power := { s.power with inReset := false, pll := .starting }
    fe := { s.fe with
      pod0 := { s.fe.pod0 with window := if s.fe.pod0.sense = s.fe.pod0.present then none else some now }
      pod1 := { s.fe.pod1 with window := if s.fe.pod1.sense = s.fe.pod1.present then none else some now } } }) ∧
  (∀ s : State, s.power.pll = .starting →
    (s.power.st = .startup → exec .pllLock s = .next { s with
      power := { s.power with pll := .locked }, mc := { s.mc with init := .wait } }) ∧
    (s.power.st = .wakeup → exec .pllLock s = .next { s with
      power := { s.power with pll := .locked }, mc := { s.mc with st := .exiting } })) ∧
  (∀ s : State, s.power.pll ≠ .starting → exec .pllLock s = .next s) ∧
  (∀ s : State, s.mc.st = .initialising → s.mc.init = .wait →
    exec .initWaitEnd s = .next { s with mc := { s.mc with init := .commands } }) ∧
  (∀ (v : List Int) (batt : Nat) (s : State), s.mc.st = .initialising → s.mc.init = .commands →
    s.power.low ≤ batt → s.power.cutoff ≤ batt → s.power.lowArmed = true →
    exec (.sdramInitDone v batt) s = .next (conclude s { s with
      mc := { s.mc with st := .serving, banks := [.idle, .idle, .idle, .idle], debt := 0, phase := 0 }
      store := { s.store with available := true }
      fe := s.fe.powerUp v
      ports := { s.ports with attn := decide (s.ports.con.alerts ≠ []) }
      power := { s.power with st := .run, reading := some batt } })) ∧
  (∀ (f : FrontEnd) (v : List Int) (k : Nat) (pod : Pod) (th : Int), k < 16 → pod = f.pod (if k < 8 then 0 else 1) →
    th = effectiveThreshold pod.code →
    (f.powerUp v).pod0.powered = true ∧ (f.powerUp v).pod1.powered = true ∧
    (pod.powered = false → ((f.powerUp v).levels.getLsbD k = true ↔ th < v.getD k 0)) ∧
    (pod.powered = true → (f.powerUp v).levels.getLsbD k = (f.compare v).levels.getLsbD k))

/-- R15, R102, R103, R206, R208: self-refresh is entered with nothing in flight and no debt; the part is then DORMANT
with the PLL stopped, only the watched pod powered and the wake timer running when it was set, or wakes at once for a
cause that waits. At the exit the controller serves, the part is in RUN with both pods powered, the live count is 0
and WOKEN carries the causes. The watch detector starts at the level of its channel, unless the sense line of its pod
already shows it detached. The model's own choices or inferences in it: log 4, log 16, log 34. -/
def Obligations.SelfRefreshPassages : Prop :=
  (∀ (batt : Nat) (s d : State), s.power.st = .entry → s.mc.st = .entering → s.mc.flight = none → s.mc.debt = 0 →
    d = { s with
      mc := { s.mc with st := .selfRefresh, banks := [.idle, .idle, .idle, .idle] }
      fe := s.fe.sleep
      power := { s.power with st := .dormant, pll := .stopped, timerOn := decide (s.power.timer ≠ 0) } } →
    (s.power.wake = WakeSet.empty → exec (.selfRefreshEntered batt) s = .next d) ∧
    (s.power.wake ≠ WakeSet.empty → exec (.selfRefreshEntered batt) s = .next (beginWake batt d))) ∧
  (∀ f : FrontEnd, f.watch = none ∨ (∃ c e, f.watch = some (c, e) ∧ (f.pod (if c < 8 then 0 else 1)).present = false) →
    f.sleep = { f with
      pod0 := { f.pod0 with powered := false, window := none }
      pod1 := { f.pod1 with powered := false, window := none }, detector := none }) ∧
  (∀ (f : FrontEnd) (c : Nat) (e : EdgeKind), f.watch = some (c, e) →
    (c < 8 → f.pod0.present = true → f.sleep = { f with
      pod0 := { f.pod0 with powered := true, window := none }
      pod1 := { f.pod1 with powered := false, window := none }
      detector := if f.pod0.sense then some (f.levels.getLsbD c) else none }) ∧
    (8 ≤ c → f.pod1.present = true → f.sleep = { f with
      pod0 := { f.pod0 with powered := false, window := none }
      pod1 := { f.pod1 with powered := true, window := none }
      detector := if f.pod1.sense then some (f.levels.getLsbD c) else none })) ∧
  (∀ (batt : Nat) (s : State), s.mc.flight ≠ none ∨ s.mc.debt ≠ 0 → exec (.selfRefreshEntered batt) s = .next s) ∧
  (∀ (v : List Int) (now : Nat) (s : State), s.power.st = .wakeup → s.mc.st = .exiting → s.power.tetherReset = false →
    s.ports.con.level .woken ≠ .off →
    ∃ t, exec (.selfRefreshExited v now) s = .next (conclude s t) ∧ t.power.st = .run ∧
      t.mc = { s.mc with st := .serving, banks := [.idle, .idle, .idle, .idle], debt := 0, phase := 0 } ∧
      t.fe = s.fe.wake v now ∧ t.fe.pod0.powered = true ∧ t.fe.pod1.powered = true ∧ t.fe.detector = none ∧
      t.render.liveCount = 0 ∧ ∃ a ∈ t.ports.con.alerts, a.kind = .woken ∧ a.arg = s.power.wake.arg)

/-- R15, R187, R192, R207, R208, R210: in DORMANT the comparators of the pod kept powered follow their inputs, and a
matching edge of the watched channel, the wake timer, a change of the charger, a chip-select assertion, a bus resume
and a bus reset each join the wake set and begin the wake, whose battery check leads to WAKEUP with the PLL starting,
or to SHUTDOWN. In RUN a charger change is no cause. A resume of a SUSPENDED link makes it CONFIGURED as well, and
what its endpoint had room for runs on. The model's own choices or inferences in it: log 4, log 15, log 16, log 33,
log 34, log 77. -/
def Obligations.WakeCauses : Prop :=
  (∀ (batt : Nat) (s : State),
    (s.power.cutoff ≤ batt ∨ s.power.charger = true → beginWake batt s = { s with power := { s.power with
      st := .wakeup, timerOn := false, reading := some batt, pll := .starting } }) ∧
    (batt < s.power.cutoff → s.power.charger = false → beginWake batt s = { s with power := { s.power with
      st := .shutdown, timerOn := false, reading := some batt, pll := .stopped, powerHold := false, grace := none } })) ∧
  (∀ (batt : Nat) (s : State), s.power.st = .dormant →
    (∀ v : List Int, ∃ lv : Half,
      (∀ (j : Nat) (pod : Pod) (th : Int), j < 16 → pod = s.fe.pod (if j < 8 then 0 else 1) →
        th = effectiveThreshold pod.code →
        (pod.powered = false → lv.getLsbD j = s.fe.levels.getLsbD j) ∧
        (pod.powered = true → lv.getLsbD j =
          if s.fe.levels.getLsbD j then decide (th - 50 ≤ v.getD j 0) else decide (th + 50 < v.getD j 0))) ∧
      (s.fe.detector = none ∨ s.fe.watch = none →
        exec (.watchEdge v batt) s = .next { s with fe := { s.fe with levels := lv } }) ∧
      (∀ was c kind (now edge : Bool), s.fe.detector = some was → s.fe.watch = some (c, kind) → now = lv.getLsbD c →
        (edge = true ↔ (was = false ∧ now = true ∧ kind ≠ .fall) ∨ (was = true ∧ now = false ∧ kind ≠ .rise)) →
        (edge = true → exec (.watchEdge v batt) s = .next (beginWake batt { s with
          fe := { s.fe with levels := lv, detector := some now }
          power := { s.power with wake := { s.power.wake with watch := true } } })) ∧
        (edge = false → exec (.watchEdge v batt) s =
          .next { s with fe := { s.fe with levels := lv, detector := some now } }))) ∧
    (s.power.timerOn = true → exec (.wakeTimerExpiry batt) s = .next (beginWake batt { s with
      power := { s.power with wake := { s.power.wake with timer := true } } })) ∧
    (s.power.timerOn = false → exec (.wakeTimerExpiry batt) s = .next s) ∧
    (exec (.chipSelectAssertion batt) s = .next (beginWake batt { s with
      ports := { s.ports with outFrame := some (.none true s.ports.conService.isSome s.ports.con.alerts.length) }
      power := { s.power with wake := { s.power.wake with console := true } } })) ∧
    (s.ports.vbus = true → s.ports.link ≠ .suspended → exec (.usbResume batt) s = .next (conclude s (beginWake batt { s with
      power := { s.power with wake := { s.power.wake with tether := true } } }))) ∧
    (s.ports.vbus = true → s.ports.link = .suspended → exec (.usbResume batt) s = .next (conclude s (beginWake batt
      { pumpTether { s with ports := { s.ports with link := .configured, resuming := false } } with
        power := { s.power with wake := { s.power.wake with tether := true } } }))) ∧
    (s.ports.vbus = true → exec (.usbBusReset batt) s = .next (conclude s (beginWake batt { s with
      power := { s.power with tetherReset := true, wake := { s.power.wake with tether := true } } })))) ∧
  (∀ (present : Bool) (batt : Nat) (s : State),
    (s.power.charger = present → exec (.chargerSenseChange present batt) s = .next s) ∧
    (s.power.charger ≠ present → s.power.st = .run → exec (.chargerSenseChange present batt) s = .next { s with
      power := { s.power with charger := present, grace := if present then none else s.power.grace } }) ∧
    (s.power.charger ≠ present → s.power.st = .dormant → exec (.chargerSenseChange present batt) s =
      .next (beginWake batt { s with power := { s.power with
        charger := present, grace := if present then none else s.power.grace
        wake := { s.power.wake with charger := true } } })))

/-- R209, R210: a sample in RUN replaces the reading. Below LOW an armed test raises BATTERY_LOW and disarms; more
than 50 mV above LOW it arms again. Below CUTOFF without a charger the cutoff sequence stops the capture, the slots,
the measurement and the console stream, raises BATTERY_CUTOFF and starts the grace, whose end is SHUTDOWN. There the
SDRAM is in self-refresh (R203). The model's own choices or inferences in it: log 4, log 16, log 37, log 62, log 84.
-/
def Obligations.BatteryAndGrace : Prop :=
  (∀ (v : Nat) (s : State), s.power.st = .run → s.power.grace = none →
    s.power.cutoff ≤ v ∨ s.power.charger = true →
    (s.power.lowArmed = true → s.power.low ≤ v → exec (.batterySample v) s =
      .next (conclude s { s with power := { s.power with reading := some v } })) ∧
    (s.power.lowArmed = true → v < s.power.low → exec (.batterySample v) s =
      .next (conclude s (raiseBoth .batteryLow v { s with power := { s.power with
        reading := some v, lowArmed := false } }))) ∧
    (s.power.lowArmed = false → exec (.batterySample v) s = .next (conclude s { s with power := { s.power with
      reading := some v, lowArmed := decide (s.power.low + 50 < v) } }))) ∧
  (∀ (v : Nat) (s : State), s.power.st = .run → s.power.grace = none → v < s.power.cutoff → s.power.charger = false →
    s.slots.length = 4 → s.ports.con.level .batteryCutoff ≠ .off →
    ∃ t, exec (.batterySample v) s = .next (conclude s t) ∧ t.power.grace = some 2000 ∧ t.power.reading = some v ∧
      t.seq.acq.sampling = false ∧ (∀ k, k < 4 → (t.slot k).state ≠ .running ∧ (t.slot k).state ≠ .waiting) ∧
      t.meas.st ≠ .busy ∧ t.ports.con.stream = none ∧
      ∃ a ∈ t.ports.con.alerts, a.kind = .batteryCutoff ∧ a.arg = v) ∧
  (∀ s : State, s.power.st = .run → s.power.grace ≠ none → exec .graceExpiry s = .next { s with
    mc := { s.mc with st := .selfRefresh, banks := [.idle, .idle, .idle, .idle], flight := none }
    power := { s.power with st := .shutdown, pll := .stopped, powerHold := false, grace := none } }) ∧
  (∀ s : State, s.power.grace = none → exec .graceExpiry s = .next s)
end

