-- ==== Sys2Proof/Laws/Drawing.lean ====
section
/-! SUPPORT. What the panel is sent and what a reply carries: the bands a row touches, the bands that change, the bands an
overlay uncovers, the row of a line, the bytes of a field. -/

namespace Sys2Proof.Machine

/-! ## Bands (R167, R182) -/

theorem mem_rowBands {y h b : Nat} : b ∈ rowBands y h ↔ b < 15 ∧ y < 16 * b + 16 ∧ 16 * b < y + h := by
  simp [rowBands, allBands]

/-- Row `i` of a layout whose first row begins at line `y`, with its first line `z`. -/
def rowFrom (y : Nat) (rs : List Row) (i : Nat) (row : Row) (z : Nat) : Prop :=
  rs[i]? = some row ∧ z = y + ((rs.take i).map (·.height)).sum

theorem rowFrom_zero {y : Nat} {r : Row} {rs : List Row} {row : Row} {z : Nat} :
    rowFrom y (r :: rs) 0 row z ↔ row = r ∧ z = y := by
  simp [rowFrom, eq_comm]

theorem rowFrom_succ {y : Nat} {r : Row} {rs : List Row} {i : Nat} {row : Row} {z : Nat} :
    rowFrom y (r :: rs) (i + 1) row z ↔ rowFrom (y + r.height) rs i row z := by
  simp [rowFrom, Nat.add_assoc]

theorem mem_layoutBands {b : Nat} : ∀ {rs : List Row} {y : Nat}, b ∈ layoutBands y rs ↔
    ∃ i row z, rowFrom y rs i row z ∧ b ∈ rowBands z row.height
  | [], y => by simp [layoutBands, rowFrom]
  | r :: rs, y => by
    rw [layoutBands, List.mem_append, mem_layoutBands]
    constructor
    · rintro (h | ⟨i, row, z, h, hb⟩)
      · exact ⟨0, r, y, rowFrom_zero.2 ⟨rfl, rfl⟩, h⟩
      · exact ⟨i + 1, row, z, rowFrom_succ.2 h, hb⟩
    · rintro ⟨_ | i, row, z, h, hb⟩
      · obtain ⟨rfl, rfl⟩ := rowFrom_zero.1 h; exact .inl hb
      · exact .inr ⟨i, row, z, rowFrom_succ.1 h, hb⟩

/-- Between two tables that hold every row of the layout, the bands of the rows that differ. -/
theorem mem_changedBands {b : Nat} : ∀ {rs : List Row} {y : Nat} {old new : List (List Cell)},
    rs.length ≤ old.length → rs.length ≤ new.length → (b ∈ changedBands y rs old new ↔
      ∃ i row z, rowFrom y rs i row z ∧ b ∈ rowBands z row.height ∧ new[i]? ≠ old[i]?)
  | [], y, _, _, _, _ => by simp [changedBands, rowFrom]
  | r :: rs, y, a :: old, c :: new, ha, hc => by
    rw [changedBands, List.mem_append, mem_changedBands (by simpa using ha) (by simpa using hc)]
    constructor
    · rintro (h | ⟨i, row, z, h, hb⟩)
      · by_cases e : a = c
        · simp [e] at h
        · exact ⟨0, r, y, rowFrom_zero.2 ⟨rfl, rfl⟩, by simpa [e] using h, by simpa using Ne.symm e⟩
      · exact ⟨i + 1, row, z, rowFrom_succ.2 h, by simpa using hb⟩
    · rintro ⟨_ | i, row, z, h, hb, hn⟩
      · obtain ⟨rfl, rfl⟩ := rowFrom_zero.1 h
        exact .inl (by rw [if_neg (by simpa [eq_comm] using hn)]; exact hb)
      · exact .inr ⟨i, row, z, rowFrom_succ.1 h, hb, by simpa using hn⟩

theorem mem_addBands {dirty more : List Nat} {b : Nat} :
    b ∈ addBands dirty more ↔ b < 15 ∧ (b ∈ dirty ∨ b ∈ more) := by
  simp [addBands, allBands]

theorem covered_eq_false {list : List (Option Rect)} {x y : Nat} : covered list x y = false ↔
    ∀ q, some q ∈ list → x < q.x ∨ q.x + q.w ≤ x ∨ y < q.y ∨ q.y + q.h ≤ y := by
  simp only [covered, List.any_eq_false]
  refine ⟨fun h q hq => ?_, fun h o ho => ?_⟩
  · have := h _ hq; simp at this; omega
  · cases o with
    | none => simp
    | some q => have := h q ho; simp; omega

/-- A rectangle uncovers a band when one of its plot pixels lies there under no overlay. -/
theorem uncoversBand_iff {list : List (Option Rect)} {r : Rect} {b : Nat} : uncoversBand list r b = true ↔
    ∃ x y, y / 16 = b ∧ 20 ≤ x ∧ r.x ≤ x ∧ x < r.x + r.w ∧ r.y ≤ y ∧ y < r.y + r.h ∧ covered list x y = false := by
  simp only [uncoversBand, List.any_eq_true, List.mem_range, Bool.and_eq_true, decide_eq_true_eq, Bool.not_eq_true']
  constructor
  · rintro ⟨j, hj, h1, i, hi, h2, h3⟩
    exact ⟨r.x + i, r.y + j, h1, h2, by omega, by omega, by omega, by omega, h3⟩
  · rintro ⟨x, y, h1, h2, h3, h4, h5, h6, h7⟩
    refine ⟨y - r.y, by omega, ?_, x - r.x, by omega, by omega, ?_⟩
    · rw [Nat.add_sub_cancel' h5]; exact h1
    · rw [Nat.add_sub_cancel' h5, Nat.add_sub_cancel' h3]; exact h7

/-! ## Rows (R162) -/

theorem rowAt_of_rowFrom {y : Nat} : ∀ {rs : List Row} {i₀ y₀ i : Nat} {row : Row} {z : Nat},
    rowFrom y₀ rs i row z → z ≤ y → y < z + row.height → rowAt y i₀ y₀ rs = some (i₀ + i, z, row)
  | r :: rs, i₀, y₀, 0, row, z, h, h1, h2 => by
    obtain ⟨rfl, rfl⟩ := rowFrom_zero.1 h; simp [rowAt, h2]
  | r :: rs, i₀, y₀, i + 1, row, z, h, h1, h2 => by
    have h := rowFrom_succ.1 h
    rw [rowAt, if_neg (by have := h.2; omega), rowAt_of_rowFrom h h1 h2]
    simp [Nat.add_comm, Nat.add_left_comm]

theorem rowAt_below {y : Nat} : ∀ {rs : List Row} {i₀ y₀ : Nat}, y₀ + (rs.map (·.height)).sum ≤ y →
    rowAt y i₀ y₀ rs = none
  | [], _, _, _ => rfl
  | r :: rs, i₀, y₀, h => by
    simp only [List.map_cons, List.sum_cons] at h
    rw [rowAt, if_neg (by omega), rowAt_below (by omega)]

/-! ## Annotation streams (R140) -/

/-- The next selected entry is the first of those selected; with none, the cursor reaches the list's end. -/
theorem nextNote_eq (pick : Note → Bool) : ∀ (l : List Note) (c : Nat), nextNote pick l c =
    match l.filter pick with
    | [] => (none, c + l.length)
    | e :: _ => (some e, c + (l.takeWhile fun x => !pick x).length + 1)
  | [], c => rfl
  | e :: r, c => by
    by_cases h : pick e = true
    · simp [nextNote, h]
    · simp only [nextNote, h, nextNote_eq pick r (c + 1)]
      simp [h]
      cases r.filter pick <;> simp <;> omega

/-- What `passRest` does: it ends a stream that no selected entry follows, and leaves any other as it is. -/
theorem Stream.passRest_eq (x : Stream) (list : List Note) (pick : Note → Bool) :
    x.passRest list pick = if (list.drop x.cursor).filter pick = [] then
      { x with cursor := x.cursor + (list.drop x.cursor).length, ended := true } else x := by
  simp only [Stream.passRest, nextNote_eq]
  cases (list.drop x.cursor).filter pick <;> simp

/-! ## Bytes of a field (R212, R214) -/

theorem leBytes_eq (w v : Nat) : leBytes w v = (List.range w).map fun i => BitVec.ofNat 8 (v / 256 ^ i) := by
  induction w generalizing v with
  | zero => rfl
  | succ w ih =>
    rw [leBytes, ih, List.range_succ_eq_map]
    simp [Nat.pow_succ, Nat.div_div_eq_div_mul, Nat.mul_comm]

@[simp] theorem leBytes_length (w v : Nat) : (leBytes w v).length = w := by simp [leBytes_eq]

@[simp] theorem ReplyPart.bytes_tick (b : ReplyBody) (t : Nat) : ReplyPart.bytes b (.tick t) = leBytes 6 t := rfl
@[simp] theorem ReplyPart.bytes_count (b : ReplyBody) (n : Nat) : ReplyPart.bytes b (.count n) = leBytes 4 n := rfl
@[simp] theorem ReplyPart.bytes_level (b : ReplyBody) (l : AlertLevel) :
    ReplyPart.bytes b (.level l) = leBytes 1 l.code := rfl
@[simp] theorem ReplyPart.bytes_free (b : ReplyBody) (i : Nat) :
    ReplyPart.bytes b (.free i) = Config.replyField b i := rfl

end Sys2Proof.Machine
end

