-- ==== Sys2Proof/Laws/State.lean ====
section
/-! SUPPORT. The named updates of State, field by field: what each leaves as it was, and what it sets. -/

namespace Sys2Proof.Machine

/-! ## Table entries -/

@[simp] theorem State.setSeg_frame (s : State) (n : Nat) (e : Segment) :
    (s.setSeg n e).fe = s.fe ∧ (s.setSeg n e).comp = s.comp ∧ (s.setSeg n e).tap = s.tap ∧
    (s.setSeg n e).writer = s.writer ∧ (s.setSeg n e).seq = s.seq ∧ (s.setSeg n e).mc = s.mc ∧
    (s.setSeg n e).slots = s.slots ∧ (s.setSeg n e).notes = s.notes ∧ (s.setSeg n e).meas = s.meas ∧
    (s.setSeg n e).render = s.render ∧ (s.setSeg n e).panel = s.panel ∧ (s.setSeg n e).ports = s.ports ∧
    (s.setSeg n e).power = s.power ∧ (s.setSeg n e).free = s.free ∧ (s.setSeg n e).pending = s.pending ∧
    (s.setSeg n e).store.freeList = s.store.freeList ∧ (s.setSeg n e).store.blocks = s.store.blocks ∧
    (s.setSeg n e).store.sealCounter = s.store.sealCounter ∧ (s.setSeg n e).store.low = s.store.low ∧
    (s.setSeg n e).store.armed = s.store.armed ∧ (s.setSeg n e).store.available = s.store.available ∧
    (s.setSeg n e).store.mem = s.store.mem :=
  by exact ⟨rfl, rfl, rfl, rfl, rfl, rfl, rfl, rfl, rfl, rfl, rfl, rfl, rfl, rfl, rfl, rfl, rfl, rfl, rfl, rfl, rfl, rfl⟩

@[simp] theorem State.setSeg_segs (s : State) (n : Nat) (e : Segment) :
    (s.setSeg n e).store.segs = s.store.segs.set n e := rfl

@[simp] theorem State.setSlot_frame (s : State) (n : Nat) (x : Slot) :
    (s.setSlot n x).fe = s.fe ∧ (s.setSlot n x).comp = s.comp ∧ (s.setSlot n x).tap = s.tap ∧
    (s.setSlot n x).writer = s.writer ∧ (s.setSlot n x).seq = s.seq ∧ (s.setSlot n x).store = s.store ∧
    (s.setSlot n x).mc = s.mc ∧ (s.setSlot n x).notes = s.notes ∧ (s.setSlot n x).meas = s.meas ∧
    (s.setSlot n x).render = s.render ∧ (s.setSlot n x).panel = s.panel ∧ (s.setSlot n x).ports = s.ports ∧
    (s.setSlot n x).power = s.power ∧ (s.setSlot n x).free = s.free ∧ (s.setSlot n x).pending = s.pending :=
  by exact ⟨rfl, rfl, rfl, rfl, rfl, rfl, rfl, rfl, rfl, rfl, rfl, rfl, rfl, rfl, rfl⟩

@[simp] theorem State.setSlot_slots (s : State) (n : Nat) (x : Slot) : (s.setSlot n x).slots = s.slots.set n x := rfl

@[simp] theorem setWalk_frame (k : Nat) (w : Walk) (s : State) :
    (setWalk k w s).fe = s.fe ∧ (setWalk k w s).comp = s.comp ∧ (setWalk k w s).tap = s.tap ∧
    (setWalk k w s).writer = s.writer ∧ (setWalk k w s).seq = s.seq ∧ (setWalk k w s).store = s.store ∧
    (setWalk k w s).mc = s.mc ∧ (setWalk k w s).notes = s.notes ∧ (setWalk k w s).meas = s.meas ∧
    (setWalk k w s).render = s.render ∧ (setWalk k w s).panel = s.panel ∧ (setWalk k w s).ports = s.ports ∧
    (setWalk k w s).power = s.power ∧ (setWalk k w s).free = s.free ∧ (setWalk k w s).pending = s.pending :=
  by exact ⟨rfl, rfl, rfl, rfl, rfl, rfl, rfl, rfl, rfl, rfl, rfl, rfl, rfl, rfl, rfl⟩

@[simp] theorem setWalk_slots (k : Nat) (w : Walk) (s : State) :
    (setWalk k w s).slots = s.slots.set k { s.slot k with walk := w } := rfl

@[simp] theorem addPin_frame (n : Nat) (f : Pins → Pins) (s : State) :
    (addPin n f s).fe = s.fe ∧ (addPin n f s).comp = s.comp ∧ (addPin n f s).tap = s.tap ∧
    (addPin n f s).writer = s.writer ∧ (addPin n f s).seq = s.seq ∧ (addPin n f s).mc = s.mc ∧
    (addPin n f s).slots = s.slots ∧ (addPin n f s).notes = s.notes ∧ (addPin n f s).meas = s.meas ∧
    (addPin n f s).render = s.render ∧ (addPin n f s).panel = s.panel ∧ (addPin n f s).ports = s.ports ∧
    (addPin n f s).power = s.power ∧ (addPin n f s).free = s.free ∧ (addPin n f s).pending = s.pending ∧
    (addPin n f s).store.freeList = s.store.freeList ∧ (addPin n f s).store.blocks = s.store.blocks ∧
    (addPin n f s).store.sealCounter = s.store.sealCounter ∧ (addPin n f s).store.low = s.store.low ∧
    (addPin n f s).store.armed = s.store.armed ∧ (addPin n f s).store.available = s.store.available ∧
    (addPin n f s).store.mem = s.store.mem :=
  by exact ⟨rfl, rfl, rfl, rfl, rfl, rfl, rfl, rfl, rfl, rfl, rfl, rfl, rfl, rfl, rfl, rfl, rfl, rfl, rfl, rfl, rfl, rfl⟩

@[simp] theorem keepWalk_frame (k : Nat) (f : NoteWalk → NoteWalk) (s : State) :
    (keepWalk k f s).fe = s.fe ∧ (keepWalk k f s).comp = s.comp ∧ (keepWalk k f s).tap = s.tap ∧
    (keepWalk k f s).writer = s.writer ∧ (keepWalk k f s).seq = s.seq ∧ (keepWalk k f s).store = s.store ∧
    (keepWalk k f s).mc = s.mc ∧ (keepWalk k f s).slots = s.slots ∧ (keepWalk k f s).notes = s.notes ∧
    (keepWalk k f s).meas = s.meas ∧ (keepWalk k f s).panel = s.panel ∧ (keepWalk k f s).ports = s.ports ∧
    (keepWalk k f s).power = s.power ∧ (keepWalk k f s).pending = s.pending ∧
    (keepWalk k f s).render.view = s.render.view ∧ (keepWalk k f s).render.layout = s.render.layout ∧
    (keepWalk k f s).render.palette = s.render.palette ∧ (keepWalk k f s).render.cursorA = s.render.cursorA ∧
    (keepWalk k f s).render.cursorB = s.render.cursorB ∧ (keepWalk k f s).render.divider = s.render.divider ∧
    (keepWalk k f s).render.liveCount = s.render.liveCount ∧ (keepWalk k f s).render.frame = s.render.frame ∧
    (keepWalk k f s).render.again = s.render.again ∧ (keepWalk k f s).render.latch = s.render.latch ∧
    (keepWalk k f s).render.drawnA = s.render.drawnA ∧ (keepWalk k f s).render.drawnB = s.render.drawnB ∧
    (keepWalk k f s).render.trace = s.render.trace ∧ (keepWalk k f s).render.dirty = s.render.dirty ∧
    (keepWalk k f s).render.completed = s.render.completed ∧
    (keepWalk k f s).render.reader.done = s.render.reader.done ∧
    (keepWalk k f s).render.reader.pos = s.render.reader.pos ∧
    (keepWalk k f s).render.reader.place = s.render.reader.place ∧
    (keepWalk k f s).render.reader.time = s.render.reader.time ∧
    (keepWalk k f s).render.reader.recs = s.render.reader.recs ∧
    (keepWalk k f s).render.reader.frozen = s.render.reader.frozen ∧
    (keepWalk k f s).render.reader.frameStart = s.render.reader.frameStart := by
  unfold keepWalk
  dsimp only
  split <;> exact ⟨rfl, rfl, rfl, rfl, rfl, rfl, rfl, rfl, rfl, rfl, rfl, rfl, rfl, rfl, rfl, rfl, rfl, rfl, rfl, rfl, rfl, rfl, rfl, rfl, rfl, rfl, rfl, rfl, rfl, rfl, rfl, rfl, rfl, rfl, rfl, rfl⟩

@[simp] theorem appendNote_frame (k : Nat) (e : Note) (s : State) :
    (appendNote k e s).fe = s.fe ∧ (appendNote k e s).comp = s.comp ∧ (appendNote k e s).tap = s.tap ∧
    (appendNote k e s).writer = s.writer ∧ (appendNote k e s).seq = s.seq ∧ (appendNote k e s).store = s.store ∧
    (appendNote k e s).mc = s.mc ∧ (appendNote k e s).slots = s.slots ∧ (appendNote k e s).meas = s.meas ∧
    (appendNote k e s).panel = s.panel ∧ (appendNote k e s).ports = s.ports ∧ (appendNote k e s).power = s.power ∧
    (appendNote k e s).pending = s.pending ∧ (appendNote k e s).render.view = s.render.view ∧
    (appendNote k e s).render.layout = s.render.layout ∧ (appendNote k e s).render.palette = s.render.palette ∧
    (appendNote k e s).render.cursorA = s.render.cursorA ∧ (appendNote k e s).render.cursorB = s.render.cursorB ∧
    (appendNote k e s).render.divider = s.render.divider ∧ (appendNote k e s).render.liveCount = s.render.liveCount ∧
    (appendNote k e s).render.frame = s.render.frame ∧ (appendNote k e s).render.again = s.render.again ∧
    (appendNote k e s).render.latch = s.render.latch ∧ (appendNote k e s).render.drawnA = s.render.drawnA ∧
    (appendNote k e s).render.drawnB = s.render.drawnB ∧ (appendNote k e s).render.trace = s.render.trace ∧
    (appendNote k e s).render.dirty = s.render.dirty ∧ (appendNote k e s).render.completed = s.render.completed ∧
    (appendNote k e s).render.reader.done = s.render.reader.done ∧
    (appendNote k e s).render.reader.pos = s.render.reader.pos ∧
    (appendNote k e s).render.reader.place = s.render.reader.place ∧
    (appendNote k e s).render.reader.time = s.render.reader.time ∧
    (appendNote k e s).render.reader.recs = s.render.reader.recs ∧
    (appendNote k e s).render.reader.frozen = s.render.reader.frozen ∧
    (appendNote k e s).render.reader.frameStart = s.render.reader.frameStart := by
  simp [appendNote]

/-- Outside CLASSIFY the renderer walks no list. -/
theorem keepWalk_idle {k : Nat} {f : NoteWalk → NoteWalk} {s : State} (h : s.render.frame ≠ .classifying) :
    keepWalk k f s = s := by
  simp [keepWalk, h]

@[simp] theorem appendNote_notes (k : Nat) (e : Note) (s : State) :
    (appendNote k e s).notes = s.notes.set k (s.notesOf k ++ [e]) := by
  simp [appendNote, State.notesOf]

/-! ## Alerts -/

@[simp] theorem PortState.raised_rest (q : PortState) (k : AlertKind) (arg : Nat) :
    (q.raised k arg).levels = q.levels ∧ (q.raised k arg).stream = q.stream := by
  unfold PortState.raised
  split <;> exact ⟨rfl, rfl⟩

@[simp] theorem PortState.raised_level (q : PortState) (k j : AlertKind) (arg : Nat) :
    (q.raised k arg).level j = q.level j := by
  simp [PortState.level]

@[simp] theorem State.refreshAttn_frame (s : State) :
    (s.refreshAttn).fe = s.fe ∧ (s.refreshAttn).comp = s.comp ∧ (s.refreshAttn).tap = s.tap ∧
    (s.refreshAttn).writer = s.writer ∧ (s.refreshAttn).seq = s.seq ∧ (s.refreshAttn).store = s.store ∧
    (s.refreshAttn).mc = s.mc ∧ (s.refreshAttn).slots = s.slots ∧ (s.refreshAttn).notes = s.notes ∧
    (s.refreshAttn).meas = s.meas ∧ (s.refreshAttn).render = s.render ∧ (s.refreshAttn).panel = s.panel ∧
    (s.refreshAttn).power = s.power ∧ (s.refreshAttn).free = s.free ∧ (s.refreshAttn).pending = s.pending ∧
    (s.refreshAttn).ports.claim = s.ports.claim ∧ (s.refreshAttn).ports.con = s.ports.con ∧
    (s.refreshAttn).ports.teth = s.ports.teth ∧ (s.refreshAttn).ports.conReplies = s.ports.conReplies ∧
    (s.refreshAttn).ports.conService = s.ports.conService ∧ (s.refreshAttn).ports.outFrame = s.ports.outFrame ∧
    (s.refreshAttn).ports.link = s.ports.link ∧ (s.refreshAttn).ports.remoteWake = s.ports.remoteWake ∧
    (s.refreshAttn).ports.tethReplies = s.ports.tethReplies ∧
    (s.refreshAttn).ports.tethService = s.ports.tethService ∧ (s.refreshAttn).ports.resuming = s.ports.resuming ∧
    (s.refreshAttn).ports.vbus = s.ports.vbus ∧ (s.refreshAttn).ports.conOut = s.ports.conOut ∧
    (s.refreshAttn).ports.tethOut = s.ports.tethOut :=
  by exact ⟨rfl, rfl, rfl, rfl, rfl, rfl, rfl, rfl, rfl, rfl, rfl, rfl, rfl, rfl, rfl, rfl, rfl, rfl, rfl, rfl, rfl, rfl, rfl, rfl, rfl, rfl, rfl, rfl, rfl⟩

@[simp] theorem State.refreshAttn_attn (s : State) : s.refreshAttn.ports.attn = s.attnNow := rfl

@[simp] theorem raiseConsole_frame (k : AlertKind) (arg : Nat) (s : State) :
    (raiseConsole k arg s).fe = s.fe ∧ (raiseConsole k arg s).comp = s.comp ∧ (raiseConsole k arg s).tap = s.tap ∧
    (raiseConsole k arg s).writer = s.writer ∧ (raiseConsole k arg s).seq = s.seq ∧
    (raiseConsole k arg s).store = s.store ∧ (raiseConsole k arg s).mc = s.mc ∧
    (raiseConsole k arg s).slots = s.slots ∧ (raiseConsole k arg s).notes = s.notes ∧
    (raiseConsole k arg s).meas = s.meas ∧ (raiseConsole k arg s).render = s.render ∧
    (raiseConsole k arg s).panel = s.panel ∧ (raiseConsole k arg s).power = s.power ∧
    (raiseConsole k arg s).free = s.free ∧ (raiseConsole k arg s).pending = s.pending ∧
    (raiseConsole k arg s).ports.claim = s.ports.claim ∧ (raiseConsole k arg s).ports.teth = s.ports.teth ∧
    (raiseConsole k arg s).ports.conReplies = s.ports.conReplies ∧
    (raiseConsole k arg s).ports.conService = s.ports.conService ∧
    (raiseConsole k arg s).ports.outFrame = s.ports.outFrame ∧ (raiseConsole k arg s).ports.link = s.ports.link ∧
    (raiseConsole k arg s).ports.remoteWake = s.ports.remoteWake ∧
    (raiseConsole k arg s).ports.tethReplies = s.ports.tethReplies ∧
    (raiseConsole k arg s).ports.tethService = s.ports.tethService ∧
    (raiseConsole k arg s).ports.resuming = s.ports.resuming ∧ (raiseConsole k arg s).ports.vbus = s.ports.vbus ∧
    (raiseConsole k arg s).ports.conOut = s.ports.conOut ∧ (raiseConsole k arg s).ports.tethOut = s.ports.tethOut :=
  by exact ⟨rfl, rfl, rfl, rfl, rfl, rfl, rfl, rfl, rfl, rfl, rfl, rfl, rfl, rfl, rfl, rfl, rfl, rfl, rfl, rfl, rfl, rfl, rfl, rfl, rfl, rfl, rfl, rfl⟩

@[simp] theorem raiseConsole_con (k : AlertKind) (arg : Nat) (s : State) :
    (raiseConsole k arg s).ports.con = s.ports.con.raised k arg := rfl

@[simp] theorem raiseTether_frame (k : AlertKind) (arg : Nat) (s : State) :
    (raiseTether k arg s).fe = s.fe ∧ (raiseTether k arg s).comp = s.comp ∧ (raiseTether k arg s).tap = s.tap ∧
    (raiseTether k arg s).writer = s.writer ∧ (raiseTether k arg s).seq = s.seq ∧
    (raiseTether k arg s).store = s.store ∧ (raiseTether k arg s).mc = s.mc ∧ (raiseTether k arg s).slots = s.slots ∧
    (raiseTether k arg s).notes = s.notes ∧ (raiseTether k arg s).meas = s.meas ∧
    (raiseTether k arg s).render = s.render ∧ (raiseTether k arg s).panel = s.panel ∧
    (raiseTether k arg s).power = s.power ∧ (raiseTether k arg s).free = s.free ∧
    (raiseTether k arg s).pending = s.pending ∧ (raiseTether k arg s).ports.claim = s.ports.claim ∧
    (raiseTether k arg s).ports.con = s.ports.con ∧ (raiseTether k arg s).ports.conReplies = s.ports.conReplies ∧
    (raiseTether k arg s).ports.conService = s.ports.conService ∧
    (raiseTether k arg s).ports.outFrame = s.ports.outFrame ∧ (raiseTether k arg s).ports.attn = s.ports.attn ∧
    (raiseTether k arg s).ports.link = s.ports.link ∧ (raiseTether k arg s).ports.remoteWake = s.ports.remoteWake ∧
    (raiseTether k arg s).ports.tethReplies = s.ports.tethReplies ∧
    (raiseTether k arg s).ports.tethService = s.ports.tethService ∧ (raiseTether k arg s).ports.vbus = s.ports.vbus ∧
    (raiseTether k arg s).ports.conOut = s.ports.conOut ∧ (raiseTether k arg s).ports.tethOut = s.ports.tethOut :=
  by exact ⟨rfl, rfl, rfl, rfl, rfl, rfl, rfl, rfl, rfl, rfl, rfl, rfl, rfl, rfl, rfl, rfl, rfl, rfl, rfl, rfl, rfl, rfl, rfl, rfl, rfl, rfl, rfl, rfl⟩

@[simp] theorem raiseTether_teth (k : AlertKind) (arg : Nat) (s : State) :
    (raiseTether k arg s).ports.teth = s.ports.teth.raised k arg := rfl

@[simp] theorem raiseBoth_frame (k : AlertKind) (arg : Nat) (s : State) :
    (raiseBoth k arg s).fe = s.fe ∧ (raiseBoth k arg s).comp = s.comp ∧ (raiseBoth k arg s).tap = s.tap ∧
    (raiseBoth k arg s).writer = s.writer ∧ (raiseBoth k arg s).seq = s.seq ∧ (raiseBoth k arg s).store = s.store ∧
    (raiseBoth k arg s).mc = s.mc ∧ (raiseBoth k arg s).slots = s.slots ∧ (raiseBoth k arg s).notes = s.notes ∧
    (raiseBoth k arg s).meas = s.meas ∧ (raiseBoth k arg s).render = s.render ∧ (raiseBoth k arg s).panel = s.panel ∧
    (raiseBoth k arg s).power = s.power ∧ (raiseBoth k arg s).free = s.free ∧
    (raiseBoth k arg s).pending = s.pending ∧ (raiseBoth k arg s).ports.claim = s.ports.claim ∧
    (raiseBoth k arg s).ports.conReplies = s.ports.conReplies ∧
    (raiseBoth k arg s).ports.conService = s.ports.conService ∧
    (raiseBoth k arg s).ports.outFrame = s.ports.outFrame ∧ (raiseBoth k arg s).ports.link = s.ports.link ∧
    (raiseBoth k arg s).ports.remoteWake = s.ports.remoteWake ∧
    (raiseBoth k arg s).ports.tethReplies = s.ports.tethReplies ∧
    (raiseBoth k arg s).ports.tethService = s.ports.tethService ∧ (raiseBoth k arg s).ports.vbus = s.ports.vbus ∧
    (raiseBoth k arg s).ports.conOut = s.ports.conOut ∧ (raiseBoth k arg s).ports.tethOut = s.ports.tethOut :=
  by exact ⟨rfl, rfl, rfl, rfl, rfl, rfl, rfl, rfl, rfl, rfl, rfl, rfl, rfl, rfl, rfl, rfl, rfl, rfl, rfl, rfl, rfl, rfl, rfl, rfl, rfl, rfl⟩

@[simp] theorem raiseBoth_sets (k : AlertKind) (arg : Nat) (s : State) :
    (raiseBoth k arg s).ports.con = s.ports.con.raised k arg ∧
    (raiseBoth k arg s).ports.teth = s.ports.teth.raised k arg := ⟨rfl, rfl⟩

/-! ## Replies and streams -/

@[simp] theorem pushReply_frame (p : Port) (r : Reply) (s : State) :
    (pushReply p r s).fe = s.fe ∧ (pushReply p r s).comp = s.comp ∧ (pushReply p r s).tap = s.tap ∧
    (pushReply p r s).writer = s.writer ∧ (pushReply p r s).seq = s.seq ∧ (pushReply p r s).store = s.store ∧
    (pushReply p r s).mc = s.mc ∧ (pushReply p r s).slots = s.slots ∧ (pushReply p r s).notes = s.notes ∧
    (pushReply p r s).meas = s.meas ∧ (pushReply p r s).render = s.render ∧ (pushReply p r s).panel = s.panel ∧
    (pushReply p r s).power = s.power ∧ (pushReply p r s).free = s.free ∧ (pushReply p r s).pending = s.pending ∧
    (pushReply p r s).ports.claim = s.ports.claim ∧ (pushReply p r s).ports.con = s.ports.con ∧
    (pushReply p r s).ports.teth = s.ports.teth ∧ (pushReply p r s).ports.conService = s.ports.conService ∧
    (pushReply p r s).ports.outFrame = s.ports.outFrame ∧ (pushReply p r s).ports.attn = s.ports.attn ∧
    (pushReply p r s).ports.link = s.ports.link ∧ (pushReply p r s).ports.remoteWake = s.ports.remoteWake ∧
    (pushReply p r s).ports.tethService = s.ports.tethService ∧ (pushReply p r s).ports.resuming = s.ports.resuming ∧
    (pushReply p r s).ports.vbus = s.ports.vbus ∧ (pushReply p r s).ports.conOut = s.ports.conOut ∧
    (pushReply p r s).ports.tethOut = s.ports.tethOut :=
  by cases p <;> exact ⟨rfl, rfl, rfl, rfl, rfl, rfl, rfl, rfl, rfl, rfl, rfl, rfl, rfl, rfl, rfl, rfl, rfl, rfl, rfl, rfl, rfl, rfl, rfl, rfl, rfl, rfl, rfl, rfl⟩

@[simp] theorem pushReply_console (r : Reply) (s : State) :
    (pushReply .console r s).ports.conReplies = s.ports.conReplies ++ [r] ∧
    (pushReply .console r s).ports.tethReplies = s.ports.tethReplies := ⟨rfl, rfl⟩

@[simp] theorem pushReply_tether (r : Reply) (s : State) :
    (pushReply .tether r s).ports.tethReplies = s.ports.tethReplies ++ [r] ∧
    (pushReply .tether r s).ports.conReplies = s.ports.conReplies := ⟨rfl, rfl⟩

@[simp] theorem answer_frame (q : Asker) (st : Status) (body : ReplyBody) (s : State) :
    (answer q st body s).fe = s.fe ∧ (answer q st body s).comp = s.comp ∧ (answer q st body s).tap = s.tap ∧
    (answer q st body s).writer = s.writer ∧ (answer q st body s).seq = s.seq ∧
    (answer q st body s).store = s.store ∧ (answer q st body s).mc = s.mc ∧ (answer q st body s).slots = s.slots ∧
    (answer q st body s).notes = s.notes ∧ (answer q st body s).meas = s.meas ∧
    (answer q st body s).render = s.render ∧ (answer q st body s).panel = s.panel ∧
    (answer q st body s).power = s.power ∧ (answer q st body s).free = s.free ∧
    (answer q st body s).pending = s.pending ∧ (answer q st body s).ports.claim = s.ports.claim ∧
    (answer q st body s).ports.con = s.ports.con ∧ (answer q st body s).ports.teth = s.ports.teth ∧
    (answer q st body s).ports.conService = s.ports.conService ∧
    (answer q st body s).ports.outFrame = s.ports.outFrame ∧ (answer q st body s).ports.attn = s.ports.attn ∧
    (answer q st body s).ports.link = s.ports.link ∧ (answer q st body s).ports.remoteWake = s.ports.remoteWake ∧
    (answer q st body s).ports.tethService = s.ports.tethService ∧
    (answer q st body s).ports.resuming = s.ports.resuming ∧ (answer q st body s).ports.vbus = s.ports.vbus ∧
    (answer q st body s).ports.conOut = s.ports.conOut ∧ (answer q st body s).ports.tethOut = s.ports.tethOut :=
  by cases q with | mk p _ _ => cases p <;> exact ⟨rfl, rfl, rfl, rfl, rfl, rfl, rfl, rfl, rfl, rfl, rfl, rfl, rfl, rfl, rfl, rfl, rfl, rfl, rfl, rfl, rfl, rfl, rfl, rfl, rfl, rfl, rfl, rfl⟩

@[simp] theorem refuse_frame (q : Asker) (st : Status) (s : State) :
    (refuse q st s).fe = s.fe ∧ (refuse q st s).comp = s.comp ∧ (refuse q st s).tap = s.tap ∧
    (refuse q st s).writer = s.writer ∧ (refuse q st s).seq = s.seq ∧ (refuse q st s).store = s.store ∧
    (refuse q st s).mc = s.mc ∧ (refuse q st s).slots = s.slots ∧ (refuse q st s).notes = s.notes ∧
    (refuse q st s).meas = s.meas ∧ (refuse q st s).render = s.render ∧ (refuse q st s).panel = s.panel ∧
    (refuse q st s).power = s.power ∧ (refuse q st s).free = s.free ∧ (refuse q st s).pending = s.pending ∧
    (refuse q st s).ports.claim = s.ports.claim ∧ (refuse q st s).ports.con = s.ports.con ∧
    (refuse q st s).ports.teth = s.ports.teth ∧ (refuse q st s).ports.conService = s.ports.conService ∧
    (refuse q st s).ports.outFrame = s.ports.outFrame ∧ (refuse q st s).ports.attn = s.ports.attn ∧
    (refuse q st s).ports.link = s.ports.link ∧ (refuse q st s).ports.remoteWake = s.ports.remoteWake ∧
    (refuse q st s).ports.tethService = s.ports.tethService ∧ (refuse q st s).ports.resuming = s.ports.resuming ∧
    (refuse q st s).ports.vbus = s.ports.vbus ∧ (refuse q st s).ports.conOut = s.ports.conOut ∧
    (refuse q st s).ports.tethOut = s.ports.tethOut :=
  by cases q with | mk p _ _ => cases p <;> exact ⟨rfl, rfl, rfl, rfl, rfl, rfl, rfl, rfl, rfl, rfl, rfl, rfl, rfl, rfl, rfl, rfl, rfl, rfl, rfl, rfl, rfl, rfl, rfl, rfl, rfl, rfl, rfl, rfl⟩

@[simp] theorem defer_frame (q : Asker) (s : State) :
    (defer q s).fe = s.fe ∧ (defer q s).comp = s.comp ∧ (defer q s).tap = s.tap ∧ (defer q s).writer = s.writer ∧
    (defer q s).seq = s.seq ∧ (defer q s).store = s.store ∧ (defer q s).mc = s.mc ∧ (defer q s).slots = s.slots ∧
    (defer q s).notes = s.notes ∧ (defer q s).meas = s.meas ∧ (defer q s).render = s.render ∧
    (defer q s).panel = s.panel ∧ (defer q s).power = s.power ∧ (defer q s).free = s.free ∧
    (defer q s).pending = s.pending ∧ (defer q s).ports.claim = s.ports.claim ∧ (defer q s).ports.con = s.ports.con ∧
    (defer q s).ports.teth = s.ports.teth ∧ (defer q s).ports.conReplies = s.ports.conReplies ∧
    (defer q s).ports.outFrame = s.ports.outFrame ∧ (defer q s).ports.attn = s.ports.attn ∧
    (defer q s).ports.link = s.ports.link ∧ (defer q s).ports.remoteWake = s.ports.remoteWake ∧
    (defer q s).ports.tethReplies = s.ports.tethReplies ∧ (defer q s).ports.resuming = s.ports.resuming ∧
    (defer q s).ports.vbus = s.ports.vbus ∧ (defer q s).ports.conOut = s.ports.conOut ∧
    (defer q s).ports.tethOut = s.ports.tethOut :=
  by cases q with | mk p _ _ => cases p <;> exact ⟨rfl, rfl, rfl, rfl, rfl, rfl, rfl, rfl, rfl, rfl, rfl, rfl, rfl, rfl, rfl, rfl, rfl, rfl, rfl, rfl, rfl, rfl, rfl, rfl, rfl, rfl, rfl, rfl⟩

@[simp] theorem setStream_frame (p : Port) (x : Option Stream) (s : State) :
    (setStream p x s).fe = s.fe ∧ (setStream p x s).comp = s.comp ∧ (setStream p x s).tap = s.tap ∧
    (setStream p x s).writer = s.writer ∧ (setStream p x s).seq = s.seq ∧ (setStream p x s).store = s.store ∧
    (setStream p x s).mc = s.mc ∧ (setStream p x s).slots = s.slots ∧ (setStream p x s).notes = s.notes ∧
    (setStream p x s).meas = s.meas ∧ (setStream p x s).render = s.render ∧ (setStream p x s).panel = s.panel ∧
    (setStream p x s).power = s.power ∧ (setStream p x s).free = s.free ∧ (setStream p x s).pending = s.pending ∧
    (setStream p x s).ports.claim = s.ports.claim ∧ (setStream p x s).ports.conReplies = s.ports.conReplies ∧
    (setStream p x s).ports.conService = s.ports.conService ∧ (setStream p x s).ports.outFrame = s.ports.outFrame ∧
    (setStream p x s).ports.attn = s.ports.attn ∧ (setStream p x s).ports.link = s.ports.link ∧
    (setStream p x s).ports.remoteWake = s.ports.remoteWake ∧
    (setStream p x s).ports.tethReplies = s.ports.tethReplies ∧
    (setStream p x s).ports.tethService = s.ports.tethService ∧ (setStream p x s).ports.resuming = s.ports.resuming ∧
    (setStream p x s).ports.vbus = s.ports.vbus ∧ (setStream p x s).ports.conOut = s.ports.conOut ∧
    (setStream p x s).ports.tethOut = s.ports.tethOut :=
  by cases p <;> exact ⟨rfl, rfl, rfl, rfl, rfl, rfl, rfl, rfl, rfl, rfl, rfl, rfl, rfl, rfl, rfl, rfl, rfl, rfl, rfl, rfl, rfl, rfl, rfl, rfl, rfl, rfl, rfl, rfl⟩

@[simp] theorem Ports.port_setPort (q : Ports) (p : Port) (x : PortState) : (q.setPort p x).port p = x := by
  cases p <;> rfl

@[simp] theorem setStream_stream (p : Port) (x : Option Stream) (s : State) :
    ((setStream p x s).ports.port p).stream = x := by
  simp [setStream]

end Sys2Proof.Machine
end

