-- ==== Sys2Proof/Laws/Frames.lean ====
section
/-! SUPPORT. Frames: for each shared operation, the parts of State it never changes, whatever it is given. One lemma per
operation, in the order of the model's files; each uses those before it. -/

namespace Sys2Proof.Machine

/-! ## Ops -/

@[simp] theorem raiseTo_frame (p : Port) (k : AlertKind) (arg : Nat) (s : State) :
    (raiseTo p k arg s).fe = s.fe ∧ (raiseTo p k arg s).comp = s.comp ∧ (raiseTo p k arg s).tap = s.tap ∧
    (raiseTo p k arg s).writer = s.writer ∧ (raiseTo p k arg s).seq = s.seq ∧ (raiseTo p k arg s).store = s.store ∧
    (raiseTo p k arg s).mc = s.mc ∧ (raiseTo p k arg s).slots = s.slots ∧ (raiseTo p k arg s).notes = s.notes ∧
    (raiseTo p k arg s).meas = s.meas ∧ (raiseTo p k arg s).render = s.render ∧ (raiseTo p k arg s).panel = s.panel ∧
    (raiseTo p k arg s).ports.claim = s.ports.claim ∧ (raiseTo p k arg s).ports.con.levels = s.ports.con.levels ∧
    (raiseTo p k arg s).ports.con.stream = s.ports.con.stream ∧ (raiseTo p k arg s).ports.conOut = s.ports.conOut ∧
    (raiseTo p k arg s).ports.conReplies = s.ports.conReplies ∧
    (raiseTo p k arg s).ports.conService = s.ports.conService ∧ (raiseTo p k arg s).ports.link = s.ports.link ∧
    (raiseTo p k arg s).ports.outFrame = s.ports.outFrame ∧
    (raiseTo p k arg s).ports.remoteWake = s.ports.remoteWake ∧
    (raiseTo p k arg s).ports.teth.levels = s.ports.teth.levels ∧
    (raiseTo p k arg s).ports.teth.stream = s.ports.teth.stream ∧
    (raiseTo p k arg s).ports.tethOut = s.ports.tethOut ∧
    (raiseTo p k arg s).ports.tethReplies = s.ports.tethReplies ∧
    (raiseTo p k arg s).ports.tethService = s.ports.tethService ∧ (raiseTo p k arg s).ports.vbus = s.ports.vbus ∧
    (raiseTo p k arg s).power = s.power ∧ (raiseTo p k arg s).free = s.free ∧
    (raiseTo p k arg s).pending = s.pending := by
  unfold raiseTo <;> (try dsimp only) <;> (repeat' split) <;> simp

@[simp] theorem raiseStarter_frame (slot : Nat) (k : AlertKind) (s : State) :
    (raiseStarter slot k s).fe = s.fe ∧ (raiseStarter slot k s).comp = s.comp ∧ (raiseStarter slot k s).tap = s.tap ∧
    (raiseStarter slot k s).writer = s.writer ∧ (raiseStarter slot k s).seq = s.seq ∧
    (raiseStarter slot k s).store = s.store ∧ (raiseStarter slot k s).mc = s.mc ∧
    (raiseStarter slot k s).slots = s.slots ∧ (raiseStarter slot k s).notes = s.notes ∧
    (raiseStarter slot k s).meas = s.meas ∧ (raiseStarter slot k s).render = s.render ∧
    (raiseStarter slot k s).panel = s.panel ∧ (raiseStarter slot k s).ports.claim = s.ports.claim ∧
    (raiseStarter slot k s).ports.con.levels = s.ports.con.levels ∧
    (raiseStarter slot k s).ports.con.stream = s.ports.con.stream ∧
    (raiseStarter slot k s).ports.conOut = s.ports.conOut ∧
    (raiseStarter slot k s).ports.conReplies = s.ports.conReplies ∧
    (raiseStarter slot k s).ports.conService = s.ports.conService ∧
    (raiseStarter slot k s).ports.link = s.ports.link ∧ (raiseStarter slot k s).ports.outFrame = s.ports.outFrame ∧
    (raiseStarter slot k s).ports.remoteWake = s.ports.remoteWake ∧
    (raiseStarter slot k s).ports.teth.levels = s.ports.teth.levels ∧
    (raiseStarter slot k s).ports.teth.stream = s.ports.teth.stream ∧
    (raiseStarter slot k s).ports.tethOut = s.ports.tethOut ∧
    (raiseStarter slot k s).ports.tethReplies = s.ports.tethReplies ∧
    (raiseStarter slot k s).ports.tethService = s.ports.tethService ∧
    (raiseStarter slot k s).ports.vbus = s.ports.vbus ∧ (raiseStarter slot k s).power = s.power ∧
    (raiseStarter slot k s).free = s.free ∧ (raiseStarter slot k s).pending = s.pending := by
  unfold raiseStarter <;> (try dsimp only) <;> (repeat' split) <;> simp

@[simp] theorem answerDeferred_frame (q : Asker) (st : Status) (body : ReplyBody) (last : Bool) (s : State) :
    (answerDeferred q st body last s).fe = s.fe ∧ (answerDeferred q st body last s).comp = s.comp ∧
    (answerDeferred q st body last s).tap = s.tap ∧ (answerDeferred q st body last s).writer = s.writer ∧
    (answerDeferred q st body last s).seq = s.seq ∧ (answerDeferred q st body last s).store = s.store ∧
    (answerDeferred q st body last s).mc = s.mc ∧ (answerDeferred q st body last s).slots = s.slots ∧
    (answerDeferred q st body last s).notes = s.notes ∧ (answerDeferred q st body last s).meas = s.meas ∧
    (answerDeferred q st body last s).render = s.render ∧ (answerDeferred q st body last s).panel = s.panel ∧
    (answerDeferred q st body last s).ports.attn = s.ports.attn ∧
    (answerDeferred q st body last s).ports.claim = s.ports.claim ∧
    (answerDeferred q st body last s).ports.con = s.ports.con ∧
    (answerDeferred q st body last s).ports.conOut = s.ports.conOut ∧
    (answerDeferred q st body last s).ports.link = s.ports.link ∧
    (answerDeferred q st body last s).ports.outFrame = s.ports.outFrame ∧
    (answerDeferred q st body last s).ports.remoteWake = s.ports.remoteWake ∧
    (answerDeferred q st body last s).ports.resuming = s.ports.resuming ∧
    (answerDeferred q st body last s).ports.teth = s.ports.teth ∧
    (answerDeferred q st body last s).ports.tethOut = s.ports.tethOut ∧
    (answerDeferred q st body last s).ports.vbus = s.ports.vbus ∧ (answerDeferred q st body last s).power = s.power ∧
    (answerDeferred q st body last s).free = s.free ∧ (answerDeferred q st body last s).pending = s.pending := by
  unfold answerDeferred <;> (try dsimp only) <;> (repeat' split) <;> simp

@[simp] theorem pumpTether_frame (s : State) :
    (pumpTether s).fe = s.fe ∧ (pumpTether s).comp = s.comp ∧ (pumpTether s).tap = s.tap ∧
    (pumpTether s).writer = s.writer ∧ (pumpTether s).seq = s.seq ∧ (pumpTether s).store = s.store ∧
    (pumpTether s).mc = s.mc ∧ (pumpTether s).slots = s.slots ∧ (pumpTether s).notes = s.notes ∧
    (pumpTether s).meas = s.meas ∧ (pumpTether s).render = s.render ∧ (pumpTether s).panel = s.panel ∧
    (pumpTether s).ports.attn = s.ports.attn ∧ (pumpTether s).ports.claim = s.ports.claim ∧
    (pumpTether s).ports.con = s.ports.con ∧ (pumpTether s).ports.conOut = s.ports.conOut ∧
    (pumpTether s).ports.conReplies = s.ports.conReplies ∧ (pumpTether s).ports.conService = s.ports.conService ∧
    (pumpTether s).ports.link = s.ports.link ∧ (pumpTether s).ports.outFrame = s.ports.outFrame ∧
    (pumpTether s).ports.remoteWake = s.ports.remoteWake ∧ (pumpTether s).ports.resuming = s.ports.resuming ∧
    (pumpTether s).ports.teth.alerts = s.ports.teth.alerts ∧ (pumpTether s).ports.teth.levels = s.ports.teth.levels ∧
    (pumpTether s).ports.tethOut = s.ports.tethOut ∧ (pumpTether s).ports.tethReplies = s.ports.tethReplies ∧
    (pumpTether s).ports.tethService = s.ports.tethService ∧ (pumpTether s).ports.vbus = s.ports.vbus ∧
    (pumpTether s).power = s.power ∧ (pumpTether s).free = s.free ∧ (pumpTether s).pending = s.pending := by
  unfold pumpTether <;> (try dsimp only) <;> (repeat' split) <;> simp

@[simp] theorem removeNotes_frame (k : Nat) (keep : Note → Bool) (s : State) :
    (removeNotes k keep s).fe = s.fe ∧ (removeNotes k keep s).comp = s.comp ∧ (removeNotes k keep s).tap = s.tap ∧
    (removeNotes k keep s).writer = s.writer ∧ (removeNotes k keep s).seq = s.seq ∧
    (removeNotes k keep s).store = s.store ∧ (removeNotes k keep s).mc = s.mc ∧
    (removeNotes k keep s).slots = s.slots ∧ (removeNotes k keep s).meas = s.meas ∧
    (removeNotes k keep s).render.again = s.render.again ∧
    (removeNotes k keep s).render.completed = s.render.completed ∧
    (removeNotes k keep s).render.cursorA = s.render.cursorA ∧
    (removeNotes k keep s).render.cursorB = s.render.cursorB ∧ (removeNotes k keep s).render.dirty = s.render.dirty ∧
    (removeNotes k keep s).render.divider = s.render.divider ∧
    (removeNotes k keep s).render.drawnA = s.render.drawnA ∧ (removeNotes k keep s).render.drawnB = s.render.drawnB ∧
    (removeNotes k keep s).render.frame = s.render.frame ∧ (removeNotes k keep s).render.latch = s.render.latch ∧
    (removeNotes k keep s).render.layout = s.render.layout ∧
    (removeNotes k keep s).render.liveCount = s.render.liveCount ∧
    (removeNotes k keep s).render.palette = s.render.palette ∧ (removeNotes k keep s).render.trace = s.render.trace ∧
    (removeNotes k keep s).render.view = s.render.view ∧ (removeNotes k keep s).panel = s.panel ∧
    (removeNotes k keep s).ports.attn = s.ports.attn ∧ (removeNotes k keep s).ports.claim = s.ports.claim ∧
    (removeNotes k keep s).ports.con.alerts = s.ports.con.alerts ∧
    (removeNotes k keep s).ports.con.levels = s.ports.con.levels ∧
    (removeNotes k keep s).ports.conOut = s.ports.conOut ∧
    (removeNotes k keep s).ports.conReplies = s.ports.conReplies ∧
    (removeNotes k keep s).ports.conService = s.ports.conService ∧ (removeNotes k keep s).ports.link = s.ports.link ∧
    (removeNotes k keep s).ports.outFrame = s.ports.outFrame ∧
    (removeNotes k keep s).ports.remoteWake = s.ports.remoteWake ∧
    (removeNotes k keep s).ports.resuming = s.ports.resuming ∧
    (removeNotes k keep s).ports.teth.alerts = s.ports.teth.alerts ∧
    (removeNotes k keep s).ports.teth.levels = s.ports.teth.levels ∧
    (removeNotes k keep s).ports.tethOut = s.ports.tethOut ∧
    (removeNotes k keep s).ports.tethReplies = s.ports.tethReplies ∧
    (removeNotes k keep s).ports.tethService = s.ports.tethService ∧
    (removeNotes k keep s).ports.vbus = s.ports.vbus ∧ (removeNotes k keep s).power = s.power ∧
    (removeNotes k keep s).pending = s.pending := by
  simp [removeNotes]

@[simp] theorem purgeSegment_frame (n : Nat) (s : State) :
    (purgeSegment n s).fe = s.fe ∧ (purgeSegment n s).comp = s.comp ∧ (purgeSegment n s).tap = s.tap ∧
    (purgeSegment n s).writer = s.writer ∧ (purgeSegment n s).seq = s.seq ∧ (purgeSegment n s).store = s.store ∧
    (purgeSegment n s).mc = s.mc ∧ (purgeSegment n s).slots = s.slots ∧ (purgeSegment n s).meas = s.meas ∧
    (purgeSegment n s).render.again = s.render.again ∧ (purgeSegment n s).render.completed = s.render.completed ∧
    (purgeSegment n s).render.cursorA = s.render.cursorA ∧ (purgeSegment n s).render.cursorB = s.render.cursorB ∧
    (purgeSegment n s).render.dirty = s.render.dirty ∧ (purgeSegment n s).render.divider = s.render.divider ∧
    (purgeSegment n s).render.drawnA = s.render.drawnA ∧ (purgeSegment n s).render.drawnB = s.render.drawnB ∧
    (purgeSegment n s).render.frame = s.render.frame ∧ (purgeSegment n s).render.latch = s.render.latch ∧
    (purgeSegment n s).render.layout = s.render.layout ∧ (purgeSegment n s).render.liveCount = s.render.liveCount ∧
    (purgeSegment n s).render.palette = s.render.palette ∧ (purgeSegment n s).render.trace = s.render.trace ∧
    (purgeSegment n s).render.view = s.render.view ∧ (purgeSegment n s).panel = s.panel ∧
    (purgeSegment n s).ports.attn = s.ports.attn ∧ (purgeSegment n s).ports.claim = s.ports.claim ∧
    (purgeSegment n s).ports.con.alerts = s.ports.con.alerts ∧
    (purgeSegment n s).ports.con.levels = s.ports.con.levels ∧ (purgeSegment n s).ports.conOut = s.ports.conOut ∧
    (purgeSegment n s).ports.conReplies = s.ports.conReplies ∧
    (purgeSegment n s).ports.conService = s.ports.conService ∧ (purgeSegment n s).ports.link = s.ports.link ∧
    (purgeSegment n s).ports.outFrame = s.ports.outFrame ∧ (purgeSegment n s).ports.remoteWake = s.ports.remoteWake ∧
    (purgeSegment n s).ports.resuming = s.ports.resuming ∧
    (purgeSegment n s).ports.teth.alerts = s.ports.teth.alerts ∧
    (purgeSegment n s).ports.teth.levels = s.ports.teth.levels ∧ (purgeSegment n s).ports.tethOut = s.ports.tethOut ∧
    (purgeSegment n s).ports.tethReplies = s.ports.tethReplies ∧
    (purgeSegment n s).ports.tethService = s.ports.tethService ∧ (purgeSegment n s).ports.vbus = s.ports.vbus ∧
    (purgeSegment n s).power = s.power ∧ (purgeSegment n s).pending = s.pending := by
  simp [purgeSegment]

@[simp] theorem purgeSlot_frame (k : Nat) (s : State) :
    (purgeSlot k s).fe = s.fe ∧ (purgeSlot k s).comp = s.comp ∧ (purgeSlot k s).tap = s.tap ∧
    (purgeSlot k s).writer = s.writer ∧ (purgeSlot k s).seq = s.seq ∧ (purgeSlot k s).store = s.store ∧
    (purgeSlot k s).mc = s.mc ∧ (purgeSlot k s).slots = s.slots ∧ (purgeSlot k s).meas = s.meas ∧
    (purgeSlot k s).render.again = s.render.again ∧ (purgeSlot k s).render.completed = s.render.completed ∧
    (purgeSlot k s).render.cursorA = s.render.cursorA ∧ (purgeSlot k s).render.cursorB = s.render.cursorB ∧
    (purgeSlot k s).render.dirty = s.render.dirty ∧ (purgeSlot k s).render.divider = s.render.divider ∧
    (purgeSlot k s).render.drawnA = s.render.drawnA ∧ (purgeSlot k s).render.drawnB = s.render.drawnB ∧
    (purgeSlot k s).render.frame = s.render.frame ∧ (purgeSlot k s).render.latch = s.render.latch ∧
    (purgeSlot k s).render.layout = s.render.layout ∧ (purgeSlot k s).render.liveCount = s.render.liveCount ∧
    (purgeSlot k s).render.palette = s.render.palette ∧ (purgeSlot k s).render.trace = s.render.trace ∧
    (purgeSlot k s).render.view = s.render.view ∧ (purgeSlot k s).panel = s.panel ∧
    (purgeSlot k s).ports.attn = s.ports.attn ∧ (purgeSlot k s).ports.claim = s.ports.claim ∧
    (purgeSlot k s).ports.con.alerts = s.ports.con.alerts ∧ (purgeSlot k s).ports.con.levels = s.ports.con.levels ∧
    (purgeSlot k s).ports.conOut = s.ports.conOut ∧ (purgeSlot k s).ports.conReplies = s.ports.conReplies ∧
    (purgeSlot k s).ports.conService = s.ports.conService ∧ (purgeSlot k s).ports.link = s.ports.link ∧
    (purgeSlot k s).ports.outFrame = s.ports.outFrame ∧ (purgeSlot k s).ports.remoteWake = s.ports.remoteWake ∧
    (purgeSlot k s).ports.resuming = s.ports.resuming ∧ (purgeSlot k s).ports.teth.alerts = s.ports.teth.alerts ∧
    (purgeSlot k s).ports.teth.levels = s.ports.teth.levels ∧ (purgeSlot k s).ports.tethOut = s.ports.tethOut ∧
    (purgeSlot k s).ports.tethReplies = s.ports.tethReplies ∧
    (purgeSlot k s).ports.tethService = s.ports.tethService ∧ (purgeSlot k s).ports.vbus = s.ports.vbus ∧
    (purgeSlot k s).power = s.power ∧ (purgeSlot k s).pending = s.pending := by
  simp [purgeSlot]

@[simp] theorem withdraw_frame (q : Requester) (slot : Nat) (s : State) :
    (withdraw q slot s).fe = s.fe ∧ (withdraw q slot s).comp = s.comp ∧ (withdraw q slot s).tap = s.tap ∧
    (withdraw q slot s).writer = s.writer ∧ (withdraw q slot s).seq = s.seq ∧ (withdraw q slot s).store = s.store ∧
    (withdraw q slot s).mc.banks = s.mc.banks ∧ (withdraw q slot s).mc.debt = s.mc.debt ∧
    (withdraw q slot s).mc.init = s.mc.init ∧ (withdraw q slot s).mc.last = s.mc.last ∧
    (withdraw q slot s).mc.lastSlot = s.mc.lastSlot ∧ (withdraw q slot s).mc.phase = s.mc.phase ∧
    (withdraw q slot s).mc.st = s.mc.st ∧ (withdraw q slot s).slots = s.slots ∧ (withdraw q slot s).notes = s.notes ∧
    (withdraw q slot s).meas = s.meas ∧ (withdraw q slot s).render = s.render ∧ (withdraw q slot s).panel = s.panel ∧
    (withdraw q slot s).ports = s.ports ∧ (withdraw q slot s).power = s.power ∧ (withdraw q slot s).free = s.free ∧
    (withdraw q slot s).pending = s.pending := by
  simp [withdraw]

@[simp] theorem storeLowTest_frame (s : State) :
    (storeLowTest s).fe = s.fe ∧ (storeLowTest s).comp = s.comp ∧ (storeLowTest s).tap = s.tap ∧
    (storeLowTest s).writer = s.writer ∧ (storeLowTest s).seq = s.seq ∧
    (storeLowTest s).store.available = s.store.available ∧ (storeLowTest s).store.blocks = s.store.blocks ∧
    (storeLowTest s).store.freeList = s.store.freeList ∧ (storeLowTest s).store.low = s.store.low ∧
    (storeLowTest s).store.mem = s.store.mem ∧ (storeLowTest s).store.sealCounter = s.store.sealCounter ∧
    (storeLowTest s).store.segs = s.store.segs ∧ (storeLowTest s).mc = s.mc ∧ (storeLowTest s).slots = s.slots ∧
    (storeLowTest s).notes = s.notes ∧ (storeLowTest s).meas = s.meas ∧ (storeLowTest s).render = s.render ∧
    (storeLowTest s).panel = s.panel ∧ (storeLowTest s).ports.claim = s.ports.claim ∧
    (storeLowTest s).ports.con.levels = s.ports.con.levels ∧ (storeLowTest s).ports.con.stream = s.ports.con.stream ∧
    (storeLowTest s).ports.conOut = s.ports.conOut ∧ (storeLowTest s).ports.conReplies = s.ports.conReplies ∧
    (storeLowTest s).ports.conService = s.ports.conService ∧ (storeLowTest s).ports.link = s.ports.link ∧
    (storeLowTest s).ports.outFrame = s.ports.outFrame ∧ (storeLowTest s).ports.remoteWake = s.ports.remoteWake ∧
    (storeLowTest s).ports.teth.levels = s.ports.teth.levels ∧
    (storeLowTest s).ports.teth.stream = s.ports.teth.stream ∧ (storeLowTest s).ports.tethOut = s.ports.tethOut ∧
    (storeLowTest s).ports.tethReplies = s.ports.tethReplies ∧
    (storeLowTest s).ports.tethService = s.ports.tethService ∧ (storeLowTest s).ports.vbus = s.ports.vbus ∧
    (storeLowTest s).power = s.power ∧ (storeLowTest s).free = s.free ∧ (storeLowTest s).pending = s.pending := by
  unfold storeLowTest <;> (try dsimp only) <;> (repeat' split) <;> simp

@[simp] theorem forgetSegment_frame (n : Nat) (s : State) :
    (forgetSegment n s).fe = s.fe ∧ (forgetSegment n s).comp = s.comp ∧
    (forgetSegment n s).tap.gapOpen = s.tap.gapOpen ∧ (forgetSegment n s).writer = s.writer ∧
    (forgetSegment n s).seq = s.seq ∧ (forgetSegment n s).store = s.store ∧ (forgetSegment n s).mc = s.mc ∧
    (forgetSegment n s).slots.length = s.slots.length ∧ (forgetSegment n s).notes = s.notes ∧
    (forgetSegment n s).meas = s.meas ∧ (forgetSegment n s).render = s.render ∧ (forgetSegment n s).panel = s.panel ∧
    (forgetSegment n s).ports = s.ports ∧ (forgetSegment n s).power = s.power ∧ (forgetSegment n s).free = s.free ∧
    (forgetSegment n s).pending = s.pending := by
  simp [forgetSegment]

@[simp] theorem freeSegment_frame (n : Nat) (s : State) :
    (freeSegment n s).fe = s.fe ∧ (freeSegment n s).comp = s.comp ∧ (freeSegment n s).tap.gapOpen = s.tap.gapOpen ∧
    (freeSegment n s).writer = s.writer ∧ (freeSegment n s).seq = s.seq ∧
    (freeSegment n s).store.available = s.store.available ∧ (freeSegment n s).store.blocks = s.store.blocks ∧
    (freeSegment n s).store.low = s.store.low ∧ (freeSegment n s).store.mem = s.store.mem ∧
    (freeSegment n s).store.sealCounter = s.store.sealCounter ∧ (freeSegment n s).mc = s.mc ∧
    (freeSegment n s).slots.length = s.slots.length ∧ (freeSegment n s).meas = s.meas ∧
    (freeSegment n s).render.again = s.render.again ∧ (freeSegment n s).render.completed = s.render.completed ∧
    (freeSegment n s).render.cursorA = s.render.cursorA ∧ (freeSegment n s).render.cursorB = s.render.cursorB ∧
    (freeSegment n s).render.dirty = s.render.dirty ∧ (freeSegment n s).render.divider = s.render.divider ∧
    (freeSegment n s).render.drawnA = s.render.drawnA ∧ (freeSegment n s).render.drawnB = s.render.drawnB ∧
    (freeSegment n s).render.frame = s.render.frame ∧ (freeSegment n s).render.latch = s.render.latch ∧
    (freeSegment n s).render.layout = s.render.layout ∧ (freeSegment n s).render.liveCount = s.render.liveCount ∧
    (freeSegment n s).render.palette = s.render.palette ∧ (freeSegment n s).render.trace = s.render.trace ∧
    (freeSegment n s).render.view = s.render.view ∧ (freeSegment n s).panel = s.panel ∧
    (freeSegment n s).ports.claim = s.ports.claim ∧ (freeSegment n s).ports.con.levels = s.ports.con.levels ∧
    (freeSegment n s).ports.conOut = s.ports.conOut ∧ (freeSegment n s).ports.conReplies = s.ports.conReplies ∧
    (freeSegment n s).ports.conService = s.ports.conService ∧ (freeSegment n s).ports.link = s.ports.link ∧
    (freeSegment n s).ports.outFrame = s.ports.outFrame ∧ (freeSegment n s).ports.remoteWake = s.ports.remoteWake ∧
    (freeSegment n s).ports.teth.levels = s.ports.teth.levels ∧ (freeSegment n s).ports.tethOut = s.ports.tethOut ∧
    (freeSegment n s).ports.tethReplies = s.ports.tethReplies ∧
    (freeSegment n s).ports.tethService = s.ports.tethService ∧ (freeSegment n s).ports.vbus = s.ports.vbus ∧
    (freeSegment n s).power = s.power ∧ (freeSegment n s).pending = s.pending := by
  simp [freeSegment]

@[simp] theorem dropPin_frame (n : Nat) (f : Pins → Pins) (s : State) :
    (dropPin n f s).fe = s.fe ∧ (dropPin n f s).comp = s.comp ∧ (dropPin n f s).tap.gapOpen = s.tap.gapOpen ∧
    (dropPin n f s).writer = s.writer ∧ (dropPin n f s).seq = s.seq ∧
    (dropPin n f s).store.available = s.store.available ∧ (dropPin n f s).store.blocks = s.store.blocks ∧
    (dropPin n f s).store.low = s.store.low ∧ (dropPin n f s).store.mem = s.store.mem ∧
    (dropPin n f s).store.sealCounter = s.store.sealCounter ∧ (dropPin n f s).mc = s.mc ∧
    (dropPin n f s).slots.length = s.slots.length ∧ (dropPin n f s).meas = s.meas ∧
    (dropPin n f s).render.again = s.render.again ∧ (dropPin n f s).render.completed = s.render.completed ∧
    (dropPin n f s).render.cursorA = s.render.cursorA ∧ (dropPin n f s).render.cursorB = s.render.cursorB ∧
    (dropPin n f s).render.dirty = s.render.dirty ∧ (dropPin n f s).render.divider = s.render.divider ∧
    (dropPin n f s).render.drawnA = s.render.drawnA ∧ (dropPin n f s).render.drawnB = s.render.drawnB ∧
    (dropPin n f s).render.frame = s.render.frame ∧ (dropPin n f s).render.latch = s.render.latch ∧
    (dropPin n f s).render.layout = s.render.layout ∧ (dropPin n f s).render.liveCount = s.render.liveCount ∧
    (dropPin n f s).render.palette = s.render.palette ∧ (dropPin n f s).render.trace = s.render.trace ∧
    (dropPin n f s).render.view = s.render.view ∧ (dropPin n f s).panel = s.panel ∧
    (dropPin n f s).ports.claim = s.ports.claim ∧ (dropPin n f s).ports.con.levels = s.ports.con.levels ∧
    (dropPin n f s).ports.conOut = s.ports.conOut ∧ (dropPin n f s).ports.conReplies = s.ports.conReplies ∧
    (dropPin n f s).ports.conService = s.ports.conService ∧ (dropPin n f s).ports.link = s.ports.link ∧
    (dropPin n f s).ports.outFrame = s.ports.outFrame ∧ (dropPin n f s).ports.remoteWake = s.ports.remoteWake ∧
    (dropPin n f s).ports.teth.levels = s.ports.teth.levels ∧ (dropPin n f s).ports.tethOut = s.ports.tethOut ∧
    (dropPin n f s).ports.tethReplies = s.ports.tethReplies ∧
    (dropPin n f s).ports.tethService = s.ports.tethService ∧ (dropPin n f s).ports.vbus = s.ports.vbus ∧
    (dropPin n f s).power = s.power ∧ (dropPin n f s).pending = s.pending := by
  unfold dropPin <;> (try dsimp only) <;> (repeat' split) <;> simp

@[simp] theorem reclaimForArm_frame  (n : Nat) (s : State) :
    (reclaimForArm  n s).fe = s.fe ∧ (reclaimForArm  n s).comp = s.comp ∧
    (reclaimForArm  n s).tap.gapOpen = s.tap.gapOpen ∧ (reclaimForArm  n s).writer = s.writer ∧
    (reclaimForArm  n s).seq = s.seq ∧ (reclaimForArm  n s).store.available = s.store.available ∧
    (reclaimForArm  n s).store.blocks = s.store.blocks ∧ (reclaimForArm  n s).store.low = s.store.low ∧
    (reclaimForArm  n s).store.mem = s.store.mem ∧ (reclaimForArm  n s).store.sealCounter = s.store.sealCounter ∧
    (reclaimForArm  n s).mc = s.mc ∧ (reclaimForArm  n s).slots.length = s.slots.length ∧
    (reclaimForArm  n s).meas = s.meas ∧ (reclaimForArm  n s).render.again = s.render.again ∧
    (reclaimForArm  n s).render.completed = s.render.completed ∧
    (reclaimForArm  n s).render.cursorA = s.render.cursorA ∧ (reclaimForArm  n s).render.cursorB = s.render.cursorB ∧
    (reclaimForArm  n s).render.dirty = s.render.dirty ∧ (reclaimForArm  n s).render.divider = s.render.divider ∧
    (reclaimForArm  n s).render.drawnA = s.render.drawnA ∧ (reclaimForArm  n s).render.drawnB = s.render.drawnB ∧
    (reclaimForArm  n s).render.frame = s.render.frame ∧ (reclaimForArm  n s).render.latch = s.render.latch ∧
    (reclaimForArm  n s).render.layout = s.render.layout ∧
    (reclaimForArm  n s).render.liveCount = s.render.liveCount ∧
    (reclaimForArm  n s).render.palette = s.render.palette ∧ (reclaimForArm  n s).render.trace = s.render.trace ∧
    (reclaimForArm  n s).render.view = s.render.view ∧ (reclaimForArm  n s).panel = s.panel ∧
    (reclaimForArm  n s).ports.claim = s.ports.claim ∧ (reclaimForArm  n s).ports.con.levels = s.ports.con.levels ∧
    (reclaimForArm  n s).ports.conOut = s.ports.conOut ∧ (reclaimForArm  n s).ports.conReplies = s.ports.conReplies ∧
    (reclaimForArm  n s).ports.conService = s.ports.conService ∧ (reclaimForArm  n s).ports.link = s.ports.link ∧
    (reclaimForArm  n s).ports.outFrame = s.ports.outFrame ∧
    (reclaimForArm  n s).ports.remoteWake = s.ports.remoteWake ∧
    (reclaimForArm  n s).ports.teth.levels = s.ports.teth.levels ∧
    (reclaimForArm  n s).ports.tethOut = s.ports.tethOut ∧
    (reclaimForArm  n s).ports.tethReplies = s.ports.tethReplies ∧
    (reclaimForArm  n s).ports.tethService = s.ports.tethService ∧ (reclaimForArm  n s).ports.vbus = s.ports.vbus ∧
    (reclaimForArm  n s).power = s.power ∧ (reclaimForArm  n s).pending = s.pending := by
  induction n generalizing s with
  | zero => simp [reclaimForArm]
  | succ _ ih => simp only [reclaimForArm] <;> (repeat' split) <;> simp [ih]

@[simp] theorem trimSegment_frame (n : Nat) (s : State) :
    (trimSegment n s).fe = s.fe ∧ (trimSegment n s).comp = s.comp ∧ (trimSegment n s).tap = s.tap ∧
    (trimSegment n s).writer = s.writer ∧ (trimSegment n s).seq = s.seq ∧
    (trimSegment n s).store.available = s.store.available ∧ (trimSegment n s).store.blocks = s.store.blocks ∧
    (trimSegment n s).store.low = s.store.low ∧ (trimSegment n s).store.mem = s.store.mem ∧
    (trimSegment n s).store.sealCounter = s.store.sealCounter ∧ (trimSegment n s).mc = s.mc ∧
    (trimSegment n s).slots = s.slots ∧ (trimSegment n s).notes = s.notes ∧ (trimSegment n s).meas = s.meas ∧
    (trimSegment n s).render = s.render ∧ (trimSegment n s).panel = s.panel ∧ (trimSegment n s).ports = s.ports ∧
    (trimSegment n s).power = s.power ∧ (trimSegment n s).free = s.free ∧ (trimSegment n s).pending = s.pending := by
  unfold trimSegment <;> (try dsimp only) <;> (repeat' split) <;> simp

@[simp] theorem takeBlock_frame (n base : Nat) (s : State) :
    ((takeBlock n base s)).1.fe = s.fe ∧ ((takeBlock n base s)).1.comp = s.comp ∧
    ((takeBlock n base s)).1.tap = s.tap ∧ ((takeBlock n base s)).1.writer = s.writer ∧
    ((takeBlock n base s)).1.seq = s.seq ∧ ((takeBlock n base s)).1.store.available = s.store.available ∧
    ((takeBlock n base s)).1.store.low = s.store.low ∧ ((takeBlock n base s)).1.store.mem = s.store.mem ∧
    ((takeBlock n base s)).1.store.sealCounter = s.store.sealCounter ∧ ((takeBlock n base s)).1.mc = s.mc ∧
    ((takeBlock n base s)).1.slots = s.slots ∧ ((takeBlock n base s)).1.notes = s.notes ∧
    ((takeBlock n base s)).1.meas = s.meas ∧ ((takeBlock n base s)).1.render = s.render ∧
    ((takeBlock n base s)).1.panel = s.panel ∧ ((takeBlock n base s)).1.ports = s.ports ∧
    ((takeBlock n base s)).1.power = s.power ∧ ((takeBlock n base s)).1.free = s.free ∧
    ((takeBlock n base s)).1.pending = s.pending := by
  unfold takeBlock <;> (try dsimp only) <;> (repeat' split) <;> simp

@[simp] theorem requestBlock_frame (n base : Nat) (s : State) :
    ((requestBlock n base s)).1.fe = s.fe ∧ ((requestBlock n base s)).1.comp = s.comp ∧
    ((requestBlock n base s)).1.tap = s.tap ∧ ((requestBlock n base s)).1.writer = s.writer ∧
    ((requestBlock n base s)).1.seq = s.seq ∧ ((requestBlock n base s)).1.store.available = s.store.available ∧
    ((requestBlock n base s)).1.store.low = s.store.low ∧ ((requestBlock n base s)).1.store.mem = s.store.mem ∧
    ((requestBlock n base s)).1.store.sealCounter = s.store.sealCounter ∧ ((requestBlock n base s)).1.mc = s.mc ∧
    ((requestBlock n base s)).1.slots = s.slots ∧ ((requestBlock n base s)).1.notes = s.notes ∧
    ((requestBlock n base s)).1.meas = s.meas ∧ ((requestBlock n base s)).1.render = s.render ∧
    ((requestBlock n base s)).1.panel = s.panel ∧ ((requestBlock n base s)).1.ports.claim = s.ports.claim ∧
    ((requestBlock n base s)).1.ports.con.levels = s.ports.con.levels ∧
    ((requestBlock n base s)).1.ports.con.stream = s.ports.con.stream ∧
    ((requestBlock n base s)).1.ports.conOut = s.ports.conOut ∧
    ((requestBlock n base s)).1.ports.conReplies = s.ports.conReplies ∧
    ((requestBlock n base s)).1.ports.conService = s.ports.conService ∧
    ((requestBlock n base s)).1.ports.link = s.ports.link ∧
    ((requestBlock n base s)).1.ports.outFrame = s.ports.outFrame ∧
    ((requestBlock n base s)).1.ports.remoteWake = s.ports.remoteWake ∧
    ((requestBlock n base s)).1.ports.teth.levels = s.ports.teth.levels ∧
    ((requestBlock n base s)).1.ports.teth.stream = s.ports.teth.stream ∧
    ((requestBlock n base s)).1.ports.tethOut = s.ports.tethOut ∧
    ((requestBlock n base s)).1.ports.tethReplies = s.ports.tethReplies ∧
    ((requestBlock n base s)).1.ports.tethService = s.ports.tethService ∧
    ((requestBlock n base s)).1.ports.vbus = s.ports.vbus ∧ ((requestBlock n base s)).1.power = s.power ∧
    ((requestBlock n base s)).1.free = s.free ∧ ((requestBlock n base s)).1.pending = s.pending := by
  unfold requestBlock <;> (try dsimp only) <;> (repeat' split) <;> simp

/-! ## Capture -/

@[simp] theorem noteLoss_frame (s : State) :
    (noteLoss s).fe = s.fe ∧ (noteLoss s).comp = s.comp ∧ (noteLoss s).tap = s.tap ∧ (noteLoss s).writer = s.writer ∧
    (noteLoss s).seq = s.seq ∧ (noteLoss s).store.available = s.store.available ∧
    (noteLoss s).store.blocks = s.store.blocks ∧ (noteLoss s).store.freeList = s.store.freeList ∧
    (noteLoss s).store.low = s.store.low ∧ (noteLoss s).store.mem = s.store.mem ∧
    (noteLoss s).store.sealCounter = s.store.sealCounter ∧ (noteLoss s).mc = s.mc ∧ (noteLoss s).slots = s.slots ∧
    (noteLoss s).notes = s.notes ∧ (noteLoss s).meas = s.meas ∧ (noteLoss s).render = s.render ∧
    (noteLoss s).panel = s.panel ∧ (noteLoss s).ports.claim = s.ports.claim ∧
    (noteLoss s).ports.con.levels = s.ports.con.levels ∧ (noteLoss s).ports.con.stream = s.ports.con.stream ∧
    (noteLoss s).ports.conOut = s.ports.conOut ∧ (noteLoss s).ports.conReplies = s.ports.conReplies ∧
    (noteLoss s).ports.conService = s.ports.conService ∧ (noteLoss s).ports.link = s.ports.link ∧
    (noteLoss s).ports.outFrame = s.ports.outFrame ∧ (noteLoss s).ports.remoteWake = s.ports.remoteWake ∧
    (noteLoss s).ports.teth.levels = s.ports.teth.levels ∧ (noteLoss s).ports.teth.stream = s.ports.teth.stream ∧
    (noteLoss s).ports.tethOut = s.ports.tethOut ∧ (noteLoss s).ports.tethReplies = s.ports.tethReplies ∧
    (noteLoss s).ports.tethService = s.ports.tethService ∧ (noteLoss s).ports.vbus = s.ports.vbus ∧
    (noteLoss s).power = s.power ∧ (noteLoss s).free = s.free ∧ (noteLoss s).pending = s.pending := by
  unfold noteLoss <;> (try dsimp only) <;> (repeat' split) <;> simp

@[simp] theorem stageTick_frame (t : Nat) (st : Half) (pods : List Nat) (s : State) :
    (stageTick t st pods s).fe = s.fe ∧ (stageTick t st pods s).tap = s.tap ∧
    (stageTick t st pods s).writer = s.writer ∧ (stageTick t st pods s).seq = s.seq ∧
    (stageTick t st pods s).store.available = s.store.available ∧
    (stageTick t st pods s).store.blocks = s.store.blocks ∧
    (stageTick t st pods s).store.freeList = s.store.freeList ∧ (stageTick t st pods s).store.low = s.store.low ∧
    (stageTick t st pods s).store.mem = s.store.mem ∧
    (stageTick t st pods s).store.sealCounter = s.store.sealCounter ∧ (stageTick t st pods s).mc = s.mc ∧
    (stageTick t st pods s).slots = s.slots ∧ (stageTick t st pods s).notes = s.notes ∧
    (stageTick t st pods s).meas = s.meas ∧ (stageTick t st pods s).render = s.render ∧
    (stageTick t st pods s).panel = s.panel ∧ (stageTick t st pods s).ports.claim = s.ports.claim ∧
    (stageTick t st pods s).ports.con.levels = s.ports.con.levels ∧
    (stageTick t st pods s).ports.con.stream = s.ports.con.stream ∧
    (stageTick t st pods s).ports.conOut = s.ports.conOut ∧
    (stageTick t st pods s).ports.conReplies = s.ports.conReplies ∧
    (stageTick t st pods s).ports.conService = s.ports.conService ∧
    (stageTick t st pods s).ports.link = s.ports.link ∧ (stageTick t st pods s).ports.outFrame = s.ports.outFrame ∧
    (stageTick t st pods s).ports.remoteWake = s.ports.remoteWake ∧
    (stageTick t st pods s).ports.teth.levels = s.ports.teth.levels ∧
    (stageTick t st pods s).ports.teth.stream = s.ports.teth.stream ∧
    (stageTick t st pods s).ports.tethOut = s.ports.tethOut ∧
    (stageTick t st pods s).ports.tethReplies = s.ports.tethReplies ∧
    (stageTick t st pods s).ports.tethService = s.ports.tethService ∧
    (stageTick t st pods s).ports.vbus = s.ports.vbus ∧ (stageTick t st pods s).power = s.power ∧
    (stageTick t st pods s).free = s.free ∧ (stageTick t st pods s).pending = s.pending := by
  unfold stageTick <;> (try dsimp only) <;> (repeat' split) <;> simp

@[simp] theorem closeLossNow_frame (s : State) :
    (closeLossNow s).fe = s.fe ∧ (closeLossNow s).tap = s.tap ∧ (closeLossNow s).writer = s.writer ∧
    (closeLossNow s).seq = s.seq ∧ (closeLossNow s).store.available = s.store.available ∧
    (closeLossNow s).store.blocks = s.store.blocks ∧ (closeLossNow s).store.freeList = s.store.freeList ∧
    (closeLossNow s).store.low = s.store.low ∧ (closeLossNow s).store.mem = s.store.mem ∧
    (closeLossNow s).store.sealCounter = s.store.sealCounter ∧ (closeLossNow s).mc = s.mc ∧
    (closeLossNow s).slots = s.slots ∧ (closeLossNow s).notes = s.notes ∧ (closeLossNow s).meas = s.meas ∧
    (closeLossNow s).render = s.render ∧ (closeLossNow s).panel = s.panel ∧
    (closeLossNow s).ports.claim = s.ports.claim ∧ (closeLossNow s).ports.con.levels = s.ports.con.levels ∧
    (closeLossNow s).ports.con.stream = s.ports.con.stream ∧ (closeLossNow s).ports.conOut = s.ports.conOut ∧
    (closeLossNow s).ports.conReplies = s.ports.conReplies ∧ (closeLossNow s).ports.conService = s.ports.conService ∧
    (closeLossNow s).ports.link = s.ports.link ∧ (closeLossNow s).ports.outFrame = s.ports.outFrame ∧
    (closeLossNow s).ports.remoteWake = s.ports.remoteWake ∧
    (closeLossNow s).ports.teth.levels = s.ports.teth.levels ∧
    (closeLossNow s).ports.teth.stream = s.ports.teth.stream ∧ (closeLossNow s).ports.tethOut = s.ports.tethOut ∧
    (closeLossNow s).ports.tethReplies = s.ports.tethReplies ∧
    (closeLossNow s).ports.tethService = s.ports.tethService ∧ (closeLossNow s).ports.vbus = s.ports.vbus ∧
    (closeLossNow s).power = s.power ∧ (closeLossNow s).free = s.free ∧ (closeLossNow s).pending = s.pending := by
  unfold closeLossNow <;> (try dsimp only) <;> (repeat' split) <;> simp

@[simp] theorem closeHeldEnd_frame (s : State) :
    (closeHeldEnd s).fe = s.fe ∧ (closeHeldEnd s).tap = s.tap ∧ (closeHeldEnd s).writer = s.writer ∧
    (closeHeldEnd s).seq = s.seq ∧ (closeHeldEnd s).store.available = s.store.available ∧
    (closeHeldEnd s).store.blocks = s.store.blocks ∧ (closeHeldEnd s).store.freeList = s.store.freeList ∧
    (closeHeldEnd s).store.low = s.store.low ∧ (closeHeldEnd s).store.mem = s.store.mem ∧
    (closeHeldEnd s).store.sealCounter = s.store.sealCounter ∧ (closeHeldEnd s).mc = s.mc ∧
    (closeHeldEnd s).slots = s.slots ∧ (closeHeldEnd s).notes = s.notes ∧ (closeHeldEnd s).meas = s.meas ∧
    (closeHeldEnd s).render = s.render ∧ (closeHeldEnd s).panel = s.panel ∧
    (closeHeldEnd s).ports.claim = s.ports.claim ∧ (closeHeldEnd s).ports.con.levels = s.ports.con.levels ∧
    (closeHeldEnd s).ports.con.stream = s.ports.con.stream ∧ (closeHeldEnd s).ports.conOut = s.ports.conOut ∧
    (closeHeldEnd s).ports.conReplies = s.ports.conReplies ∧ (closeHeldEnd s).ports.conService = s.ports.conService ∧
    (closeHeldEnd s).ports.link = s.ports.link ∧ (closeHeldEnd s).ports.outFrame = s.ports.outFrame ∧
    (closeHeldEnd s).ports.remoteWake = s.ports.remoteWake ∧
    (closeHeldEnd s).ports.teth.levels = s.ports.teth.levels ∧
    (closeHeldEnd s).ports.teth.stream = s.ports.teth.stream ∧ (closeHeldEnd s).ports.tethOut = s.ports.tethOut ∧
    (closeHeldEnd s).ports.tethReplies = s.ports.tethReplies ∧
    (closeHeldEnd s).ports.tethService = s.ports.tethService ∧ (closeHeldEnd s).ports.vbus = s.ports.vbus ∧
    (closeHeldEnd s).power = s.power ∧ (closeHeldEnd s).free = s.free ∧ (closeHeldEnd s).pending = s.pending := by
  unfold closeHeldEnd <;> (try dsimp only) <;> (repeat' split) <;> simp

@[simp] theorem tapEvent_frame (t : Nat) (mk : Nat → Record) (owed : List Nat) (s : State) :
    (tapEvent t mk owed s).fe = s.fe ∧ (tapEvent t mk owed s).comp.last = s.comp.last ∧
    (tapEvent t mk owed s).comp.lastTick = s.comp.lastTick ∧ (tapEvent t mk owed s).comp.lossOpen = s.comp.lossOpen ∧
    (tapEvent t mk owed s).comp.staging = s.comp.staging ∧
    (tapEvent t mk owed s).comp.stagingTime = s.comp.stagingTime ∧ (tapEvent t mk owed s).writer = s.writer ∧
    (tapEvent t mk owed s).seq = s.seq ∧ (tapEvent t mk owed s).store = s.store ∧ (tapEvent t mk owed s).mc = s.mc ∧
    (tapEvent t mk owed s).slots = s.slots ∧ (tapEvent t mk owed s).notes = s.notes ∧
    (tapEvent t mk owed s).meas = s.meas ∧ (tapEvent t mk owed s).render = s.render ∧
    (tapEvent t mk owed s).panel = s.panel ∧ (tapEvent t mk owed s).ports = s.ports ∧
    (tapEvent t mk owed s).power = s.power ∧ (tapEvent t mk owed s).free = s.free ∧
    (tapEvent t mk owed s).pending = s.pending := by
  unfold tapEvent <;> (try dsimp only) <;> (repeat' split) <;> simp

@[simp] theorem tapBase_frame (t : Nat) (st : Half) (owed : List Nat) (s : State) :
    (tapBase t st owed s).fe = s.fe ∧ (tapBase t st owed s).comp.last = s.comp.last ∧
    (tapBase t st owed s).comp.lastTick = s.comp.lastTick ∧ (tapBase t st owed s).comp.lossOpen = s.comp.lossOpen ∧
    (tapBase t st owed s).comp.staging = s.comp.staging ∧
    (tapBase t st owed s).comp.stagingTime = s.comp.stagingTime ∧ (tapBase t st owed s).writer = s.writer ∧
    (tapBase t st owed s).seq = s.seq ∧ (tapBase t st owed s).store = s.store ∧ (tapBase t st owed s).mc = s.mc ∧
    (tapBase t st owed s).slots = s.slots ∧ (tapBase t st owed s).notes = s.notes ∧
    (tapBase t st owed s).meas = s.meas ∧ (tapBase t st owed s).render = s.render ∧
    (tapBase t st owed s).panel = s.panel ∧ (tapBase t st owed s).ports = s.ports ∧
    (tapBase t st owed s).power = s.power ∧ (tapBase t st owed s).free = s.free ∧
    (tapBase t st owed s).pending = s.pending := by
  unfold tapBase <;> (try dsimp only) <;> (repeat' split) <;> simp

@[simp] theorem tapPods_frame (t : Nat) (l : List Nat) (s : State) :
    (tapPods t l s).fe = s.fe ∧ (tapPods t l s).comp.last = s.comp.last ∧
    (tapPods t l s).comp.lastTick = s.comp.lastTick ∧ (tapPods t l s).comp.lossOpen = s.comp.lossOpen ∧
    (tapPods t l s).comp.staging = s.comp.staging ∧ (tapPods t l s).comp.stagingTime = s.comp.stagingTime ∧
    (tapPods t l s).writer = s.writer ∧ (tapPods t l s).seq = s.seq ∧ (tapPods t l s).store = s.store ∧
    (tapPods t l s).mc = s.mc ∧ (tapPods t l s).slots = s.slots ∧ (tapPods t l s).notes = s.notes ∧
    (tapPods t l s).meas = s.meas ∧ (tapPods t l s).render = s.render ∧ (tapPods t l s).panel = s.panel ∧
    (tapPods t l s).ports = s.ports ∧ (tapPods t l s).power = s.power ∧ (tapPods t l s).free = s.free ∧
    (tapPods t l s).pending = s.pending := by
  induction l generalizing s with
  | nil => simp [tapPods]
  | cons _ _ ih => simp [tapPods, ih]

@[simp] theorem closeTapGap_frame (t : Nat) (st : Half) (pods : List Nat) (s : State) :
    (closeTapGap t st pods s).fe = s.fe ∧ (closeTapGap t st pods s).comp.last = s.comp.last ∧
    (closeTapGap t st pods s).comp.lastTick = s.comp.lastTick ∧
    (closeTapGap t st pods s).comp.lossOpen = s.comp.lossOpen ∧
    (closeTapGap t st pods s).comp.staging = s.comp.staging ∧
    (closeTapGap t st pods s).comp.stagingTime = s.comp.stagingTime ∧ (closeTapGap t st pods s).writer = s.writer ∧
    (closeTapGap t st pods s).seq = s.seq ∧ (closeTapGap t st pods s).store = s.store ∧
    (closeTapGap t st pods s).mc = s.mc ∧ (closeTapGap t st pods s).slots = s.slots ∧
    (closeTapGap t st pods s).notes = s.notes ∧ (closeTapGap t st pods s).meas = s.meas ∧
    (closeTapGap t st pods s).render = s.render ∧ (closeTapGap t st pods s).panel = s.panel ∧
    (closeTapGap t st pods s).ports = s.ports ∧ (closeTapGap t st pods s).power = s.power ∧
    (closeTapGap t st pods s).free = s.free ∧ (closeTapGap t st pods s).pending = s.pending := by
  unfold closeTapGap <;> (try dsimp only) <;> (repeat' split) <;> simp

@[simp] theorem joinTap_frame (t : Nat) (st : Half) (l : List Nat) (s : State) :
    (joinTap t st l s).fe = s.fe ∧ (joinTap t st l s).comp.last = s.comp.last ∧
    (joinTap t st l s).comp.lastTick = s.comp.lastTick ∧ (joinTap t st l s).comp.lossOpen = s.comp.lossOpen ∧
    (joinTap t st l s).comp.staging = s.comp.staging ∧ (joinTap t st l s).comp.stagingTime = s.comp.stagingTime ∧
    (joinTap t st l s).writer = s.writer ∧ (joinTap t st l s).seq = s.seq ∧ (joinTap t st l s).store = s.store ∧
    (joinTap t st l s).mc = s.mc ∧ (joinTap t st l s).slots = s.slots ∧ (joinTap t st l s).notes = s.notes ∧
    (joinTap t st l s).meas = s.meas ∧ (joinTap t st l s).render = s.render ∧ (joinTap t st l s).panel = s.panel ∧
    (joinTap t st l s).ports = s.ports ∧ (joinTap t st l s).power = s.power ∧ (joinTap t st l s).free = s.free ∧
    (joinTap t st l s).pending = s.pending := by
  induction l generalizing s with
  | nil => simp [joinTap]
  | cons _ _ ih => simp [joinTap, ih]

@[simp] theorem tapTick_frame (t : Nat) (st was : Half) (pods : List Nat) (s : State) :
    (tapTick t st was pods s).fe = s.fe ∧ (tapTick t st was pods s).comp.last = s.comp.last ∧
    (tapTick t st was pods s).comp.lastTick = s.comp.lastTick ∧
    (tapTick t st was pods s).comp.lossOpen = s.comp.lossOpen ∧
    (tapTick t st was pods s).comp.staging = s.comp.staging ∧
    (tapTick t st was pods s).comp.stagingTime = s.comp.stagingTime ∧ (tapTick t st was pods s).writer = s.writer ∧
    (tapTick t st was pods s).seq = s.seq ∧ (tapTick t st was pods s).store = s.store ∧
    (tapTick t st was pods s).mc = s.mc ∧ (tapTick t st was pods s).slots = s.slots ∧
    (tapTick t st was pods s).notes = s.notes ∧ (tapTick t st was pods s).meas = s.meas ∧
    (tapTick t st was pods s).render = s.render ∧ (tapTick t st was pods s).panel = s.panel ∧
    (tapTick t st was pods s).ports = s.ports ∧ (tapTick t st was pods s).power = s.power ∧
    (tapTick t st was pods s).free = s.free ∧ (tapTick t st was pods s).pending = s.pending := by
  unfold tapTick <;> (try dsimp only) <;> (repeat' split) <;> simp

@[simp] theorem endTap_frame (t : Nat) (reason : SealReason) (s : State) :
    (endTap t reason s).fe = s.fe ∧ (endTap t reason s).comp.last = s.comp.last ∧
    (endTap t reason s).comp.lastTick = s.comp.lastTick ∧ (endTap t reason s).comp.lossOpen = s.comp.lossOpen ∧
    (endTap t reason s).comp.staging = s.comp.staging ∧ (endTap t reason s).comp.stagingTime = s.comp.stagingTime ∧
    (endTap t reason s).writer = s.writer ∧ (endTap t reason s).seq = s.seq ∧ (endTap t reason s).store = s.store ∧
    (endTap t reason s).mc = s.mc ∧ (endTap t reason s).slots = s.slots ∧ (endTap t reason s).notes = s.notes ∧
    (endTap t reason s).meas = s.meas ∧ (endTap t reason s).render = s.render ∧ (endTap t reason s).panel = s.panel ∧
    (endTap t reason s).ports = s.ports ∧ (endTap t reason s).power = s.power ∧ (endTap t reason s).free = s.free ∧
    (endTap t reason s).pending = s.pending := by
  unfold endTap <;> (try dsimp only) <;> (repeat' split) <;> simp

@[simp] theorem leaveTap_frame (k : Nat) (s : State) :
    (leaveTap k s).fe = s.fe ∧ (leaveTap k s).comp = s.comp ∧ (leaveTap k s).writer = s.writer ∧
    (leaveTap k s).seq = s.seq ∧ (leaveTap k s).store = s.store ∧ (leaveTap k s).mc = s.mc ∧
    (leaveTap k s).slots = s.slots ∧ (leaveTap k s).notes = s.notes ∧ (leaveTap k s).meas = s.meas ∧
    (leaveTap k s).render = s.render ∧ (leaveTap k s).panel = s.panel ∧ (leaveTap k s).ports = s.ports ∧
    (leaveTap k s).power = s.power ∧ (leaveTap k s).free = s.free ∧ (leaveTap k s).pending = s.pending := by
  unfold leaveTap <;> (try dsimp only) <;> (repeat' split) <;> simp

@[simp] theorem closeIdleGap_frame (s : State) :
    (closeIdleGap s).fe = s.fe ∧ (closeIdleGap s).comp.last = s.comp.last ∧
    (closeIdleGap s).comp.lastTick = s.comp.lastTick ∧ (closeIdleGap s).comp.lossOpen = s.comp.lossOpen ∧
    (closeIdleGap s).comp.staging = s.comp.staging ∧ (closeIdleGap s).comp.stagingTime = s.comp.stagingTime ∧
    (closeIdleGap s).writer = s.writer ∧ (closeIdleGap s).seq = s.seq ∧ (closeIdleGap s).store = s.store ∧
    (closeIdleGap s).mc = s.mc ∧ (closeIdleGap s).slots = s.slots ∧ (closeIdleGap s).notes = s.notes ∧
    (closeIdleGap s).meas = s.meas ∧ (closeIdleGap s).render = s.render ∧ (closeIdleGap s).panel = s.panel ∧
    (closeIdleGap s).ports = s.ports ∧ (closeIdleGap s).power = s.power ∧ (closeIdleGap s).free = s.free ∧
    (closeIdleGap s).pending = s.pending := by
  unfold closeIdleGap <;> (try dsimp only) <;> (repeat' split) <;> simp

@[simp] theorem returnSlot_frame (k : Nat) (s : State) :
    (returnSlot k s).fe = s.fe ∧ (returnSlot k s).comp = s.comp ∧ (returnSlot k s).writer = s.writer ∧
    (returnSlot k s).seq = s.seq ∧ (returnSlot k s).store = s.store ∧ (returnSlot k s).mc = s.mc ∧
    (returnSlot k s).slots.length = s.slots.length ∧ (returnSlot k s).notes = s.notes ∧
    (returnSlot k s).meas = s.meas ∧ (returnSlot k s).render = s.render ∧ (returnSlot k s).panel = s.panel ∧
    (returnSlot k s).ports = s.ports ∧ (returnSlot k s).power = s.power ∧ (returnSlot k s).free = s.free ∧
    (returnSlot k s).pending = s.pending := by
  unfold returnSlot <;> (try dsimp only) <;> (repeat' split) <;> simp

@[simp] theorem returnSlots_frame (s : State) :
    (returnSlots s).fe = s.fe ∧ (returnSlots s).comp = s.comp ∧ (returnSlots s).writer = s.writer ∧
    (returnSlots s).seq = s.seq ∧ (returnSlots s).store = s.store ∧ (returnSlots s).mc = s.mc ∧
    (returnSlots s).slots.length = s.slots.length ∧ (returnSlots s).notes = s.notes ∧ (returnSlots s).meas = s.meas ∧
    (returnSlots s).render = s.render ∧ (returnSlots s).panel = s.panel ∧ (returnSlots s).ports = s.ports ∧
    (returnSlots s).power = s.power ∧ (returnSlots s).free = s.free ∧ (returnSlots s).pending = s.pending := by
  simp [returnSlots]

@[simp] theorem extendStaging_frame (s : State) :
    (extendStaging s).fe = s.fe ∧ (extendStaging s).comp.last = s.comp.last ∧
    (extendStaging s).comp.lastTick = s.comp.lastTick ∧ (extendStaging s).tap = s.tap ∧
    (extendStaging s).writer = s.writer ∧ (extendStaging s).seq = s.seq ∧ (extendStaging s).store = s.store ∧
    (extendStaging s).mc = s.mc ∧ (extendStaging s).slots = s.slots ∧ (extendStaging s).notes = s.notes ∧
    (extendStaging s).meas = s.meas ∧ (extendStaging s).render = s.render ∧ (extendStaging s).panel = s.panel ∧
    (extendStaging s).ports = s.ports ∧ (extendStaging s).power = s.power ∧ (extendStaging s).free = s.free ∧
    (extendStaging s).pending = s.pending := by
  unfold extendStaging <;> (try dsimp only) <;> (repeat' split) <;> simp

@[simp] theorem extendTap_frame (s : State) :
    (extendTap s).fe = s.fe ∧ (extendTap s).comp.last = s.comp.last ∧ (extendTap s).comp.lastTick = s.comp.lastTick ∧
    (extendTap s).comp.lossOpen = s.comp.lossOpen ∧ (extendTap s).comp.staging = s.comp.staging ∧
    (extendTap s).comp.stagingTime = s.comp.stagingTime ∧ (extendTap s).writer = s.writer ∧
    (extendTap s).seq = s.seq ∧ (extendTap s).store = s.store ∧ (extendTap s).mc = s.mc ∧
    (extendTap s).slots = s.slots ∧ (extendTap s).notes = s.notes ∧ (extendTap s).meas = s.meas ∧
    (extendTap s).render = s.render ∧ (extendTap s).panel = s.panel ∧ (extendTap s).ports = s.ports ∧
    (extendTap s).power = s.power ∧ (extendTap s).free = s.free ∧ (extendTap s).pending = s.pending := by
  unfold extendTap <;> (try dsimp only) <;> (repeat' split) <;> simp

@[simp] theorem serveWriter_frame (s : State) :
    (serveWriter s).fe = s.fe ∧ (serveWriter s).comp = s.comp ∧ (serveWriter s).tap = s.tap ∧
    (serveWriter s).writer.seg = s.writer.seg ∧ (serveWriter s).seq = s.seq ∧
    (serveWriter s).store.available = s.store.available ∧ (serveWriter s).store.low = s.store.low ∧
    (serveWriter s).store.sealCounter = s.store.sealCounter ∧ (serveWriter s).mc = s.mc ∧
    (serveWriter s).slots = s.slots ∧ (serveWriter s).notes = s.notes ∧ (serveWriter s).meas = s.meas ∧
    (serveWriter s).render = s.render ∧ (serveWriter s).panel = s.panel ∧
    (serveWriter s).ports.claim = s.ports.claim ∧ (serveWriter s).ports.con.levels = s.ports.con.levels ∧
    (serveWriter s).ports.con.stream = s.ports.con.stream ∧ (serveWriter s).ports.conOut = s.ports.conOut ∧
    (serveWriter s).ports.conReplies = s.ports.conReplies ∧ (serveWriter s).ports.conService = s.ports.conService ∧
    (serveWriter s).ports.link = s.ports.link ∧ (serveWriter s).ports.outFrame = s.ports.outFrame ∧
    (serveWriter s).ports.remoteWake = s.ports.remoteWake ∧ (serveWriter s).ports.teth.levels = s.ports.teth.levels ∧
    (serveWriter s).ports.teth.stream = s.ports.teth.stream ∧ (serveWriter s).ports.tethOut = s.ports.tethOut ∧
    (serveWriter s).ports.tethReplies = s.ports.tethReplies ∧
    (serveWriter s).ports.tethService = s.ports.tethService ∧ (serveWriter s).ports.vbus = s.ports.vbus ∧
    (serveWriter s).power = s.power ∧ (serveWriter s).free = s.free ∧ (serveWriter s).pending = s.pending := by
  unfold serveWriter <;> (try dsimp only) <;> (repeat' split) <;> simp

/-! ## Sequencing -/

@[simp] theorem stopSegment_frame (t : Nat) (reason : SealReason) (s : State) :
    (stopSegment t reason s).fe = s.fe ∧ (stopSegment t reason s).writer = s.writer ∧
    (stopSegment t reason s).seq.params = s.seq.params ∧ (stopSegment t reason s).seq.seg = s.seq.seg ∧
    (stopSegment t reason s).seq.seqEnd = s.seq.seqEnd ∧ (stopSegment t reason s).seq.taken = s.seq.taken ∧
    (stopSegment t reason s).store.available = s.store.available ∧
    (stopSegment t reason s).store.blocks = s.store.blocks ∧
    (stopSegment t reason s).store.freeList = s.store.freeList ∧ (stopSegment t reason s).store.low = s.store.low ∧
    (stopSegment t reason s).store.mem = s.store.mem ∧
    (stopSegment t reason s).store.sealCounter = s.store.sealCounter ∧ (stopSegment t reason s).mc = s.mc ∧
    (stopSegment t reason s).slots = s.slots ∧ (stopSegment t reason s).notes = s.notes ∧
    (stopSegment t reason s).meas = s.meas ∧ (stopSegment t reason s).render = s.render ∧
    (stopSegment t reason s).panel = s.panel ∧ (stopSegment t reason s).ports.claim = s.ports.claim ∧
    (stopSegment t reason s).ports.con.levels = s.ports.con.levels ∧
    (stopSegment t reason s).ports.con.stream = s.ports.con.stream ∧
    (stopSegment t reason s).ports.conOut = s.ports.conOut ∧
    (stopSegment t reason s).ports.conReplies = s.ports.conReplies ∧
    (stopSegment t reason s).ports.conService = s.ports.conService ∧
    (stopSegment t reason s).ports.link = s.ports.link ∧ (stopSegment t reason s).ports.outFrame = s.ports.outFrame ∧
    (stopSegment t reason s).ports.remoteWake = s.ports.remoteWake ∧
    (stopSegment t reason s).ports.teth.levels = s.ports.teth.levels ∧
    (stopSegment t reason s).ports.teth.stream = s.ports.teth.stream ∧
    (stopSegment t reason s).ports.tethOut = s.ports.tethOut ∧
    (stopSegment t reason s).ports.tethReplies = s.ports.tethReplies ∧
    (stopSegment t reason s).ports.tethService = s.ports.tethService ∧
    (stopSegment t reason s).ports.vbus = s.ports.vbus ∧ (stopSegment t reason s).power = s.power ∧
    (stopSegment t reason s).free = s.free ∧ (stopSegment t reason s).pending = s.pending := by
  simp [stopSegment]

@[simp] theorem stopCondition_frame (t : Nat) (reason : SealReason) (s : State) :
    (stopCondition t reason s).fe = s.fe ∧ (stopCondition t reason s).writer = s.writer ∧
    (stopCondition t reason s).seq.params = s.seq.params ∧ (stopCondition t reason s).seq.seg = s.seq.seg ∧
    (stopCondition t reason s).seq.taken = s.seq.taken ∧
    (stopCondition t reason s).store.available = s.store.available ∧
    (stopCondition t reason s).store.blocks = s.store.blocks ∧
    (stopCondition t reason s).store.freeList = s.store.freeList ∧
    (stopCondition t reason s).store.low = s.store.low ∧ (stopCondition t reason s).store.mem = s.store.mem ∧
    (stopCondition t reason s).store.sealCounter = s.store.sealCounter ∧ (stopCondition t reason s).mc = s.mc ∧
    (stopCondition t reason s).slots = s.slots ∧ (stopCondition t reason s).notes = s.notes ∧
    (stopCondition t reason s).meas = s.meas ∧ (stopCondition t reason s).render = s.render ∧
    (stopCondition t reason s).panel = s.panel ∧ (stopCondition t reason s).ports.claim = s.ports.claim ∧
    (stopCondition t reason s).ports.con.levels = s.ports.con.levels ∧
    (stopCondition t reason s).ports.con.stream = s.ports.con.stream ∧
    (stopCondition t reason s).ports.conOut = s.ports.conOut ∧
    (stopCondition t reason s).ports.conReplies = s.ports.conReplies ∧
    (stopCondition t reason s).ports.conService = s.ports.conService ∧
    (stopCondition t reason s).ports.link = s.ports.link ∧
    (stopCondition t reason s).ports.outFrame = s.ports.outFrame ∧
    (stopCondition t reason s).ports.remoteWake = s.ports.remoteWake ∧
    (stopCondition t reason s).ports.teth.levels = s.ports.teth.levels ∧
    (stopCondition t reason s).ports.teth.stream = s.ports.teth.stream ∧
    (stopCondition t reason s).ports.tethOut = s.ports.tethOut ∧
    (stopCondition t reason s).ports.tethReplies = s.ports.tethReplies ∧
    (stopCondition t reason s).ports.tethService = s.ports.tethService ∧
    (stopCondition t reason s).ports.vbus = s.ports.vbus ∧ (stopCondition t reason s).power = s.power ∧
    (stopCondition t reason s).free = s.free ∧ (stopCondition t reason s).pending = s.pending := by
  unfold stopCondition <;> (try dsimp only) <;> (repeat' split) <;> simp

@[simp] theorem stopNow_frame (reason : SealReason) (s : State) :
    (stopNow reason s).fe = s.fe ∧ (stopNow reason s).writer = s.writer ∧
    (stopNow reason s).seq.params = s.seq.params ∧ (stopNow reason s).seq.seg = s.seq.seg ∧
    (stopNow reason s).seq.taken = s.seq.taken ∧ (stopNow reason s).store.available = s.store.available ∧
    (stopNow reason s).store.blocks = s.store.blocks ∧ (stopNow reason s).store.freeList = s.store.freeList ∧
    (stopNow reason s).store.low = s.store.low ∧ (stopNow reason s).store.mem = s.store.mem ∧
    (stopNow reason s).store.sealCounter = s.store.sealCounter ∧ (stopNow reason s).mc = s.mc ∧
    (stopNow reason s).slots = s.slots ∧ (stopNow reason s).notes = s.notes ∧ (stopNow reason s).meas = s.meas ∧
    (stopNow reason s).render = s.render ∧ (stopNow reason s).panel = s.panel ∧
    (stopNow reason s).ports.claim = s.ports.claim ∧ (stopNow reason s).ports.con.levels = s.ports.con.levels ∧
    (stopNow reason s).ports.con.stream = s.ports.con.stream ∧ (stopNow reason s).ports.conOut = s.ports.conOut ∧
    (stopNow reason s).ports.conReplies = s.ports.conReplies ∧
    (stopNow reason s).ports.conService = s.ports.conService ∧ (stopNow reason s).ports.link = s.ports.link ∧
    (stopNow reason s).ports.outFrame = s.ports.outFrame ∧ (stopNow reason s).ports.remoteWake = s.ports.remoteWake ∧
    (stopNow reason s).ports.teth.levels = s.ports.teth.levels ∧
    (stopNow reason s).ports.teth.stream = s.ports.teth.stream ∧ (stopNow reason s).ports.tethOut = s.ports.tethOut ∧
    (stopNow reason s).ports.tethReplies = s.ports.tethReplies ∧
    (stopNow reason s).ports.tethService = s.ports.tethService ∧ (stopNow reason s).ports.vbus = s.ports.vbus ∧
    (stopNow reason s).power = s.power ∧ (stopNow reason s).free = s.free ∧
    (stopNow reason s).pending = s.pending := by
  simp [stopNow]

@[simp] theorem postfillTest_frame (s : State) :
    (postfillTest s).fe = s.fe ∧ (postfillTest s).writer = s.writer ∧ (postfillTest s).seq.params = s.seq.params ∧
    (postfillTest s).seq.seg = s.seq.seg ∧ (postfillTest s).seq.seqEnd = s.seq.seqEnd ∧
    (postfillTest s).seq.taken = s.seq.taken ∧ (postfillTest s).store.available = s.store.available ∧
    (postfillTest s).store.blocks = s.store.blocks ∧ (postfillTest s).store.freeList = s.store.freeList ∧
    (postfillTest s).store.low = s.store.low ∧ (postfillTest s).store.mem = s.store.mem ∧
    (postfillTest s).store.sealCounter = s.store.sealCounter ∧ (postfillTest s).mc = s.mc ∧
    (postfillTest s).slots = s.slots ∧ (postfillTest s).notes = s.notes ∧ (postfillTest s).meas = s.meas ∧
    (postfillTest s).render = s.render ∧ (postfillTest s).panel = s.panel ∧
    (postfillTest s).ports.claim = s.ports.claim ∧ (postfillTest s).ports.con.levels = s.ports.con.levels ∧
    (postfillTest s).ports.con.stream = s.ports.con.stream ∧ (postfillTest s).ports.conOut = s.ports.conOut ∧
    (postfillTest s).ports.conReplies = s.ports.conReplies ∧ (postfillTest s).ports.conService = s.ports.conService ∧
    (postfillTest s).ports.link = s.ports.link ∧ (postfillTest s).ports.outFrame = s.ports.outFrame ∧
    (postfillTest s).ports.remoteWake = s.ports.remoteWake ∧
    (postfillTest s).ports.teth.levels = s.ports.teth.levels ∧
    (postfillTest s).ports.teth.stream = s.ports.teth.stream ∧ (postfillTest s).ports.tethOut = s.ports.tethOut ∧
    (postfillTest s).ports.tethReplies = s.ports.tethReplies ∧
    (postfillTest s).ports.tethService = s.ports.tethService ∧ (postfillTest s).ports.vbus = s.ports.vbus ∧
    (postfillTest s).power = s.power ∧ (postfillTest s).free = s.free ∧ (postfillTest s).pending = s.pending := by
  unfold postfillTest <;> (try dsimp only) <;> (repeat' split) <;> simp

@[simp] theorem reserveTest_frame (atTrigger : Bool) (s : State) :
    (reserveTest atTrigger s).fe = s.fe ∧ (reserveTest atTrigger s).writer = s.writer ∧
    (reserveTest atTrigger s).seq.params = s.seq.params ∧ (reserveTest atTrigger s).seq.seg = s.seq.seg ∧
    (reserveTest atTrigger s).seq.taken = s.seq.taken ∧
    (reserveTest atTrigger s).store.available = s.store.available ∧
    (reserveTest atTrigger s).store.blocks = s.store.blocks ∧ (reserveTest atTrigger s).store.low = s.store.low ∧
    (reserveTest atTrigger s).store.mem = s.store.mem ∧
    (reserveTest atTrigger s).store.sealCounter = s.store.sealCounter ∧ (reserveTest atTrigger s).mc = s.mc ∧
    (reserveTest atTrigger s).slots.length = s.slots.length ∧ (reserveTest atTrigger s).meas = s.meas ∧
    (reserveTest atTrigger s).render.again = s.render.again ∧
    (reserveTest atTrigger s).render.completed = s.render.completed ∧
    (reserveTest atTrigger s).render.cursorA = s.render.cursorA ∧
    (reserveTest atTrigger s).render.cursorB = s.render.cursorB ∧
    (reserveTest atTrigger s).render.dirty = s.render.dirty ∧
    (reserveTest atTrigger s).render.divider = s.render.divider ∧
    (reserveTest atTrigger s).render.drawnA = s.render.drawnA ∧
    (reserveTest atTrigger s).render.drawnB = s.render.drawnB ∧
    (reserveTest atTrigger s).render.frame = s.render.frame ∧
    (reserveTest atTrigger s).render.latch = s.render.latch ∧
    (reserveTest atTrigger s).render.layout = s.render.layout ∧
    (reserveTest atTrigger s).render.liveCount = s.render.liveCount ∧
    (reserveTest atTrigger s).render.palette = s.render.palette ∧
    (reserveTest atTrigger s).render.trace = s.render.trace ∧ (reserveTest atTrigger s).render.view = s.render.view ∧
    (reserveTest atTrigger s).panel = s.panel ∧ (reserveTest atTrigger s).ports.claim = s.ports.claim ∧
    (reserveTest atTrigger s).ports.con.levels = s.ports.con.levels ∧
    (reserveTest atTrigger s).ports.conOut = s.ports.conOut ∧
    (reserveTest atTrigger s).ports.conReplies = s.ports.conReplies ∧
    (reserveTest atTrigger s).ports.conService = s.ports.conService ∧
    (reserveTest atTrigger s).ports.link = s.ports.link ∧
    (reserveTest atTrigger s).ports.outFrame = s.ports.outFrame ∧
    (reserveTest atTrigger s).ports.remoteWake = s.ports.remoteWake ∧
    (reserveTest atTrigger s).ports.teth.levels = s.ports.teth.levels ∧
    (reserveTest atTrigger s).ports.tethOut = s.ports.tethOut ∧
    (reserveTest atTrigger s).ports.tethReplies = s.ports.tethReplies ∧
    (reserveTest atTrigger s).ports.tethService = s.ports.tethService ∧
    (reserveTest atTrigger s).ports.vbus = s.ports.vbus ∧ (reserveTest atTrigger s).power = s.power ∧
    (reserveTest atTrigger s).pending = s.pending := by
  unfold reserveTest <;> (try dsimp only) <;> (repeat' split) <;> simp

@[simp] theorem takeTrigger_frame (t : Nat) (forced : Bool) (s : State) :
    (takeTrigger t forced s).fe = s.fe ∧ (takeTrigger t forced s).writer = s.writer ∧
    (takeTrigger t forced s).seq.params = s.seq.params ∧ (takeTrigger t forced s).seq.seg = s.seq.seg ∧
    (takeTrigger t forced s).seq.taken = s.seq.taken ∧ (takeTrigger t forced s).store.available = s.store.available ∧
    (takeTrigger t forced s).store.blocks = s.store.blocks ∧ (takeTrigger t forced s).store.low = s.store.low ∧
    (takeTrigger t forced s).store.mem = s.store.mem ∧
    (takeTrigger t forced s).store.sealCounter = s.store.sealCounter ∧ (takeTrigger t forced s).mc = s.mc ∧
    (takeTrigger t forced s).slots.length = s.slots.length ∧ (takeTrigger t forced s).meas = s.meas ∧
    (takeTrigger t forced s).render.again = s.render.again ∧
    (takeTrigger t forced s).render.completed = s.render.completed ∧
    (takeTrigger t forced s).render.cursorA = s.render.cursorA ∧
    (takeTrigger t forced s).render.cursorB = s.render.cursorB ∧
    (takeTrigger t forced s).render.dirty = s.render.dirty ∧
    (takeTrigger t forced s).render.divider = s.render.divider ∧
    (takeTrigger t forced s).render.drawnA = s.render.drawnA ∧
    (takeTrigger t forced s).render.drawnB = s.render.drawnB ∧
    (takeTrigger t forced s).render.frame = s.render.frame ∧ (takeTrigger t forced s).render.latch = s.render.latch ∧
    (takeTrigger t forced s).render.layout = s.render.layout ∧
    (takeTrigger t forced s).render.liveCount = s.render.liveCount ∧
    (takeTrigger t forced s).render.palette = s.render.palette ∧
    (takeTrigger t forced s).render.trace = s.render.trace ∧ (takeTrigger t forced s).render.view = s.render.view ∧
    (takeTrigger t forced s).panel = s.panel ∧ (takeTrigger t forced s).ports.claim = s.ports.claim ∧
    (takeTrigger t forced s).ports.con.levels = s.ports.con.levels ∧
    (takeTrigger t forced s).ports.conOut = s.ports.conOut ∧
    (takeTrigger t forced s).ports.conReplies = s.ports.conReplies ∧
    (takeTrigger t forced s).ports.conService = s.ports.conService ∧
    (takeTrigger t forced s).ports.link = s.ports.link ∧ (takeTrigger t forced s).ports.outFrame = s.ports.outFrame ∧
    (takeTrigger t forced s).ports.remoteWake = s.ports.remoteWake ∧
    (takeTrigger t forced s).ports.teth.levels = s.ports.teth.levels ∧
    (takeTrigger t forced s).ports.tethOut = s.ports.tethOut ∧
    (takeTrigger t forced s).ports.tethReplies = s.ports.tethReplies ∧
    (takeTrigger t forced s).ports.tethService = s.ports.tethService ∧
    (takeTrigger t forced s).ports.vbus = s.ports.vbus ∧ (takeTrigger t forced s).power = s.power ∧
    (takeTrigger t forced s).pending = s.pending := by
  unfold takeTrigger <;> (try dsimp only) <;> (repeat' split) <;> simp

@[simp] theorem enterStage_frame (k e : Nat) (s : State) :
    (enterStage k e s).fe = s.fe ∧ (enterStage k e s).comp = s.comp ∧ (enterStage k e s).tap = s.tap ∧
    (enterStage k e s).writer = s.writer ∧ (enterStage k e s).seq.params = s.seq.params ∧
    (enterStage k e s).seq.reason = s.seq.reason ∧ (enterStage k e s).seq.seg = s.seq.seg ∧
    (enterStage k e s).seq.seqEnd = s.seq.seqEnd ∧ (enterStage k e s).seq.stopTick = s.seq.stopTick ∧
    (enterStage k e s).seq.taken = s.seq.taken ∧ (enterStage k e s).store = s.store ∧ (enterStage k e s).mc = s.mc ∧
    (enterStage k e s).slots = s.slots ∧ (enterStage k e s).notes = s.notes ∧ (enterStage k e s).meas = s.meas ∧
    (enterStage k e s).render = s.render ∧ (enterStage k e s).panel = s.panel ∧ (enterStage k e s).ports = s.ports ∧
    (enterStage k e s).power = s.power ∧ (enterStage k e s).free = s.free ∧
    (enterStage k e s).pending = s.pending := by
  simp [enterStage]

@[simp] theorem actOn_frame (g : Target) (e t : Nat) (s : State) :
    (actOn g e t s).fe = s.fe ∧ (actOn g e t s).writer = s.writer ∧ (actOn g e t s).seq.params = s.seq.params ∧
    (actOn g e t s).seq.seg = s.seq.seg ∧ (actOn g e t s).seq.taken = s.seq.taken ∧
    (actOn g e t s).store.available = s.store.available ∧ (actOn g e t s).store.blocks = s.store.blocks ∧
    (actOn g e t s).store.low = s.store.low ∧ (actOn g e t s).store.mem = s.store.mem ∧
    (actOn g e t s).store.sealCounter = s.store.sealCounter ∧ (actOn g e t s).mc = s.mc ∧
    (actOn g e t s).slots.length = s.slots.length ∧ (actOn g e t s).meas = s.meas ∧
    (actOn g e t s).render.again = s.render.again ∧ (actOn g e t s).render.completed = s.render.completed ∧
    (actOn g e t s).render.cursorA = s.render.cursorA ∧ (actOn g e t s).render.cursorB = s.render.cursorB ∧
    (actOn g e t s).render.dirty = s.render.dirty ∧ (actOn g e t s).render.divider = s.render.divider ∧
    (actOn g e t s).render.drawnA = s.render.drawnA ∧ (actOn g e t s).render.drawnB = s.render.drawnB ∧
    (actOn g e t s).render.frame = s.render.frame ∧ (actOn g e t s).render.latch = s.render.latch ∧
    (actOn g e t s).render.layout = s.render.layout ∧ (actOn g e t s).render.liveCount = s.render.liveCount ∧
    (actOn g e t s).render.palette = s.render.palette ∧ (actOn g e t s).render.trace = s.render.trace ∧
    (actOn g e t s).render.view = s.render.view ∧ (actOn g e t s).panel = s.panel ∧
    (actOn g e t s).ports.claim = s.ports.claim ∧ (actOn g e t s).ports.con.levels = s.ports.con.levels ∧
    (actOn g e t s).ports.conOut = s.ports.conOut ∧ (actOn g e t s).ports.conReplies = s.ports.conReplies ∧
    (actOn g e t s).ports.conService = s.ports.conService ∧ (actOn g e t s).ports.link = s.ports.link ∧
    (actOn g e t s).ports.outFrame = s.ports.outFrame ∧ (actOn g e t s).ports.remoteWake = s.ports.remoteWake ∧
    (actOn g e t s).ports.teth.levels = s.ports.teth.levels ∧ (actOn g e t s).ports.tethOut = s.ports.tethOut ∧
    (actOn g e t s).ports.tethReplies = s.ports.tethReplies ∧
    (actOn g e t s).ports.tethService = s.ports.tethService ∧ (actOn g e t s).ports.vbus = s.ports.vbus ∧
    (actOn g e t s).power = s.power ∧ (actOn g e t s).pending = s.pending := by
  unfold actOn <;> (try dsimp only) <;> (repeat' split) <;> simp

@[simp] theorem stageMatch_frame (k e t : Nat) (s : State) :
    (stageMatch k e t s).fe = s.fe ∧ (stageMatch k e t s).writer = s.writer ∧
    (stageMatch k e t s).seq.params = s.seq.params ∧ (stageMatch k e t s).seq.seg = s.seq.seg ∧
    (stageMatch k e t s).seq.taken = s.seq.taken ∧ (stageMatch k e t s).store.available = s.store.available ∧
    (stageMatch k e t s).store.blocks = s.store.blocks ∧ (stageMatch k e t s).store.low = s.store.low ∧
    (stageMatch k e t s).store.mem = s.store.mem ∧ (stageMatch k e t s).store.sealCounter = s.store.sealCounter ∧
    (stageMatch k e t s).mc = s.mc ∧ (stageMatch k e t s).slots.length = s.slots.length ∧
    (stageMatch k e t s).meas = s.meas ∧ (stageMatch k e t s).render.again = s.render.again ∧
    (stageMatch k e t s).render.completed = s.render.completed ∧
    (stageMatch k e t s).render.cursorA = s.render.cursorA ∧ (stageMatch k e t s).render.cursorB = s.render.cursorB ∧
    (stageMatch k e t s).render.dirty = s.render.dirty ∧ (stageMatch k e t s).render.divider = s.render.divider ∧
    (stageMatch k e t s).render.drawnA = s.render.drawnA ∧ (stageMatch k e t s).render.drawnB = s.render.drawnB ∧
    (stageMatch k e t s).render.frame = s.render.frame ∧ (stageMatch k e t s).render.latch = s.render.latch ∧
    (stageMatch k e t s).render.layout = s.render.layout ∧
    (stageMatch k e t s).render.liveCount = s.render.liveCount ∧
    (stageMatch k e t s).render.palette = s.render.palette ∧ (stageMatch k e t s).render.trace = s.render.trace ∧
    (stageMatch k e t s).render.view = s.render.view ∧ (stageMatch k e t s).panel = s.panel ∧
    (stageMatch k e t s).ports.claim = s.ports.claim ∧ (stageMatch k e t s).ports.con.levels = s.ports.con.levels ∧
    (stageMatch k e t s).ports.conOut = s.ports.conOut ∧ (stageMatch k e t s).ports.conReplies = s.ports.conReplies ∧
    (stageMatch k e t s).ports.conService = s.ports.conService ∧ (stageMatch k e t s).ports.link = s.ports.link ∧
    (stageMatch k e t s).ports.outFrame = s.ports.outFrame ∧
    (stageMatch k e t s).ports.remoteWake = s.ports.remoteWake ∧
    (stageMatch k e t s).ports.teth.levels = s.ports.teth.levels ∧
    (stageMatch k e t s).ports.tethOut = s.ports.tethOut ∧
    (stageMatch k e t s).ports.tethReplies = s.ports.tethReplies ∧
    (stageMatch k e t s).ports.tethService = s.ports.tethService ∧ (stageMatch k e t s).ports.vbus = s.ports.vbus ∧
    (stageMatch k e t s).power = s.power ∧ (stageMatch k e t s).pending = s.pending := by
  unfold stageMatch <;> (try dsimp only) <;> (repeat' split) <;> simp

@[simp] theorem evaluatePattern_frame (t : Nat) (st : Half) (s : State) :
    (evaluatePattern t st s).fe = s.fe ∧ (evaluatePattern t st s).writer = s.writer ∧
    (evaluatePattern t st s).seq.params = s.seq.params ∧ (evaluatePattern t st s).seq.seg = s.seq.seg ∧
    (evaluatePattern t st s).seq.taken = s.seq.taken ∧ (evaluatePattern t st s).store.available = s.store.available ∧
    (evaluatePattern t st s).store.blocks = s.store.blocks ∧ (evaluatePattern t st s).store.low = s.store.low ∧
    (evaluatePattern t st s).store.mem = s.store.mem ∧
    (evaluatePattern t st s).store.sealCounter = s.store.sealCounter ∧ (evaluatePattern t st s).mc = s.mc ∧
    (evaluatePattern t st s).slots.length = s.slots.length ∧ (evaluatePattern t st s).meas = s.meas ∧
    (evaluatePattern t st s).render.again = s.render.again ∧
    (evaluatePattern t st s).render.completed = s.render.completed ∧
    (evaluatePattern t st s).render.cursorA = s.render.cursorA ∧
    (evaluatePattern t st s).render.cursorB = s.render.cursorB ∧
    (evaluatePattern t st s).render.dirty = s.render.dirty ∧
    (evaluatePattern t st s).render.divider = s.render.divider ∧
    (evaluatePattern t st s).render.drawnA = s.render.drawnA ∧
    (evaluatePattern t st s).render.drawnB = s.render.drawnB ∧
    (evaluatePattern t st s).render.frame = s.render.frame ∧ (evaluatePattern t st s).render.latch = s.render.latch ∧
    (evaluatePattern t st s).render.layout = s.render.layout ∧
    (evaluatePattern t st s).render.liveCount = s.render.liveCount ∧
    (evaluatePattern t st s).render.palette = s.render.palette ∧
    (evaluatePattern t st s).render.trace = s.render.trace ∧ (evaluatePattern t st s).render.view = s.render.view ∧
    (evaluatePattern t st s).panel = s.panel ∧ (evaluatePattern t st s).ports.claim = s.ports.claim ∧
    (evaluatePattern t st s).ports.con.levels = s.ports.con.levels ∧
    (evaluatePattern t st s).ports.conOut = s.ports.conOut ∧
    (evaluatePattern t st s).ports.conReplies = s.ports.conReplies ∧
    (evaluatePattern t st s).ports.conService = s.ports.conService ∧
    (evaluatePattern t st s).ports.link = s.ports.link ∧ (evaluatePattern t st s).ports.outFrame = s.ports.outFrame ∧
    (evaluatePattern t st s).ports.remoteWake = s.ports.remoteWake ∧
    (evaluatePattern t st s).ports.teth.levels = s.ports.teth.levels ∧
    (evaluatePattern t st s).ports.tethOut = s.ports.tethOut ∧
    (evaluatePattern t st s).ports.tethReplies = s.ports.tethReplies ∧
    (evaluatePattern t st s).ports.tethService = s.ports.tethService ∧
    (evaluatePattern t st s).ports.vbus = s.ports.vbus ∧ (evaluatePattern t st s).power = s.power ∧
    (evaluatePattern t st s).pending = s.pending := by
  unfold evaluatePattern <;> (try dsimp only) <;> (repeat' split) <;> simp

@[simp] theorem offerNote_frame (slot seg kind stop value : Nat) (s : State) :
    (offerNote slot seg kind stop value s).fe = s.fe ∧ (offerNote slot seg kind stop value s).writer = s.writer ∧
    (offerNote slot seg kind stop value s).seq.params = s.seq.params ∧
    (offerNote slot seg kind stop value s).seq.seg = s.seq.seg ∧
    (offerNote slot seg kind stop value s).seq.taken = s.seq.taken ∧
    (offerNote slot seg kind stop value s).store.available = s.store.available ∧
    (offerNote slot seg kind stop value s).store.blocks = s.store.blocks ∧
    (offerNote slot seg kind stop value s).store.low = s.store.low ∧
    (offerNote slot seg kind stop value s).store.mem = s.store.mem ∧
    (offerNote slot seg kind stop value s).store.sealCounter = s.store.sealCounter ∧
    (offerNote slot seg kind stop value s).mc = s.mc ∧
    (offerNote slot seg kind stop value s).slots.length = s.slots.length ∧
    (offerNote slot seg kind stop value s).meas = s.meas ∧
    (offerNote slot seg kind stop value s).render.again = s.render.again ∧
    (offerNote slot seg kind stop value s).render.completed = s.render.completed ∧
    (offerNote slot seg kind stop value s).render.cursorA = s.render.cursorA ∧
    (offerNote slot seg kind stop value s).render.cursorB = s.render.cursorB ∧
    (offerNote slot seg kind stop value s).render.dirty = s.render.dirty ∧
    (offerNote slot seg kind stop value s).render.divider = s.render.divider ∧
    (offerNote slot seg kind stop value s).render.drawnA = s.render.drawnA ∧
    (offerNote slot seg kind stop value s).render.drawnB = s.render.drawnB ∧
    (offerNote slot seg kind stop value s).render.frame = s.render.frame ∧
    (offerNote slot seg kind stop value s).render.latch = s.render.latch ∧
    (offerNote slot seg kind stop value s).render.layout = s.render.layout ∧
    (offerNote slot seg kind stop value s).render.liveCount = s.render.liveCount ∧
    (offerNote slot seg kind stop value s).render.palette = s.render.palette ∧
    (offerNote slot seg kind stop value s).render.trace = s.render.trace ∧
    (offerNote slot seg kind stop value s).render.view = s.render.view ∧
    (offerNote slot seg kind stop value s).panel = s.panel ∧
    (offerNote slot seg kind stop value s).ports.claim = s.ports.claim ∧
    (offerNote slot seg kind stop value s).ports.con.levels = s.ports.con.levels ∧
    (offerNote slot seg kind stop value s).ports.conOut = s.ports.conOut ∧
    (offerNote slot seg kind stop value s).ports.conReplies = s.ports.conReplies ∧
    (offerNote slot seg kind stop value s).ports.conService = s.ports.conService ∧
    (offerNote slot seg kind stop value s).ports.link = s.ports.link ∧
    (offerNote slot seg kind stop value s).ports.outFrame = s.ports.outFrame ∧
    (offerNote slot seg kind stop value s).ports.remoteWake = s.ports.remoteWake ∧
    (offerNote slot seg kind stop value s).ports.teth.levels = s.ports.teth.levels ∧
    (offerNote slot seg kind stop value s).ports.tethOut = s.ports.tethOut ∧
    (offerNote slot seg kind stop value s).ports.tethReplies = s.ports.tethReplies ∧
    (offerNote slot seg kind stop value s).ports.tethService = s.ports.tethService ∧
    (offerNote slot seg kind stop value s).ports.vbus = s.ports.vbus ∧
    (offerNote slot seg kind stop value s).power = s.power ∧
    (offerNote slot seg kind stop value s).pending = s.pending := by
  unfold offerNote <;> (try dsimp only) <;> (repeat' split) <;> simp

@[simp] theorem endPriming_frame (s : State) :
    (endPriming s).fe = s.fe ∧ (endPriming s).comp = s.comp ∧ (endPriming s).tap = s.tap ∧
    (endPriming s).writer = s.writer ∧ (endPriming s).seq.params = s.seq.params ∧
    (endPriming s).seq.reason = s.seq.reason ∧ (endPriming s).seq.seg = s.seq.seg ∧
    (endPriming s).seq.seqEnd = s.seq.seqEnd ∧ (endPriming s).seq.stopTick = s.seq.stopTick ∧
    (endPriming s).seq.taken = s.seq.taken ∧ (endPriming s).store = s.store ∧ (endPriming s).mc = s.mc ∧
    (endPriming s).slots = s.slots ∧ (endPriming s).notes = s.notes ∧ (endPriming s).meas = s.meas ∧
    (endPriming s).render = s.render ∧ (endPriming s).panel = s.panel ∧ (endPriming s).ports = s.ports ∧
    (endPriming s).power = s.power ∧ (endPriming s).free = s.free ∧ (endPriming s).pending = s.pending := by
  unfold endPriming <;> (try dsimp only) <;> (repeat' split) <;> simp

@[simp] theorem timeoutStage_frame (s : State) :
    (timeoutStage s).fe = s.fe ∧ (timeoutStage s).writer = s.writer ∧ (timeoutStage s).seq.params = s.seq.params ∧
    (timeoutStage s).seq.seg = s.seq.seg ∧ (timeoutStage s).seq.taken = s.seq.taken ∧
    (timeoutStage s).store.available = s.store.available ∧ (timeoutStage s).store.blocks = s.store.blocks ∧
    (timeoutStage s).store.low = s.store.low ∧ (timeoutStage s).store.mem = s.store.mem ∧
    (timeoutStage s).store.sealCounter = s.store.sealCounter ∧ (timeoutStage s).mc = s.mc ∧
    (timeoutStage s).slots.length = s.slots.length ∧ (timeoutStage s).meas = s.meas ∧
    (timeoutStage s).render.again = s.render.again ∧ (timeoutStage s).render.completed = s.render.completed ∧
    (timeoutStage s).render.cursorA = s.render.cursorA ∧ (timeoutStage s).render.cursorB = s.render.cursorB ∧
    (timeoutStage s).render.dirty = s.render.dirty ∧ (timeoutStage s).render.divider = s.render.divider ∧
    (timeoutStage s).render.drawnA = s.render.drawnA ∧ (timeoutStage s).render.drawnB = s.render.drawnB ∧
    (timeoutStage s).render.frame = s.render.frame ∧ (timeoutStage s).render.latch = s.render.latch ∧
    (timeoutStage s).render.layout = s.render.layout ∧ (timeoutStage s).render.liveCount = s.render.liveCount ∧
    (timeoutStage s).render.palette = s.render.palette ∧ (timeoutStage s).render.trace = s.render.trace ∧
    (timeoutStage s).render.view = s.render.view ∧ (timeoutStage s).panel = s.panel ∧
    (timeoutStage s).ports.claim = s.ports.claim ∧ (timeoutStage s).ports.con.levels = s.ports.con.levels ∧
    (timeoutStage s).ports.conOut = s.ports.conOut ∧ (timeoutStage s).ports.conReplies = s.ports.conReplies ∧
    (timeoutStage s).ports.conService = s.ports.conService ∧ (timeoutStage s).ports.link = s.ports.link ∧
    (timeoutStage s).ports.outFrame = s.ports.outFrame ∧ (timeoutStage s).ports.remoteWake = s.ports.remoteWake ∧
    (timeoutStage s).ports.teth.levels = s.ports.teth.levels ∧ (timeoutStage s).ports.tethOut = s.ports.tethOut ∧
    (timeoutStage s).ports.tethReplies = s.ports.tethReplies ∧
    (timeoutStage s).ports.tethService = s.ports.tethService ∧ (timeoutStage s).ports.vbus = s.ports.vbus ∧
    (timeoutStage s).power = s.power ∧ (timeoutStage s).pending = s.pending := by
  unfold timeoutStage <;> (try dsimp only) <;> (repeat' split) <;> simp

@[simp] theorem timeLimitTest_frame (s : State) :
    (timeLimitTest s).fe.pod0 = s.fe.pod0 ∧ (timeLimitTest s).fe.pod1 = s.fe.pod1 ∧
    (timeLimitTest s).writer = s.writer ∧ (timeLimitTest s).seq.params = s.seq.params ∧
    (timeLimitTest s).seq.seg = s.seq.seg ∧ (timeLimitTest s).seq.taken = s.seq.taken ∧
    (timeLimitTest s).store.available = s.store.available ∧ (timeLimitTest s).store.blocks = s.store.blocks ∧
    (timeLimitTest s).store.freeList = s.store.freeList ∧ (timeLimitTest s).store.low = s.store.low ∧
    (timeLimitTest s).store.mem = s.store.mem ∧ (timeLimitTest s).store.sealCounter = s.store.sealCounter ∧
    (timeLimitTest s).mc = s.mc ∧ (timeLimitTest s).slots = s.slots ∧ (timeLimitTest s).notes = s.notes ∧
    (timeLimitTest s).meas = s.meas ∧ (timeLimitTest s).render = s.render ∧ (timeLimitTest s).panel = s.panel ∧
    (timeLimitTest s).ports.claim = s.ports.claim ∧ (timeLimitTest s).ports.con.levels = s.ports.con.levels ∧
    (timeLimitTest s).ports.con.stream = s.ports.con.stream ∧ (timeLimitTest s).ports.conOut = s.ports.conOut ∧
    (timeLimitTest s).ports.conReplies = s.ports.conReplies ∧
    (timeLimitTest s).ports.conService = s.ports.conService ∧ (timeLimitTest s).ports.link = s.ports.link ∧
    (timeLimitTest s).ports.outFrame = s.ports.outFrame ∧ (timeLimitTest s).ports.remoteWake = s.ports.remoteWake ∧
    (timeLimitTest s).ports.teth.levels = s.ports.teth.levels ∧
    (timeLimitTest s).ports.teth.stream = s.ports.teth.stream ∧ (timeLimitTest s).ports.tethOut = s.ports.tethOut ∧
    (timeLimitTest s).ports.tethReplies = s.ports.tethReplies ∧
    (timeLimitTest s).ports.tethService = s.ports.tethService ∧ (timeLimitTest s).ports.vbus = s.ports.vbus ∧
    (timeLimitTest s).power = s.power ∧ (timeLimitTest s).free = s.free ∧ (timeLimitTest s).pending = s.pending := by
  unfold timeLimitTest <;> (try dsimp only) <;> (repeat' split) <;> simp

@[simp] theorem settle_frame (s : State) :
    (settle s).fe = s.fe ∧ (settle s).writer = s.writer ∧ (settle s).seq.params = s.seq.params ∧
    (settle s).seq.seg = s.seq.seg ∧ (settle s).seq.taken = s.seq.taken ∧
    (settle s).store.available = s.store.available ∧ (settle s).store.blocks = s.store.blocks ∧
    (settle s).store.low = s.store.low ∧ (settle s).store.mem = s.store.mem ∧
    (settle s).store.sealCounter = s.store.sealCounter ∧ (settle s).mc = s.mc ∧
    (settle s).slots.length = s.slots.length ∧ (settle s).meas = s.meas ∧ (settle s).render.again = s.render.again ∧
    (settle s).render.completed = s.render.completed ∧ (settle s).render.cursorA = s.render.cursorA ∧
    (settle s).render.cursorB = s.render.cursorB ∧ (settle s).render.dirty = s.render.dirty ∧
    (settle s).render.divider = s.render.divider ∧ (settle s).render.drawnA = s.render.drawnA ∧
    (settle s).render.drawnB = s.render.drawnB ∧ (settle s).render.frame = s.render.frame ∧
    (settle s).render.latch = s.render.latch ∧ (settle s).render.layout = s.render.layout ∧
    (settle s).render.liveCount = s.render.liveCount ∧ (settle s).render.palette = s.render.palette ∧
    (settle s).render.trace = s.render.trace ∧ (settle s).render.view = s.render.view ∧ (settle s).panel = s.panel ∧
    (settle s).ports.claim = s.ports.claim ∧ (settle s).ports.con.levels = s.ports.con.levels ∧
    (settle s).ports.conOut = s.ports.conOut ∧ (settle s).ports.conReplies = s.ports.conReplies ∧
    (settle s).ports.conService = s.ports.conService ∧ (settle s).ports.link = s.ports.link ∧
    (settle s).ports.outFrame = s.ports.outFrame ∧ (settle s).ports.remoteWake = s.ports.remoteWake ∧
    (settle s).ports.teth.levels = s.ports.teth.levels ∧ (settle s).ports.tethOut = s.ports.tethOut ∧
    (settle s).ports.tethReplies = s.ports.tethReplies ∧ (settle s).ports.tethService = s.ports.tethService ∧
    (settle s).ports.vbus = s.ports.vbus ∧ (settle s).power = s.power ∧ (settle s).pending = s.pending := by
  simp [settle]

@[simp] theorem startStream_frame (n b t : Nat) (s : State) :
    (startStream n b t s).fe = s.fe ∧ (startStream n b t s).seq = s.seq ∧ (startStream n b t s).store = s.store ∧
    (startStream n b t s).mc = s.mc ∧ (startStream n b t s).slots.length = s.slots.length ∧
    (startStream n b t s).notes = s.notes ∧ (startStream n b t s).meas = s.meas ∧
    (startStream n b t s).render = s.render ∧ (startStream n b t s).panel = s.panel ∧
    (startStream n b t s).ports = s.ports ∧ (startStream n b t s).power = s.power ∧
    (startStream n b t s).free = s.free ∧ (startStream n b t s).pending = s.pending := by
  simp [startStream]

@[simp] theorem armSegment_frame (owner : Option Port) (index t : Nat) (s : State) :
    (armSegment owner index t s).seq.params = s.seq.params ∧ (armSegment owner index t s).seq.seqEnd = s.seq.seqEnd ∧
    (armSegment owner index t s).store.available = s.store.available ∧
    (armSegment owner index t s).store.low = s.store.low ∧ (armSegment owner index t s).store.mem = s.store.mem ∧
    (armSegment owner index t s).store.sealCounter = s.store.sealCounter ∧ (armSegment owner index t s).mc = s.mc ∧
    (armSegment owner index t s).slots.length = s.slots.length ∧ (armSegment owner index t s).notes = s.notes ∧
    (armSegment owner index t s).meas = s.meas ∧ (armSegment owner index t s).render = s.render ∧
    (armSegment owner index t s).panel = s.panel ∧ (armSegment owner index t s).ports.claim = s.ports.claim ∧
    (armSegment owner index t s).ports.con.levels = s.ports.con.levels ∧
    (armSegment owner index t s).ports.con.stream = s.ports.con.stream ∧
    (armSegment owner index t s).ports.conOut = s.ports.conOut ∧
    (armSegment owner index t s).ports.conReplies = s.ports.conReplies ∧
    (armSegment owner index t s).ports.conService = s.ports.conService ∧
    (armSegment owner index t s).ports.link = s.ports.link ∧
    (armSegment owner index t s).ports.outFrame = s.ports.outFrame ∧
    (armSegment owner index t s).ports.remoteWake = s.ports.remoteWake ∧
    (armSegment owner index t s).ports.teth.levels = s.ports.teth.levels ∧
    (armSegment owner index t s).ports.teth.stream = s.ports.teth.stream ∧
    (armSegment owner index t s).ports.tethOut = s.ports.tethOut ∧
    (armSegment owner index t s).ports.tethReplies = s.ports.tethReplies ∧
    (armSegment owner index t s).ports.tethService = s.ports.tethService ∧
    (armSegment owner index t s).ports.vbus = s.ports.vbus ∧ (armSegment owner index t s).power = s.power ∧
    (armSegment owner index t s).free = s.free ∧ (armSegment owner index t s).pending = s.pending := by
  unfold armSegment <;> (try dsimp only) <;> (repeat' split) <;> simp

@[simp] theorem sealEntry_frame (n t : Nat) (reason : SealReason) (s : State) :
    (sealEntry n t reason s).fe = s.fe ∧ (sealEntry n t reason s).comp = s.comp ∧
    (sealEntry n t reason s).tap = s.tap ∧ (sealEntry n t reason s).writer = s.writer ∧
    (sealEntry n t reason s).seq = s.seq ∧ (sealEntry n t reason s).store.available = s.store.available ∧
    (sealEntry n t reason s).store.blocks = s.store.blocks ∧
    (sealEntry n t reason s).store.freeList = s.store.freeList ∧ (sealEntry n t reason s).store.low = s.store.low ∧
    (sealEntry n t reason s).store.mem = s.store.mem ∧ (sealEntry n t reason s).mc = s.mc ∧
    (sealEntry n t reason s).slots = s.slots ∧ (sealEntry n t reason s).notes = s.notes ∧
    (sealEntry n t reason s).meas = s.meas ∧ (sealEntry n t reason s).render = s.render ∧
    (sealEntry n t reason s).panel = s.panel ∧ (sealEntry n t reason s).ports = s.ports ∧
    (sealEntry n t reason s).power = s.power ∧ (sealEntry n t reason s).free = s.free ∧
    (sealEntry n t reason s).pending = s.pending := by
  simp [sealEntry]

@[simp] theorem endSequence_frame (s : State) :
    (endSequence s).fe = s.fe ∧ (endSequence s).comp.last = s.comp.last ∧
    (endSequence s).comp.lastTick = s.comp.lastTick ∧ (endSequence s).comp.lossOpen = s.comp.lossOpen ∧
    (endSequence s).comp.staging = s.comp.staging ∧ (endSequence s).comp.stagingTime = s.comp.stagingTime ∧
    (endSequence s).writer = s.writer ∧ (endSequence s).seq.params = s.seq.params ∧
    (endSequence s).seq.reason = s.seq.reason ∧ (endSequence s).seq.seqEnd = s.seq.seqEnd ∧
    (endSequence s).seq.stopTick = s.seq.stopTick ∧ (endSequence s).seq.taken = s.seq.taken ∧
    (endSequence s).store = s.store ∧ (endSequence s).mc = s.mc ∧ (endSequence s).slots.length = s.slots.length ∧
    (endSequence s).notes = s.notes ∧ (endSequence s).meas = s.meas ∧ (endSequence s).render = s.render ∧
    (endSequence s).panel = s.panel ∧ (endSequence s).ports = s.ports ∧ (endSequence s).power = s.power ∧
    (endSequence s).free = s.free ∧ (endSequence s).pending = s.pending := by
  simp [endSequence]

@[simp] theorem rearm_frame (s : State) :
    (rearm s).seq.params = s.seq.params ∧ (rearm s).seq.seqEnd = s.seq.seqEnd ∧
    (rearm s).store.available = s.store.available ∧ (rearm s).store.low = s.store.low ∧
    (rearm s).store.mem = s.store.mem ∧ (rearm s).store.sealCounter = s.store.sealCounter ∧ (rearm s).mc = s.mc ∧
    (rearm s).slots.length = s.slots.length ∧ (rearm s).meas = s.meas ∧ (rearm s).render.again = s.render.again ∧
    (rearm s).render.completed = s.render.completed ∧ (rearm s).render.cursorA = s.render.cursorA ∧
    (rearm s).render.cursorB = s.render.cursorB ∧ (rearm s).render.dirty = s.render.dirty ∧
    (rearm s).render.divider = s.render.divider ∧ (rearm s).render.drawnA = s.render.drawnA ∧
    (rearm s).render.drawnB = s.render.drawnB ∧ (rearm s).render.frame = s.render.frame ∧
    (rearm s).render.latch = s.render.latch ∧ (rearm s).render.layout = s.render.layout ∧
    (rearm s).render.liveCount = s.render.liveCount ∧ (rearm s).render.palette = s.render.palette ∧
    (rearm s).render.trace = s.render.trace ∧ (rearm s).render.view = s.render.view ∧ (rearm s).panel = s.panel ∧
    (rearm s).ports.claim = s.ports.claim ∧ (rearm s).ports.con.levels = s.ports.con.levels ∧
    (rearm s).ports.conOut = s.ports.conOut ∧ (rearm s).ports.conReplies = s.ports.conReplies ∧
    (rearm s).ports.conService = s.ports.conService ∧ (rearm s).ports.link = s.ports.link ∧
    (rearm s).ports.outFrame = s.ports.outFrame ∧ (rearm s).ports.remoteWake = s.ports.remoteWake ∧
    (rearm s).ports.teth.levels = s.ports.teth.levels ∧ (rearm s).ports.tethOut = s.ports.tethOut ∧
    (rearm s).ports.tethReplies = s.ports.tethReplies ∧ (rearm s).ports.tethService = s.ports.tethService ∧
    (rearm s).ports.vbus = s.ports.vbus ∧ (rearm s).power = s.power ∧ (rearm s).pending = s.pending := by
  unfold rearm <;> (try dsimp only) <;> (repeat' split) <;> simp

@[simp] theorem sealSegment_frame (s : State) :
    (sealSegment s).seq.params = s.seq.params ∧ (sealSegment s).seq.seqEnd = s.seq.seqEnd ∧
    (sealSegment s).store.available = s.store.available ∧ (sealSegment s).store.low = s.store.low ∧
    (sealSegment s).store.mem = s.store.mem ∧ (sealSegment s).mc = s.mc ∧
    (sealSegment s).slots.length = s.slots.length ∧ (sealSegment s).meas = s.meas ∧
    (sealSegment s).render.again = s.render.again ∧ (sealSegment s).render.completed = s.render.completed ∧
    (sealSegment s).render.cursorA = s.render.cursorA ∧ (sealSegment s).render.cursorB = s.render.cursorB ∧
    (sealSegment s).render.dirty = s.render.dirty ∧ (sealSegment s).render.divider = s.render.divider ∧
    (sealSegment s).render.drawnA = s.render.drawnA ∧ (sealSegment s).render.drawnB = s.render.drawnB ∧
    (sealSegment s).render.frame = s.render.frame ∧ (sealSegment s).render.latch = s.render.latch ∧
    (sealSegment s).render.layout = s.render.layout ∧ (sealSegment s).render.liveCount = s.render.liveCount ∧
    (sealSegment s).render.palette = s.render.palette ∧ (sealSegment s).render.trace = s.render.trace ∧
    (sealSegment s).render.view = s.render.view ∧ (sealSegment s).panel = s.panel ∧
    (sealSegment s).ports.claim = s.ports.claim ∧ (sealSegment s).ports.con.levels = s.ports.con.levels ∧
    (sealSegment s).ports.conOut = s.ports.conOut ∧ (sealSegment s).ports.conReplies = s.ports.conReplies ∧
    (sealSegment s).ports.conService = s.ports.conService ∧ (sealSegment s).ports.link = s.ports.link ∧
    (sealSegment s).ports.outFrame = s.ports.outFrame ∧ (sealSegment s).ports.remoteWake = s.ports.remoteWake ∧
    (sealSegment s).ports.teth.levels = s.ports.teth.levels ∧ (sealSegment s).ports.tethOut = s.ports.tethOut ∧
    (sealSegment s).ports.tethReplies = s.ports.tethReplies ∧
    (sealSegment s).ports.tethService = s.ports.tethService ∧ (sealSegment s).ports.vbus = s.ports.vbus ∧
    (sealSegment s).power = s.power ∧ (sealSegment s).pending = s.pending := by
  unfold sealSegment <;> (try dsimp only) <;> (repeat' split) <;> simp

/-! ## Decoding -/

@[simp] theorem finishOffline_frame (k : Nat) (st : SlotState) (s : State) :
    (finishOffline k st s).fe = s.fe ∧ (finishOffline k st s).comp = s.comp ∧
    (finishOffline k st s).tap.gapOpen = s.tap.gapOpen ∧ (finishOffline k st s).writer = s.writer ∧
    (finishOffline k st s).seq = s.seq ∧ (finishOffline k st s).store.available = s.store.available ∧
    (finishOffline k st s).store.blocks = s.store.blocks ∧ (finishOffline k st s).store.low = s.store.low ∧
    (finishOffline k st s).store.mem = s.store.mem ∧ (finishOffline k st s).store.sealCounter = s.store.sealCounter ∧
    (finishOffline k st s).mc.banks = s.mc.banks ∧ (finishOffline k st s).mc.debt = s.mc.debt ∧
    (finishOffline k st s).mc.init = s.mc.init ∧ (finishOffline k st s).mc.last = s.mc.last ∧
    (finishOffline k st s).mc.lastSlot = s.mc.lastSlot ∧ (finishOffline k st s).mc.phase = s.mc.phase ∧
    (finishOffline k st s).mc.st = s.mc.st ∧ (finishOffline k st s).slots.length = s.slots.length ∧
    (finishOffline k st s).meas = s.meas ∧ (finishOffline k st s).render.again = s.render.again ∧
    (finishOffline k st s).render.completed = s.render.completed ∧
    (finishOffline k st s).render.cursorA = s.render.cursorA ∧
    (finishOffline k st s).render.cursorB = s.render.cursorB ∧ (finishOffline k st s).render.dirty = s.render.dirty ∧
    (finishOffline k st s).render.divider = s.render.divider ∧
    (finishOffline k st s).render.drawnA = s.render.drawnA ∧ (finishOffline k st s).render.drawnB = s.render.drawnB ∧
    (finishOffline k st s).render.frame = s.render.frame ∧ (finishOffline k st s).render.latch = s.render.latch ∧
    (finishOffline k st s).render.layout = s.render.layout ∧
    (finishOffline k st s).render.liveCount = s.render.liveCount ∧
    (finishOffline k st s).render.palette = s.render.palette ∧ (finishOffline k st s).render.trace = s.render.trace ∧
    (finishOffline k st s).render.view = s.render.view ∧ (finishOffline k st s).panel = s.panel ∧
    (finishOffline k st s).ports.claim = s.ports.claim ∧
    (finishOffline k st s).ports.con.levels = s.ports.con.levels ∧
    (finishOffline k st s).ports.conOut = s.ports.conOut ∧
    (finishOffline k st s).ports.conReplies = s.ports.conReplies ∧
    (finishOffline k st s).ports.conService = s.ports.conService ∧ (finishOffline k st s).ports.link = s.ports.link ∧
    (finishOffline k st s).ports.outFrame = s.ports.outFrame ∧
    (finishOffline k st s).ports.remoteWake = s.ports.remoteWake ∧
    (finishOffline k st s).ports.teth.levels = s.ports.teth.levels ∧
    (finishOffline k st s).ports.tethOut = s.ports.tethOut ∧
    (finishOffline k st s).ports.tethReplies = s.ports.tethReplies ∧
    (finishOffline k st s).ports.tethService = s.ports.tethService ∧
    (finishOffline k st s).ports.vbus = s.ports.vbus ∧ (finishOffline k st s).power = s.power ∧
    (finishOffline k st s).pending = s.pending := by
  simp [finishOffline]

@[simp] theorem stopLive_frame (k : Nat) (cause : StopCause) (s : State) :
    (stopLive k cause s).fe = s.fe ∧ (stopLive k cause s).comp = s.comp ∧ (stopLive k cause s).writer = s.writer ∧
    (stopLive k cause s).seq = s.seq ∧ (stopLive k cause s).store = s.store ∧ (stopLive k cause s).mc = s.mc ∧
    (stopLive k cause s).slots.length = s.slots.length ∧ (stopLive k cause s).notes = s.notes ∧
    (stopLive k cause s).meas = s.meas ∧ (stopLive k cause s).render = s.render ∧
    (stopLive k cause s).panel = s.panel ∧ (stopLive k cause s).ports = s.ports ∧
    (stopLive k cause s).power = s.power ∧ (stopLive k cause s).free = s.free ∧
    (stopLive k cause s).pending = s.pending := by
  simp [stopLive]

@[simp] theorem stopSlot_frame (k : Nat) (cause : StopCause) (s : State) :
    (stopSlot k cause s).fe = s.fe ∧ (stopSlot k cause s).comp = s.comp ∧ (stopSlot k cause s).writer = s.writer ∧
    (stopSlot k cause s).seq = s.seq ∧ (stopSlot k cause s).store.available = s.store.available ∧
    (stopSlot k cause s).store.blocks = s.store.blocks ∧ (stopSlot k cause s).store.low = s.store.low ∧
    (stopSlot k cause s).store.mem = s.store.mem ∧ (stopSlot k cause s).store.sealCounter = s.store.sealCounter ∧
    (stopSlot k cause s).mc.banks = s.mc.banks ∧ (stopSlot k cause s).mc.debt = s.mc.debt ∧
    (stopSlot k cause s).mc.init = s.mc.init ∧ (stopSlot k cause s).mc.last = s.mc.last ∧
    (stopSlot k cause s).mc.lastSlot = s.mc.lastSlot ∧ (stopSlot k cause s).mc.phase = s.mc.phase ∧
    (stopSlot k cause s).mc.st = s.mc.st ∧ (stopSlot k cause s).slots.length = s.slots.length ∧
    (stopSlot k cause s).meas = s.meas ∧ (stopSlot k cause s).render.again = s.render.again ∧
    (stopSlot k cause s).render.completed = s.render.completed ∧
    (stopSlot k cause s).render.cursorA = s.render.cursorA ∧ (stopSlot k cause s).render.cursorB = s.render.cursorB ∧
    (stopSlot k cause s).render.dirty = s.render.dirty ∧ (stopSlot k cause s).render.divider = s.render.divider ∧
    (stopSlot k cause s).render.drawnA = s.render.drawnA ∧ (stopSlot k cause s).render.drawnB = s.render.drawnB ∧
    (stopSlot k cause s).render.frame = s.render.frame ∧ (stopSlot k cause s).render.latch = s.render.latch ∧
    (stopSlot k cause s).render.layout = s.render.layout ∧
    (stopSlot k cause s).render.liveCount = s.render.liveCount ∧
    (stopSlot k cause s).render.palette = s.render.palette ∧ (stopSlot k cause s).render.trace = s.render.trace ∧
    (stopSlot k cause s).render.view = s.render.view ∧ (stopSlot k cause s).panel = s.panel ∧
    (stopSlot k cause s).ports.claim = s.ports.claim ∧ (stopSlot k cause s).ports.con.levels = s.ports.con.levels ∧
    (stopSlot k cause s).ports.conOut = s.ports.conOut ∧ (stopSlot k cause s).ports.conReplies = s.ports.conReplies ∧
    (stopSlot k cause s).ports.conService = s.ports.conService ∧ (stopSlot k cause s).ports.link = s.ports.link ∧
    (stopSlot k cause s).ports.outFrame = s.ports.outFrame ∧
    (stopSlot k cause s).ports.remoteWake = s.ports.remoteWake ∧
    (stopSlot k cause s).ports.teth.levels = s.ports.teth.levels ∧
    (stopSlot k cause s).ports.tethOut = s.ports.tethOut ∧
    (stopSlot k cause s).ports.tethReplies = s.ports.tethReplies ∧
    (stopSlot k cause s).ports.tethService = s.ports.tethService ∧ (stopSlot k cause s).ports.vbus = s.ports.vbus ∧
    (stopSlot k cause s).power = s.power ∧ (stopSlot k cause s).pending = s.pending := by
  unfold stopSlot <;> (try dsimp only) <;> (repeat' split) <;> simp

@[simp] theorem freeSlot_frame (k : Nat) (s : State) :
    (freeSlot k s).fe = s.fe ∧ (freeSlot k s).comp = s.comp ∧ (freeSlot k s).writer = s.writer ∧
    (freeSlot k s).seq = s.seq ∧ (freeSlot k s).store.available = s.store.available ∧
    (freeSlot k s).store.blocks = s.store.blocks ∧ (freeSlot k s).store.low = s.store.low ∧
    (freeSlot k s).store.mem = s.store.mem ∧ (freeSlot k s).store.sealCounter = s.store.sealCounter ∧
    (freeSlot k s).mc.banks = s.mc.banks ∧ (freeSlot k s).mc.debt = s.mc.debt ∧ (freeSlot k s).mc.init = s.mc.init ∧
    (freeSlot k s).mc.last = s.mc.last ∧ (freeSlot k s).mc.lastSlot = s.mc.lastSlot ∧
    (freeSlot k s).mc.phase = s.mc.phase ∧ (freeSlot k s).mc.st = s.mc.st ∧
    (freeSlot k s).slots.length = s.slots.length ∧ (freeSlot k s).meas = s.meas ∧
    (freeSlot k s).render.again = s.render.again ∧ (freeSlot k s).render.completed = s.render.completed ∧
    (freeSlot k s).render.cursorA = s.render.cursorA ∧ (freeSlot k s).render.cursorB = s.render.cursorB ∧
    (freeSlot k s).render.dirty = s.render.dirty ∧ (freeSlot k s).render.divider = s.render.divider ∧
    (freeSlot k s).render.drawnA = s.render.drawnA ∧ (freeSlot k s).render.drawnB = s.render.drawnB ∧
    (freeSlot k s).render.frame = s.render.frame ∧ (freeSlot k s).render.latch = s.render.latch ∧
    (freeSlot k s).render.layout = s.render.layout ∧ (freeSlot k s).render.liveCount = s.render.liveCount ∧
    (freeSlot k s).render.palette = s.render.palette ∧ (freeSlot k s).render.trace = s.render.trace ∧
    (freeSlot k s).render.view = s.render.view ∧ (freeSlot k s).panel = s.panel ∧
    (freeSlot k s).ports.claim = s.ports.claim ∧ (freeSlot k s).ports.con.levels = s.ports.con.levels ∧
    (freeSlot k s).ports.conOut = s.ports.conOut ∧ (freeSlot k s).ports.conReplies = s.ports.conReplies ∧
    (freeSlot k s).ports.conService = s.ports.conService ∧ (freeSlot k s).ports.link = s.ports.link ∧
    (freeSlot k s).ports.outFrame = s.ports.outFrame ∧ (freeSlot k s).ports.remoteWake = s.ports.remoteWake ∧
    (freeSlot k s).ports.teth.levels = s.ports.teth.levels ∧ (freeSlot k s).ports.tethOut = s.ports.tethOut ∧
    (freeSlot k s).ports.tethReplies = s.ports.tethReplies ∧ (freeSlot k s).ports.tethService = s.ports.tethService ∧
    (freeSlot k s).ports.vbus = s.ports.vbus ∧ (freeSlot k s).power = s.power ∧
    (freeSlot k s).pending = s.pending := by
  simp [freeSlot]

@[simp] theorem queueEntry_frame (k : Nat) (e : CharEntry) (s : State) :
    (queueEntry k e s).fe = s.fe ∧ (queueEntry k e s).comp = s.comp ∧ (queueEntry k e s).tap = s.tap ∧
    (queueEntry k e s).writer = s.writer ∧ (queueEntry k e s).seq = s.seq ∧ (queueEntry k e s).store = s.store ∧
    (queueEntry k e s).mc = s.mc ∧ (queueEntry k e s).slots.length = s.slots.length ∧
    (queueEntry k e s).notes = s.notes ∧ (queueEntry k e s).meas = s.meas ∧ (queueEntry k e s).render = s.render ∧
    (queueEntry k e s).panel = s.panel ∧ (queueEntry k e s).ports.claim = s.ports.claim ∧
    (queueEntry k e s).ports.con.levels = s.ports.con.levels ∧
    (queueEntry k e s).ports.con.stream = s.ports.con.stream ∧ (queueEntry k e s).ports.conOut = s.ports.conOut ∧
    (queueEntry k e s).ports.conReplies = s.ports.conReplies ∧
    (queueEntry k e s).ports.conService = s.ports.conService ∧ (queueEntry k e s).ports.link = s.ports.link ∧
    (queueEntry k e s).ports.outFrame = s.ports.outFrame ∧ (queueEntry k e s).ports.remoteWake = s.ports.remoteWake ∧
    (queueEntry k e s).ports.teth.levels = s.ports.teth.levels ∧
    (queueEntry k e s).ports.teth.stream = s.ports.teth.stream ∧ (queueEntry k e s).ports.tethOut = s.ports.tethOut ∧
    (queueEntry k e s).ports.tethReplies = s.ports.tethReplies ∧
    (queueEntry k e s).ports.tethService = s.ports.tethService ∧ (queueEntry k e s).ports.vbus = s.ports.vbus ∧
    (queueEntry k e s).power = s.power ∧ (queueEntry k e s).free = s.free ∧
    (queueEntry k e s).pending = s.pending := by
  unfold queueEntry <;> (try dsimp only) <;> (repeat' split) <;> simp

@[simp] theorem feedQueue_frame (k : Nat) (f : Formed) (s : State) :
    (feedQueue k f s).fe = s.fe ∧ (feedQueue k f s).comp = s.comp ∧ (feedQueue k f s).tap = s.tap ∧
    (feedQueue k f s).writer = s.writer ∧ (feedQueue k f s).seq = s.seq ∧ (feedQueue k f s).store = s.store ∧
    (feedQueue k f s).mc = s.mc ∧ (feedQueue k f s).slots.length = s.slots.length ∧
    (feedQueue k f s).notes = s.notes ∧ (feedQueue k f s).meas = s.meas ∧ (feedQueue k f s).render = s.render ∧
    (feedQueue k f s).panel = s.panel ∧ (feedQueue k f s).ports.claim = s.ports.claim ∧
    (feedQueue k f s).ports.con.levels = s.ports.con.levels ∧
    (feedQueue k f s).ports.con.stream = s.ports.con.stream ∧ (feedQueue k f s).ports.conOut = s.ports.conOut ∧
    (feedQueue k f s).ports.conReplies = s.ports.conReplies ∧
    (feedQueue k f s).ports.conService = s.ports.conService ∧ (feedQueue k f s).ports.link = s.ports.link ∧
    (feedQueue k f s).ports.outFrame = s.ports.outFrame ∧ (feedQueue k f s).ports.remoteWake = s.ports.remoteWake ∧
    (feedQueue k f s).ports.teth.levels = s.ports.teth.levels ∧
    (feedQueue k f s).ports.teth.stream = s.ports.teth.stream ∧ (feedQueue k f s).ports.tethOut = s.ports.tethOut ∧
    (feedQueue k f s).ports.tethReplies = s.ports.tethReplies ∧
    (feedQueue k f s).ports.tethService = s.ports.tethService ∧ (feedQueue k f s).ports.vbus = s.ports.vbus ∧
    (feedQueue k f s).power = s.power ∧ (feedQueue k f s).free = s.free ∧ (feedQueue k f s).pending = s.pending := by
  unfold feedQueue <;> (try dsimp only) <;> (repeat' split) <;> simp

@[simp] theorem ringNote_frame (k : Nat) (e : Note) (s : State) :
    (ringNote k e s).fe = s.fe ∧ (ringNote k e s).comp = s.comp ∧ (ringNote k e s).tap = s.tap ∧
    (ringNote k e s).writer = s.writer ∧ (ringNote k e s).seq = s.seq ∧ (ringNote k e s).store = s.store ∧
    (ringNote k e s).mc = s.mc ∧ (ringNote k e s).slots = s.slots ∧ (ringNote k e s).meas = s.meas ∧
    (ringNote k e s).render.again = s.render.again ∧ (ringNote k e s).render.completed = s.render.completed ∧
    (ringNote k e s).render.cursorA = s.render.cursorA ∧ (ringNote k e s).render.cursorB = s.render.cursorB ∧
    (ringNote k e s).render.dirty = s.render.dirty ∧ (ringNote k e s).render.divider = s.render.divider ∧
    (ringNote k e s).render.drawnA = s.render.drawnA ∧ (ringNote k e s).render.drawnB = s.render.drawnB ∧
    (ringNote k e s).render.frame = s.render.frame ∧ (ringNote k e s).render.latch = s.render.latch ∧
    (ringNote k e s).render.layout = s.render.layout ∧ (ringNote k e s).render.liveCount = s.render.liveCount ∧
    (ringNote k e s).render.palette = s.render.palette ∧ (ringNote k e s).render.trace = s.render.trace ∧
    (ringNote k e s).render.view = s.render.view ∧ (ringNote k e s).panel = s.panel ∧
    (ringNote k e s).ports.attn = s.ports.attn ∧ (ringNote k e s).ports.claim = s.ports.claim ∧
    (ringNote k e s).ports.con.alerts = s.ports.con.alerts ∧ (ringNote k e s).ports.con.levels = s.ports.con.levels ∧
    (ringNote k e s).ports.conOut = s.ports.conOut ∧ (ringNote k e s).ports.conReplies = s.ports.conReplies ∧
    (ringNote k e s).ports.conService = s.ports.conService ∧ (ringNote k e s).ports.link = s.ports.link ∧
    (ringNote k e s).ports.outFrame = s.ports.outFrame ∧ (ringNote k e s).ports.remoteWake = s.ports.remoteWake ∧
    (ringNote k e s).ports.resuming = s.ports.resuming ∧ (ringNote k e s).ports.teth.alerts = s.ports.teth.alerts ∧
    (ringNote k e s).ports.teth.levels = s.ports.teth.levels ∧ (ringNote k e s).ports.tethOut = s.ports.tethOut ∧
    (ringNote k e s).ports.tethReplies = s.ports.tethReplies ∧
    (ringNote k e s).ports.tethService = s.ports.tethService ∧ (ringNote k e s).ports.vbus = s.ports.vbus ∧
    (ringNote k e s).power = s.power ∧ (ringNote k e s).pending = s.pending := by
  simp [ringNote]

@[simp] theorem handOffline_frame (k n : Nat) (f : Formed) (s : State) :
    (handOffline k n f s).fe = s.fe ∧ (handOffline k n f s).comp = s.comp ∧
    (handOffline k n f s).tap.gapOpen = s.tap.gapOpen ∧ (handOffline k n f s).writer = s.writer ∧
    (handOffline k n f s).seq = s.seq ∧ (handOffline k n f s).store.available = s.store.available ∧
    (handOffline k n f s).store.blocks = s.store.blocks ∧ (handOffline k n f s).store.low = s.store.low ∧
    (handOffline k n f s).store.mem = s.store.mem ∧ (handOffline k n f s).store.sealCounter = s.store.sealCounter ∧
    (handOffline k n f s).mc.banks = s.mc.banks ∧ (handOffline k n f s).mc.debt = s.mc.debt ∧
    (handOffline k n f s).mc.init = s.mc.init ∧ (handOffline k n f s).mc.last = s.mc.last ∧
    (handOffline k n f s).mc.lastSlot = s.mc.lastSlot ∧ (handOffline k n f s).mc.phase = s.mc.phase ∧
    (handOffline k n f s).mc.st = s.mc.st ∧ (handOffline k n f s).slots.length = s.slots.length ∧
    (handOffline k n f s).meas = s.meas ∧ (handOffline k n f s).render.again = s.render.again ∧
    (handOffline k n f s).render.completed = s.render.completed ∧
    (handOffline k n f s).render.cursorA = s.render.cursorA ∧
    (handOffline k n f s).render.cursorB = s.render.cursorB ∧ (handOffline k n f s).render.dirty = s.render.dirty ∧
    (handOffline k n f s).render.divider = s.render.divider ∧ (handOffline k n f s).render.drawnA = s.render.drawnA ∧
    (handOffline k n f s).render.drawnB = s.render.drawnB ∧ (handOffline k n f s).render.frame = s.render.frame ∧
    (handOffline k n f s).render.latch = s.render.latch ∧ (handOffline k n f s).render.layout = s.render.layout ∧
    (handOffline k n f s).render.liveCount = s.render.liveCount ∧
    (handOffline k n f s).render.palette = s.render.palette ∧ (handOffline k n f s).render.trace = s.render.trace ∧
    (handOffline k n f s).render.view = s.render.view ∧ (handOffline k n f s).panel = s.panel ∧
    (handOffline k n f s).ports.claim = s.ports.claim ∧ (handOffline k n f s).ports.con.levels = s.ports.con.levels ∧
    (handOffline k n f s).ports.conOut = s.ports.conOut ∧
    (handOffline k n f s).ports.conReplies = s.ports.conReplies ∧
    (handOffline k n f s).ports.conService = s.ports.conService ∧ (handOffline k n f s).ports.link = s.ports.link ∧
    (handOffline k n f s).ports.outFrame = s.ports.outFrame ∧
    (handOffline k n f s).ports.remoteWake = s.ports.remoteWake ∧
    (handOffline k n f s).ports.teth.levels = s.ports.teth.levels ∧
    (handOffline k n f s).ports.tethOut = s.ports.tethOut ∧
    (handOffline k n f s).ports.tethReplies = s.ports.tethReplies ∧
    (handOffline k n f s).ports.tethService = s.ports.tethService ∧ (handOffline k n f s).ports.vbus = s.ports.vbus ∧
    (handOffline k n f s).power = s.power ∧ (handOffline k n f s).pending = s.pending := by
  unfold handOffline <;> (try dsimp only) <;> (repeat' split) <;> simp

@[simp] theorem handLive_frame (k : Nat) (f : Formed) (s : State) :
    (handLive k f s).fe = s.fe ∧ (handLive k f s).writer = s.writer ∧ (handLive k f s).seq.params = s.seq.params ∧
    (handLive k f s).seq.seg = s.seq.seg ∧ (handLive k f s).seq.taken = s.seq.taken ∧
    (handLive k f s).store.available = s.store.available ∧ (handLive k f s).store.blocks = s.store.blocks ∧
    (handLive k f s).store.low = s.store.low ∧ (handLive k f s).store.mem = s.store.mem ∧
    (handLive k f s).store.sealCounter = s.store.sealCounter ∧ (handLive k f s).mc = s.mc ∧
    (handLive k f s).slots.length = s.slots.length ∧ (handLive k f s).meas = s.meas ∧
    (handLive k f s).render.again = s.render.again ∧ (handLive k f s).render.completed = s.render.completed ∧
    (handLive k f s).render.cursorA = s.render.cursorA ∧ (handLive k f s).render.cursorB = s.render.cursorB ∧
    (handLive k f s).render.dirty = s.render.dirty ∧ (handLive k f s).render.divider = s.render.divider ∧
    (handLive k f s).render.drawnA = s.render.drawnA ∧ (handLive k f s).render.drawnB = s.render.drawnB ∧
    (handLive k f s).render.frame = s.render.frame ∧ (handLive k f s).render.latch = s.render.latch ∧
    (handLive k f s).render.layout = s.render.layout ∧ (handLive k f s).render.liveCount = s.render.liveCount ∧
    (handLive k f s).render.palette = s.render.palette ∧ (handLive k f s).render.trace = s.render.trace ∧
    (handLive k f s).render.view = s.render.view ∧ (handLive k f s).panel = s.panel ∧
    (handLive k f s).ports.claim = s.ports.claim ∧ (handLive k f s).ports.con.levels = s.ports.con.levels ∧
    (handLive k f s).ports.conOut = s.ports.conOut ∧ (handLive k f s).ports.conReplies = s.ports.conReplies ∧
    (handLive k f s).ports.conService = s.ports.conService ∧ (handLive k f s).ports.link = s.ports.link ∧
    (handLive k f s).ports.outFrame = s.ports.outFrame ∧ (handLive k f s).ports.remoteWake = s.ports.remoteWake ∧
    (handLive k f s).ports.teth.levels = s.ports.teth.levels ∧ (handLive k f s).ports.tethOut = s.ports.tethOut ∧
    (handLive k f s).ports.tethReplies = s.ports.tethReplies ∧
    (handLive k f s).ports.tethService = s.ports.tethService ∧ (handLive k f s).ports.vbus = s.ports.vbus ∧
    (handLive k f s).power = s.power ∧ (handLive k f s).pending = s.pending := by
  unfold handLive <;> (try dsimp only) <;> (repeat' split) <;> simp

@[simp] theorem handOn_frame (k : Nat) (f : Formed) (s : State) :
    (handOn k f s).fe = s.fe ∧ (handOn k f s).writer = s.writer ∧ (handOn k f s).seq.params = s.seq.params ∧
    (handOn k f s).seq.seg = s.seq.seg ∧ (handOn k f s).seq.taken = s.seq.taken ∧
    (handOn k f s).store.available = s.store.available ∧ (handOn k f s).store.blocks = s.store.blocks ∧
    (handOn k f s).store.low = s.store.low ∧ (handOn k f s).store.mem = s.store.mem ∧
    (handOn k f s).store.sealCounter = s.store.sealCounter ∧ (handOn k f s).mc.banks = s.mc.banks ∧
    (handOn k f s).mc.debt = s.mc.debt ∧ (handOn k f s).mc.init = s.mc.init ∧ (handOn k f s).mc.last = s.mc.last ∧
    (handOn k f s).mc.lastSlot = s.mc.lastSlot ∧ (handOn k f s).mc.phase = s.mc.phase ∧
    (handOn k f s).mc.st = s.mc.st ∧ (handOn k f s).slots.length = s.slots.length ∧ (handOn k f s).meas = s.meas ∧
    (handOn k f s).render.again = s.render.again ∧ (handOn k f s).render.completed = s.render.completed ∧
    (handOn k f s).render.cursorA = s.render.cursorA ∧ (handOn k f s).render.cursorB = s.render.cursorB ∧
    (handOn k f s).render.dirty = s.render.dirty ∧ (handOn k f s).render.divider = s.render.divider ∧
    (handOn k f s).render.drawnA = s.render.drawnA ∧ (handOn k f s).render.drawnB = s.render.drawnB ∧
    (handOn k f s).render.frame = s.render.frame ∧ (handOn k f s).render.latch = s.render.latch ∧
    (handOn k f s).render.layout = s.render.layout ∧ (handOn k f s).render.liveCount = s.render.liveCount ∧
    (handOn k f s).render.palette = s.render.palette ∧ (handOn k f s).render.trace = s.render.trace ∧
    (handOn k f s).render.view = s.render.view ∧ (handOn k f s).panel = s.panel ∧
    (handOn k f s).ports.claim = s.ports.claim ∧ (handOn k f s).ports.con.levels = s.ports.con.levels ∧
    (handOn k f s).ports.conOut = s.ports.conOut ∧ (handOn k f s).ports.conReplies = s.ports.conReplies ∧
    (handOn k f s).ports.conService = s.ports.conService ∧ (handOn k f s).ports.link = s.ports.link ∧
    (handOn k f s).ports.outFrame = s.ports.outFrame ∧ (handOn k f s).ports.remoteWake = s.ports.remoteWake ∧
    (handOn k f s).ports.teth.levels = s.ports.teth.levels ∧ (handOn k f s).ports.tethOut = s.ports.tethOut ∧
    (handOn k f s).ports.tethReplies = s.ports.tethReplies ∧ (handOn k f s).ports.tethService = s.ports.tethService ∧
    (handOn k f s).ports.vbus = s.ports.vbus ∧ (handOn k f s).power = s.power ∧
    (handOn k f s).pending = s.pending := by
  unfold handOn <;> (try dsimp only) <;> (repeat' split) <;> simp

@[simp] theorem handAll_frame (k : Nat) (l : List Formed) (s : State) :
    (handAll k l s).fe = s.fe ∧ (handAll k l s).writer = s.writer ∧ (handAll k l s).seq.params = s.seq.params ∧
    (handAll k l s).seq.seg = s.seq.seg ∧ (handAll k l s).seq.taken = s.seq.taken ∧
    (handAll k l s).store.available = s.store.available ∧ (handAll k l s).store.blocks = s.store.blocks ∧
    (handAll k l s).store.low = s.store.low ∧ (handAll k l s).store.mem = s.store.mem ∧
    (handAll k l s).store.sealCounter = s.store.sealCounter ∧ (handAll k l s).mc.banks = s.mc.banks ∧
    (handAll k l s).mc.debt = s.mc.debt ∧ (handAll k l s).mc.init = s.mc.init ∧ (handAll k l s).mc.last = s.mc.last ∧
    (handAll k l s).mc.lastSlot = s.mc.lastSlot ∧ (handAll k l s).mc.phase = s.mc.phase ∧
    (handAll k l s).mc.st = s.mc.st ∧ (handAll k l s).slots.length = s.slots.length ∧ (handAll k l s).meas = s.meas ∧
    (handAll k l s).render.again = s.render.again ∧ (handAll k l s).render.completed = s.render.completed ∧
    (handAll k l s).render.cursorA = s.render.cursorA ∧ (handAll k l s).render.cursorB = s.render.cursorB ∧
    (handAll k l s).render.dirty = s.render.dirty ∧ (handAll k l s).render.divider = s.render.divider ∧
    (handAll k l s).render.drawnA = s.render.drawnA ∧ (handAll k l s).render.drawnB = s.render.drawnB ∧
    (handAll k l s).render.frame = s.render.frame ∧ (handAll k l s).render.latch = s.render.latch ∧
    (handAll k l s).render.layout = s.render.layout ∧ (handAll k l s).render.liveCount = s.render.liveCount ∧
    (handAll k l s).render.palette = s.render.palette ∧ (handAll k l s).render.trace = s.render.trace ∧
    (handAll k l s).render.view = s.render.view ∧ (handAll k l s).panel = s.panel ∧
    (handAll k l s).ports.claim = s.ports.claim ∧ (handAll k l s).ports.con.levels = s.ports.con.levels ∧
    (handAll k l s).ports.conOut = s.ports.conOut ∧ (handAll k l s).ports.conReplies = s.ports.conReplies ∧
    (handAll k l s).ports.conService = s.ports.conService ∧ (handAll k l s).ports.link = s.ports.link ∧
    (handAll k l s).ports.outFrame = s.ports.outFrame ∧ (handAll k l s).ports.remoteWake = s.ports.remoteWake ∧
    (handAll k l s).ports.teth.levels = s.ports.teth.levels ∧ (handAll k l s).ports.tethOut = s.ports.tethOut ∧
    (handAll k l s).ports.tethReplies = s.ports.tethReplies ∧
    (handAll k l s).ports.tethService = s.ports.tethService ∧ (handAll k l s).ports.vbus = s.ports.vbus ∧
    (handAll k l s).power = s.power ∧ (handAll k l s).pending = s.pending := by
  induction l generalizing s with
  | nil => simp [handAll]
  | cons _ _ ih => simp [handAll, ih]

@[simp] theorem takeSamples_frame (k limit : Nat) (s : State) :
    (takeSamples k limit s).fe = s.fe ∧ (takeSamples k limit s).writer = s.writer ∧
    (takeSamples k limit s).seq.params = s.seq.params ∧ (takeSamples k limit s).seq.seg = s.seq.seg ∧
    (takeSamples k limit s).seq.taken = s.seq.taken ∧ (takeSamples k limit s).store.available = s.store.available ∧
    (takeSamples k limit s).store.blocks = s.store.blocks ∧ (takeSamples k limit s).store.low = s.store.low ∧
    (takeSamples k limit s).store.mem = s.store.mem ∧
    (takeSamples k limit s).store.sealCounter = s.store.sealCounter ∧ (takeSamples k limit s).mc.banks = s.mc.banks ∧
    (takeSamples k limit s).mc.debt = s.mc.debt ∧ (takeSamples k limit s).mc.init = s.mc.init ∧
    (takeSamples k limit s).mc.last = s.mc.last ∧ (takeSamples k limit s).mc.lastSlot = s.mc.lastSlot ∧
    (takeSamples k limit s).mc.phase = s.mc.phase ∧ (takeSamples k limit s).mc.st = s.mc.st ∧
    (takeSamples k limit s).slots.length = s.slots.length ∧ (takeSamples k limit s).meas = s.meas ∧
    (takeSamples k limit s).render.again = s.render.again ∧
    (takeSamples k limit s).render.completed = s.render.completed ∧
    (takeSamples k limit s).render.cursorA = s.render.cursorA ∧
    (takeSamples k limit s).render.cursorB = s.render.cursorB ∧
    (takeSamples k limit s).render.dirty = s.render.dirty ∧
    (takeSamples k limit s).render.divider = s.render.divider ∧
    (takeSamples k limit s).render.drawnA = s.render.drawnA ∧
    (takeSamples k limit s).render.drawnB = s.render.drawnB ∧ (takeSamples k limit s).render.frame = s.render.frame ∧
    (takeSamples k limit s).render.latch = s.render.latch ∧ (takeSamples k limit s).render.layout = s.render.layout ∧
    (takeSamples k limit s).render.liveCount = s.render.liveCount ∧
    (takeSamples k limit s).render.palette = s.render.palette ∧
    (takeSamples k limit s).render.trace = s.render.trace ∧ (takeSamples k limit s).render.view = s.render.view ∧
    (takeSamples k limit s).panel = s.panel ∧ (takeSamples k limit s).ports.claim = s.ports.claim ∧
    (takeSamples k limit s).ports.con.levels = s.ports.con.levels ∧
    (takeSamples k limit s).ports.conOut = s.ports.conOut ∧
    (takeSamples k limit s).ports.conReplies = s.ports.conReplies ∧
    (takeSamples k limit s).ports.conService = s.ports.conService ∧
    (takeSamples k limit s).ports.link = s.ports.link ∧ (takeSamples k limit s).ports.outFrame = s.ports.outFrame ∧
    (takeSamples k limit s).ports.remoteWake = s.ports.remoteWake ∧
    (takeSamples k limit s).ports.teth.levels = s.ports.teth.levels ∧
    (takeSamples k limit s).ports.tethOut = s.ports.tethOut ∧
    (takeSamples k limit s).ports.tethReplies = s.ports.tethReplies ∧
    (takeSamples k limit s).ports.tethService = s.ports.tethService ∧
    (takeSamples k limit s).ports.vbus = s.ports.vbus ∧ (takeSamples k limit s).power = s.power ∧
    (takeSamples k limit s).pending = s.pending := by
  unfold takeSamples <;> (try dsimp only) <;> (repeat' split) <;> simp

@[simp] theorem samplesBefore_frame (k t : Nat) (s : State) :
    (samplesBefore k t s).fe = s.fe ∧ (samplesBefore k t s).writer = s.writer ∧
    (samplesBefore k t s).seq.params = s.seq.params ∧ (samplesBefore k t s).seq.seg = s.seq.seg ∧
    (samplesBefore k t s).seq.taken = s.seq.taken ∧ (samplesBefore k t s).store.available = s.store.available ∧
    (samplesBefore k t s).store.blocks = s.store.blocks ∧ (samplesBefore k t s).store.low = s.store.low ∧
    (samplesBefore k t s).store.mem = s.store.mem ∧ (samplesBefore k t s).store.sealCounter = s.store.sealCounter ∧
    (samplesBefore k t s).mc.banks = s.mc.banks ∧ (samplesBefore k t s).mc.debt = s.mc.debt ∧
    (samplesBefore k t s).mc.init = s.mc.init ∧ (samplesBefore k t s).mc.last = s.mc.last ∧
    (samplesBefore k t s).mc.lastSlot = s.mc.lastSlot ∧ (samplesBefore k t s).mc.phase = s.mc.phase ∧
    (samplesBefore k t s).mc.st = s.mc.st ∧ (samplesBefore k t s).slots.length = s.slots.length ∧
    (samplesBefore k t s).meas = s.meas ∧ (samplesBefore k t s).render.again = s.render.again ∧
    (samplesBefore k t s).render.completed = s.render.completed ∧
    (samplesBefore k t s).render.cursorA = s.render.cursorA ∧
    (samplesBefore k t s).render.cursorB = s.render.cursorB ∧ (samplesBefore k t s).render.dirty = s.render.dirty ∧
    (samplesBefore k t s).render.divider = s.render.divider ∧ (samplesBefore k t s).render.drawnA = s.render.drawnA ∧
    (samplesBefore k t s).render.drawnB = s.render.drawnB ∧ (samplesBefore k t s).render.frame = s.render.frame ∧
    (samplesBefore k t s).render.latch = s.render.latch ∧ (samplesBefore k t s).render.layout = s.render.layout ∧
    (samplesBefore k t s).render.liveCount = s.render.liveCount ∧
    (samplesBefore k t s).render.palette = s.render.palette ∧ (samplesBefore k t s).render.trace = s.render.trace ∧
    (samplesBefore k t s).render.view = s.render.view ∧ (samplesBefore k t s).panel = s.panel ∧
    (samplesBefore k t s).ports.claim = s.ports.claim ∧ (samplesBefore k t s).ports.con.levels = s.ports.con.levels ∧
    (samplesBefore k t s).ports.conOut = s.ports.conOut ∧
    (samplesBefore k t s).ports.conReplies = s.ports.conReplies ∧
    (samplesBefore k t s).ports.conService = s.ports.conService ∧ (samplesBefore k t s).ports.link = s.ports.link ∧
    (samplesBefore k t s).ports.outFrame = s.ports.outFrame ∧
    (samplesBefore k t s).ports.remoteWake = s.ports.remoteWake ∧
    (samplesBefore k t s).ports.teth.levels = s.ports.teth.levels ∧
    (samplesBefore k t s).ports.tethOut = s.ports.tethOut ∧
    (samplesBefore k t s).ports.tethReplies = s.ports.tethReplies ∧
    (samplesBefore k t s).ports.tethService = s.ports.tethService ∧ (samplesBefore k t s).ports.vbus = s.ports.vbus ∧
    (samplesBefore k t s).power = s.power ∧ (samplesBefore k t s).pending = s.pending := by
  unfold samplesBefore <;> (try dsimp only) <;> (repeat' split) <;> simp

@[simp] theorem applyEdge_frame (k t : Nat) (st : Half) (s : State) :
    (applyEdge k t st s).fe = s.fe ∧ (applyEdge k t st s).writer = s.writer ∧
    (applyEdge k t st s).seq.params = s.seq.params ∧ (applyEdge k t st s).seq.seg = s.seq.seg ∧
    (applyEdge k t st s).seq.taken = s.seq.taken ∧ (applyEdge k t st s).store.available = s.store.available ∧
    (applyEdge k t st s).store.blocks = s.store.blocks ∧ (applyEdge k t st s).store.low = s.store.low ∧
    (applyEdge k t st s).store.mem = s.store.mem ∧ (applyEdge k t st s).store.sealCounter = s.store.sealCounter ∧
    (applyEdge k t st s).mc.banks = s.mc.banks ∧ (applyEdge k t st s).mc.debt = s.mc.debt ∧
    (applyEdge k t st s).mc.init = s.mc.init ∧ (applyEdge k t st s).mc.last = s.mc.last ∧
    (applyEdge k t st s).mc.lastSlot = s.mc.lastSlot ∧ (applyEdge k t st s).mc.phase = s.mc.phase ∧
    (applyEdge k t st s).mc.st = s.mc.st ∧ (applyEdge k t st s).slots.length = s.slots.length ∧
    (applyEdge k t st s).meas = s.meas ∧ (applyEdge k t st s).render.again = s.render.again ∧
    (applyEdge k t st s).render.completed = s.render.completed ∧
    (applyEdge k t st s).render.cursorA = s.render.cursorA ∧ (applyEdge k t st s).render.cursorB = s.render.cursorB ∧
    (applyEdge k t st s).render.dirty = s.render.dirty ∧ (applyEdge k t st s).render.divider = s.render.divider ∧
    (applyEdge k t st s).render.drawnA = s.render.drawnA ∧ (applyEdge k t st s).render.drawnB = s.render.drawnB ∧
    (applyEdge k t st s).render.frame = s.render.frame ∧ (applyEdge k t st s).render.latch = s.render.latch ∧
    (applyEdge k t st s).render.layout = s.render.layout ∧
    (applyEdge k t st s).render.liveCount = s.render.liveCount ∧
    (applyEdge k t st s).render.palette = s.render.palette ∧ (applyEdge k t st s).render.trace = s.render.trace ∧
    (applyEdge k t st s).render.view = s.render.view ∧ (applyEdge k t st s).panel = s.panel ∧
    (applyEdge k t st s).ports.claim = s.ports.claim ∧ (applyEdge k t st s).ports.con.levels = s.ports.con.levels ∧
    (applyEdge k t st s).ports.conOut = s.ports.conOut ∧ (applyEdge k t st s).ports.conReplies = s.ports.conReplies ∧
    (applyEdge k t st s).ports.conService = s.ports.conService ∧ (applyEdge k t st s).ports.link = s.ports.link ∧
    (applyEdge k t st s).ports.outFrame = s.ports.outFrame ∧
    (applyEdge k t st s).ports.remoteWake = s.ports.remoteWake ∧
    (applyEdge k t st s).ports.teth.levels = s.ports.teth.levels ∧
    (applyEdge k t st s).ports.tethOut = s.ports.tethOut ∧
    (applyEdge k t st s).ports.tethReplies = s.ports.tethReplies ∧
    (applyEdge k t st s).ports.tethService = s.ports.tethService ∧ (applyEdge k t st s).ports.vbus = s.ports.vbus ∧
    (applyEdge k t st s).power = s.power ∧ (applyEdge k t st s).pending = s.pending := by
  unfold applyEdge <;> (try dsimp only) <;> (repeat' split) <;> simp

@[simp] theorem beginAt_frame (k lo t : Nat) (s : State) :
    (beginAt k lo t s).fe = s.fe ∧ (beginAt k lo t s).comp = s.comp ∧ (beginAt k lo t s).tap = s.tap ∧
    (beginAt k lo t s).writer = s.writer ∧ (beginAt k lo t s).seq = s.seq ∧ (beginAt k lo t s).store = s.store ∧
    (beginAt k lo t s).mc = s.mc ∧ (beginAt k lo t s).slots.length = s.slots.length ∧
    (beginAt k lo t s).notes = s.notes ∧ (beginAt k lo t s).meas = s.meas ∧ (beginAt k lo t s).render = s.render ∧
    (beginAt k lo t s).panel = s.panel ∧ (beginAt k lo t s).ports = s.ports ∧ (beginAt k lo t s).power = s.power ∧
    (beginAt k lo t s).free = s.free ∧ (beginAt k lo t s).pending = s.pending := by
  unfold beginAt <;> (try dsimp only) <;> (repeat' split) <;> simp

@[simp] theorem applyOffline_frame (k lo hi t : Nat) (r : Record) (s : State) :
    (applyOffline k lo hi t r s).fe = s.fe ∧ (applyOffline k lo hi t r s).writer = s.writer ∧
    (applyOffline k lo hi t r s).seq.params = s.seq.params ∧ (applyOffline k lo hi t r s).seq.seg = s.seq.seg ∧
    (applyOffline k lo hi t r s).seq.taken = s.seq.taken ∧
    (applyOffline k lo hi t r s).store.available = s.store.available ∧
    (applyOffline k lo hi t r s).store.blocks = s.store.blocks ∧
    (applyOffline k lo hi t r s).store.low = s.store.low ∧ (applyOffline k lo hi t r s).store.mem = s.store.mem ∧
    (applyOffline k lo hi t r s).store.sealCounter = s.store.sealCounter ∧
    (applyOffline k lo hi t r s).mc.banks = s.mc.banks ∧ (applyOffline k lo hi t r s).mc.debt = s.mc.debt ∧
    (applyOffline k lo hi t r s).mc.init = s.mc.init ∧ (applyOffline k lo hi t r s).mc.last = s.mc.last ∧
    (applyOffline k lo hi t r s).mc.lastSlot = s.mc.lastSlot ∧ (applyOffline k lo hi t r s).mc.phase = s.mc.phase ∧
    (applyOffline k lo hi t r s).mc.st = s.mc.st ∧ (applyOffline k lo hi t r s).slots.length = s.slots.length ∧
    (applyOffline k lo hi t r s).meas = s.meas ∧ (applyOffline k lo hi t r s).render.again = s.render.again ∧
    (applyOffline k lo hi t r s).render.completed = s.render.completed ∧
    (applyOffline k lo hi t r s).render.cursorA = s.render.cursorA ∧
    (applyOffline k lo hi t r s).render.cursorB = s.render.cursorB ∧
    (applyOffline k lo hi t r s).render.dirty = s.render.dirty ∧
    (applyOffline k lo hi t r s).render.divider = s.render.divider ∧
    (applyOffline k lo hi t r s).render.drawnA = s.render.drawnA ∧
    (applyOffline k lo hi t r s).render.drawnB = s.render.drawnB ∧
    (applyOffline k lo hi t r s).render.frame = s.render.frame ∧
    (applyOffline k lo hi t r s).render.latch = s.render.latch ∧
    (applyOffline k lo hi t r s).render.layout = s.render.layout ∧
    (applyOffline k lo hi t r s).render.liveCount = s.render.liveCount ∧
    (applyOffline k lo hi t r s).render.palette = s.render.palette ∧
    (applyOffline k lo hi t r s).render.trace = s.render.trace ∧
    (applyOffline k lo hi t r s).render.view = s.render.view ∧ (applyOffline k lo hi t r s).panel = s.panel ∧
    (applyOffline k lo hi t r s).ports.claim = s.ports.claim ∧
    (applyOffline k lo hi t r s).ports.con.levels = s.ports.con.levels ∧
    (applyOffline k lo hi t r s).ports.conOut = s.ports.conOut ∧
    (applyOffline k lo hi t r s).ports.conReplies = s.ports.conReplies ∧
    (applyOffline k lo hi t r s).ports.conService = s.ports.conService ∧
    (applyOffline k lo hi t r s).ports.link = s.ports.link ∧
    (applyOffline k lo hi t r s).ports.outFrame = s.ports.outFrame ∧
    (applyOffline k lo hi t r s).ports.remoteWake = s.ports.remoteWake ∧
    (applyOffline k lo hi t r s).ports.teth.levels = s.ports.teth.levels ∧
    (applyOffline k lo hi t r s).ports.tethOut = s.ports.tethOut ∧
    (applyOffline k lo hi t r s).ports.tethReplies = s.ports.tethReplies ∧
    (applyOffline k lo hi t r s).ports.tethService = s.ports.tethService ∧
    (applyOffline k lo hi t r s).ports.vbus = s.ports.vbus ∧ (applyOffline k lo hi t r s).power = s.power ∧
    (applyOffline k lo hi t r s).pending = s.pending := by
  unfold applyOffline <;> (try dsimp only) <;> (repeat' split) <;> simp

@[simp] theorem knowThrough_frame (k t : Nat) (s : State) :
    (knowThrough k t s).fe = s.fe ∧ (knowThrough k t s).comp = s.comp ∧ (knowThrough k t s).tap = s.tap ∧
    (knowThrough k t s).writer = s.writer ∧ (knowThrough k t s).seq = s.seq ∧ (knowThrough k t s).store = s.store ∧
    (knowThrough k t s).mc = s.mc ∧ (knowThrough k t s).slots.length = s.slots.length ∧
    (knowThrough k t s).notes = s.notes ∧ (knowThrough k t s).meas = s.meas ∧ (knowThrough k t s).render = s.render ∧
    (knowThrough k t s).panel = s.panel ∧ (knowThrough k t s).ports = s.ports ∧ (knowThrough k t s).power = s.power ∧
    (knowThrough k t s).free = s.free ∧ (knowThrough k t s).pending = s.pending := by
  unfold knowThrough <;> (try dsimp only) <;> (repeat' split) <;> simp

@[simp] theorem offlineDone_frame (k : Nat) (s : State) :
    (offlineDone k s).fe = s.fe ∧ (offlineDone k s).comp = s.comp ∧ (offlineDone k s).tap.gapOpen = s.tap.gapOpen ∧
    (offlineDone k s).writer = s.writer ∧ (offlineDone k s).seq = s.seq ∧
    (offlineDone k s).store.available = s.store.available ∧ (offlineDone k s).store.blocks = s.store.blocks ∧
    (offlineDone k s).store.low = s.store.low ∧ (offlineDone k s).store.mem = s.store.mem ∧
    (offlineDone k s).store.sealCounter = s.store.sealCounter ∧ (offlineDone k s).mc.banks = s.mc.banks ∧
    (offlineDone k s).mc.debt = s.mc.debt ∧ (offlineDone k s).mc.init = s.mc.init ∧
    (offlineDone k s).mc.last = s.mc.last ∧ (offlineDone k s).mc.lastSlot = s.mc.lastSlot ∧
    (offlineDone k s).mc.phase = s.mc.phase ∧ (offlineDone k s).mc.st = s.mc.st ∧
    (offlineDone k s).slots.length = s.slots.length ∧ (offlineDone k s).meas = s.meas ∧
    (offlineDone k s).render.again = s.render.again ∧ (offlineDone k s).render.completed = s.render.completed ∧
    (offlineDone k s).render.cursorA = s.render.cursorA ∧ (offlineDone k s).render.cursorB = s.render.cursorB ∧
    (offlineDone k s).render.dirty = s.render.dirty ∧ (offlineDone k s).render.divider = s.render.divider ∧
    (offlineDone k s).render.drawnA = s.render.drawnA ∧ (offlineDone k s).render.drawnB = s.render.drawnB ∧
    (offlineDone k s).render.frame = s.render.frame ∧ (offlineDone k s).render.latch = s.render.latch ∧
    (offlineDone k s).render.layout = s.render.layout ∧ (offlineDone k s).render.liveCount = s.render.liveCount ∧
    (offlineDone k s).render.palette = s.render.palette ∧ (offlineDone k s).render.trace = s.render.trace ∧
    (offlineDone k s).render.view = s.render.view ∧ (offlineDone k s).panel = s.panel ∧
    (offlineDone k s).ports.claim = s.ports.claim ∧ (offlineDone k s).ports.con.levels = s.ports.con.levels ∧
    (offlineDone k s).ports.conOut = s.ports.conOut ∧ (offlineDone k s).ports.conReplies = s.ports.conReplies ∧
    (offlineDone k s).ports.conService = s.ports.conService ∧ (offlineDone k s).ports.link = s.ports.link ∧
    (offlineDone k s).ports.outFrame = s.ports.outFrame ∧ (offlineDone k s).ports.remoteWake = s.ports.remoteWake ∧
    (offlineDone k s).ports.teth.levels = s.ports.teth.levels ∧ (offlineDone k s).ports.tethOut = s.ports.tethOut ∧
    (offlineDone k s).ports.tethReplies = s.ports.tethReplies ∧
    (offlineDone k s).ports.tethService = s.ports.tethService ∧ (offlineDone k s).ports.vbus = s.ports.vbus ∧
    (offlineDone k s).power = s.power ∧ (offlineDone k s).pending = s.pending := by
  unfold offlineDone <;> (try dsimp only) <;> (repeat' split) <;> simp

@[simp] theorem offlineRecord_frame (k lo hi : Nat) (r : Record) (s : State) :
    (offlineRecord k lo hi r s).fe = s.fe ∧ (offlineRecord k lo hi r s).writer = s.writer ∧
    (offlineRecord k lo hi r s).seq.params = s.seq.params ∧ (offlineRecord k lo hi r s).seq.seg = s.seq.seg ∧
    (offlineRecord k lo hi r s).seq.taken = s.seq.taken ∧
    (offlineRecord k lo hi r s).store.available = s.store.available ∧
    (offlineRecord k lo hi r s).store.blocks = s.store.blocks ∧ (offlineRecord k lo hi r s).store.low = s.store.low ∧
    (offlineRecord k lo hi r s).store.mem = s.store.mem ∧
    (offlineRecord k lo hi r s).store.sealCounter = s.store.sealCounter ∧
    (offlineRecord k lo hi r s).mc.banks = s.mc.banks ∧ (offlineRecord k lo hi r s).mc.debt = s.mc.debt ∧
    (offlineRecord k lo hi r s).mc.init = s.mc.init ∧ (offlineRecord k lo hi r s).mc.last = s.mc.last ∧
    (offlineRecord k lo hi r s).mc.lastSlot = s.mc.lastSlot ∧ (offlineRecord k lo hi r s).mc.phase = s.mc.phase ∧
    (offlineRecord k lo hi r s).mc.st = s.mc.st ∧ (offlineRecord k lo hi r s).slots.length = s.slots.length ∧
    (offlineRecord k lo hi r s).meas = s.meas ∧ (offlineRecord k lo hi r s).render.again = s.render.again ∧
    (offlineRecord k lo hi r s).render.completed = s.render.completed ∧
    (offlineRecord k lo hi r s).render.cursorA = s.render.cursorA ∧
    (offlineRecord k lo hi r s).render.cursorB = s.render.cursorB ∧
    (offlineRecord k lo hi r s).render.dirty = s.render.dirty ∧
    (offlineRecord k lo hi r s).render.divider = s.render.divider ∧
    (offlineRecord k lo hi r s).render.drawnA = s.render.drawnA ∧
    (offlineRecord k lo hi r s).render.drawnB = s.render.drawnB ∧
    (offlineRecord k lo hi r s).render.frame = s.render.frame ∧
    (offlineRecord k lo hi r s).render.latch = s.render.latch ∧
    (offlineRecord k lo hi r s).render.layout = s.render.layout ∧
    (offlineRecord k lo hi r s).render.liveCount = s.render.liveCount ∧
    (offlineRecord k lo hi r s).render.palette = s.render.palette ∧
    (offlineRecord k lo hi r s).render.trace = s.render.trace ∧
    (offlineRecord k lo hi r s).render.view = s.render.view ∧ (offlineRecord k lo hi r s).panel = s.panel ∧
    (offlineRecord k lo hi r s).ports.claim = s.ports.claim ∧
    (offlineRecord k lo hi r s).ports.con.levels = s.ports.con.levels ∧
    (offlineRecord k lo hi r s).ports.conOut = s.ports.conOut ∧
    (offlineRecord k lo hi r s).ports.conReplies = s.ports.conReplies ∧
    (offlineRecord k lo hi r s).ports.conService = s.ports.conService ∧
    (offlineRecord k lo hi r s).ports.link = s.ports.link ∧
    (offlineRecord k lo hi r s).ports.outFrame = s.ports.outFrame ∧
    (offlineRecord k lo hi r s).ports.remoteWake = s.ports.remoteWake ∧
    (offlineRecord k lo hi r s).ports.teth.levels = s.ports.teth.levels ∧
    (offlineRecord k lo hi r s).ports.tethOut = s.ports.tethOut ∧
    (offlineRecord k lo hi r s).ports.tethReplies = s.ports.tethReplies ∧
    (offlineRecord k lo hi r s).ports.tethService = s.ports.tethService ∧
    (offlineRecord k lo hi r s).ports.vbus = s.ports.vbus ∧ (offlineRecord k lo hi r s).power = s.power ∧
    (offlineRecord k lo hi r s).pending = s.pending := by
  unfold offlineRecord <;> (try dsimp only) <;> (repeat' split) <;> simp

@[simp] theorem offlineRecords_frame (k lo hi : Nat) (l : List Record) (s : State) :
    (offlineRecords k lo hi l s).fe = s.fe ∧ (offlineRecords k lo hi l s).writer = s.writer ∧
    (offlineRecords k lo hi l s).seq.params = s.seq.params ∧ (offlineRecords k lo hi l s).seq.seg = s.seq.seg ∧
    (offlineRecords k lo hi l s).seq.taken = s.seq.taken ∧
    (offlineRecords k lo hi l s).store.available = s.store.available ∧
    (offlineRecords k lo hi l s).store.blocks = s.store.blocks ∧
    (offlineRecords k lo hi l s).store.low = s.store.low ∧ (offlineRecords k lo hi l s).store.mem = s.store.mem ∧
    (offlineRecords k lo hi l s).store.sealCounter = s.store.sealCounter ∧
    (offlineRecords k lo hi l s).mc.banks = s.mc.banks ∧ (offlineRecords k lo hi l s).mc.debt = s.mc.debt ∧
    (offlineRecords k lo hi l s).mc.init = s.mc.init ∧ (offlineRecords k lo hi l s).mc.last = s.mc.last ∧
    (offlineRecords k lo hi l s).mc.lastSlot = s.mc.lastSlot ∧ (offlineRecords k lo hi l s).mc.phase = s.mc.phase ∧
    (offlineRecords k lo hi l s).mc.st = s.mc.st ∧ (offlineRecords k lo hi l s).slots.length = s.slots.length ∧
    (offlineRecords k lo hi l s).meas = s.meas ∧ (offlineRecords k lo hi l s).render.again = s.render.again ∧
    (offlineRecords k lo hi l s).render.completed = s.render.completed ∧
    (offlineRecords k lo hi l s).render.cursorA = s.render.cursorA ∧
    (offlineRecords k lo hi l s).render.cursorB = s.render.cursorB ∧
    (offlineRecords k lo hi l s).render.dirty = s.render.dirty ∧
    (offlineRecords k lo hi l s).render.divider = s.render.divider ∧
    (offlineRecords k lo hi l s).render.drawnA = s.render.drawnA ∧
    (offlineRecords k lo hi l s).render.drawnB = s.render.drawnB ∧
    (offlineRecords k lo hi l s).render.frame = s.render.frame ∧
    (offlineRecords k lo hi l s).render.latch = s.render.latch ∧
    (offlineRecords k lo hi l s).render.layout = s.render.layout ∧
    (offlineRecords k lo hi l s).render.liveCount = s.render.liveCount ∧
    (offlineRecords k lo hi l s).render.palette = s.render.palette ∧
    (offlineRecords k lo hi l s).render.trace = s.render.trace ∧
    (offlineRecords k lo hi l s).render.view = s.render.view ∧ (offlineRecords k lo hi l s).panel = s.panel ∧
    (offlineRecords k lo hi l s).ports.claim = s.ports.claim ∧
    (offlineRecords k lo hi l s).ports.con.levels = s.ports.con.levels ∧
    (offlineRecords k lo hi l s).ports.conOut = s.ports.conOut ∧
    (offlineRecords k lo hi l s).ports.conReplies = s.ports.conReplies ∧
    (offlineRecords k lo hi l s).ports.conService = s.ports.conService ∧
    (offlineRecords k lo hi l s).ports.link = s.ports.link ∧
    (offlineRecords k lo hi l s).ports.outFrame = s.ports.outFrame ∧
    (offlineRecords k lo hi l s).ports.remoteWake = s.ports.remoteWake ∧
    (offlineRecords k lo hi l s).ports.teth.levels = s.ports.teth.levels ∧
    (offlineRecords k lo hi l s).ports.tethOut = s.ports.tethOut ∧
    (offlineRecords k lo hi l s).ports.tethReplies = s.ports.tethReplies ∧
    (offlineRecords k lo hi l s).ports.tethService = s.ports.tethService ∧
    (offlineRecords k lo hi l s).ports.vbus = s.ports.vbus ∧ (offlineRecords k lo hi l s).power = s.power ∧
    (offlineRecords k lo hi l s).pending = s.pending := by
  induction l generalizing s with
  | nil => simp [offlineRecords]
  | cons _ _ ih => simp [offlineRecords, ih]

@[simp] theorem liveGap_frame (k t : Nat) (s : State) :
    (liveGap k t s).fe = s.fe ∧ (liveGap k t s).writer = s.writer ∧ (liveGap k t s).seq.params = s.seq.params ∧
    (liveGap k t s).seq.seg = s.seq.seg ∧ (liveGap k t s).seq.taken = s.seq.taken ∧
    (liveGap k t s).store.available = s.store.available ∧ (liveGap k t s).store.blocks = s.store.blocks ∧
    (liveGap k t s).store.low = s.store.low ∧ (liveGap k t s).store.mem = s.store.mem ∧
    (liveGap k t s).store.sealCounter = s.store.sealCounter ∧ (liveGap k t s).mc.banks = s.mc.banks ∧
    (liveGap k t s).mc.debt = s.mc.debt ∧ (liveGap k t s).mc.init = s.mc.init ∧ (liveGap k t s).mc.last = s.mc.last ∧
    (liveGap k t s).mc.lastSlot = s.mc.lastSlot ∧ (liveGap k t s).mc.phase = s.mc.phase ∧
    (liveGap k t s).mc.st = s.mc.st ∧ (liveGap k t s).slots.length = s.slots.length ∧ (liveGap k t s).meas = s.meas ∧
    (liveGap k t s).render.again = s.render.again ∧ (liveGap k t s).render.completed = s.render.completed ∧
    (liveGap k t s).render.cursorA = s.render.cursorA ∧ (liveGap k t s).render.cursorB = s.render.cursorB ∧
    (liveGap k t s).render.dirty = s.render.dirty ∧ (liveGap k t s).render.divider = s.render.divider ∧
    (liveGap k t s).render.drawnA = s.render.drawnA ∧ (liveGap k t s).render.drawnB = s.render.drawnB ∧
    (liveGap k t s).render.frame = s.render.frame ∧ (liveGap k t s).render.latch = s.render.latch ∧
    (liveGap k t s).render.layout = s.render.layout ∧ (liveGap k t s).render.liveCount = s.render.liveCount ∧
    (liveGap k t s).render.palette = s.render.palette ∧ (liveGap k t s).render.trace = s.render.trace ∧
    (liveGap k t s).render.view = s.render.view ∧ (liveGap k t s).panel = s.panel ∧
    (liveGap k t s).ports.claim = s.ports.claim ∧ (liveGap k t s).ports.con.levels = s.ports.con.levels ∧
    (liveGap k t s).ports.conOut = s.ports.conOut ∧ (liveGap k t s).ports.conReplies = s.ports.conReplies ∧
    (liveGap k t s).ports.conService = s.ports.conService ∧ (liveGap k t s).ports.link = s.ports.link ∧
    (liveGap k t s).ports.outFrame = s.ports.outFrame ∧ (liveGap k t s).ports.remoteWake = s.ports.remoteWake ∧
    (liveGap k t s).ports.teth.levels = s.ports.teth.levels ∧ (liveGap k t s).ports.tethOut = s.ports.tethOut ∧
    (liveGap k t s).ports.tethReplies = s.ports.tethReplies ∧
    (liveGap k t s).ports.tethService = s.ports.tethService ∧ (liveGap k t s).ports.vbus = s.ports.vbus ∧
    (liveGap k t s).power = s.power ∧ (liveGap k t s).pending = s.pending := by
  unfold liveGap <;> (try dsimp only) <;> (repeat' split) <;> simp

@[simp] theorem samplesThroughLast_frame (k : Nat) (s : State) :
    (samplesThroughLast k s).fe = s.fe ∧ (samplesThroughLast k s).writer = s.writer ∧
    (samplesThroughLast k s).seq.params = s.seq.params ∧ (samplesThroughLast k s).seq.seg = s.seq.seg ∧
    (samplesThroughLast k s).seq.taken = s.seq.taken ∧ (samplesThroughLast k s).store.available = s.store.available ∧
    (samplesThroughLast k s).store.blocks = s.store.blocks ∧ (samplesThroughLast k s).store.low = s.store.low ∧
    (samplesThroughLast k s).store.mem = s.store.mem ∧
    (samplesThroughLast k s).store.sealCounter = s.store.sealCounter ∧
    (samplesThroughLast k s).mc.banks = s.mc.banks ∧ (samplesThroughLast k s).mc.debt = s.mc.debt ∧
    (samplesThroughLast k s).mc.init = s.mc.init ∧ (samplesThroughLast k s).mc.last = s.mc.last ∧
    (samplesThroughLast k s).mc.lastSlot = s.mc.lastSlot ∧ (samplesThroughLast k s).mc.phase = s.mc.phase ∧
    (samplesThroughLast k s).mc.st = s.mc.st ∧ (samplesThroughLast k s).slots.length = s.slots.length ∧
    (samplesThroughLast k s).meas = s.meas ∧ (samplesThroughLast k s).render.again = s.render.again ∧
    (samplesThroughLast k s).render.completed = s.render.completed ∧
    (samplesThroughLast k s).render.cursorA = s.render.cursorA ∧
    (samplesThroughLast k s).render.cursorB = s.render.cursorB ∧
    (samplesThroughLast k s).render.dirty = s.render.dirty ∧
    (samplesThroughLast k s).render.divider = s.render.divider ∧
    (samplesThroughLast k s).render.drawnA = s.render.drawnA ∧
    (samplesThroughLast k s).render.drawnB = s.render.drawnB ∧
    (samplesThroughLast k s).render.frame = s.render.frame ∧ (samplesThroughLast k s).render.latch = s.render.latch ∧
    (samplesThroughLast k s).render.layout = s.render.layout ∧
    (samplesThroughLast k s).render.liveCount = s.render.liveCount ∧
    (samplesThroughLast k s).render.palette = s.render.palette ∧
    (samplesThroughLast k s).render.trace = s.render.trace ∧ (samplesThroughLast k s).render.view = s.render.view ∧
    (samplesThroughLast k s).panel = s.panel ∧ (samplesThroughLast k s).ports.claim = s.ports.claim ∧
    (samplesThroughLast k s).ports.con.levels = s.ports.con.levels ∧
    (samplesThroughLast k s).ports.conOut = s.ports.conOut ∧
    (samplesThroughLast k s).ports.conReplies = s.ports.conReplies ∧
    (samplesThroughLast k s).ports.conService = s.ports.conService ∧
    (samplesThroughLast k s).ports.link = s.ports.link ∧ (samplesThroughLast k s).ports.outFrame = s.ports.outFrame ∧
    (samplesThroughLast k s).ports.remoteWake = s.ports.remoteWake ∧
    (samplesThroughLast k s).ports.teth.levels = s.ports.teth.levels ∧
    (samplesThroughLast k s).ports.tethOut = s.ports.tethOut ∧
    (samplesThroughLast k s).ports.tethReplies = s.ports.tethReplies ∧
    (samplesThroughLast k s).ports.tethService = s.ports.tethService ∧
    (samplesThroughLast k s).ports.vbus = s.ports.vbus ∧ (samplesThroughLast k s).power = s.power ∧
    (samplesThroughLast k s).pending = s.pending := by
  unfold samplesThroughLast <;> (try dsimp only) <;> (repeat' split) <;> simp

@[simp] theorem liveBase_frame (k : Nat) (e : TapEntry) (st : Half) (s : State) :
    (liveBase k e st s).fe = s.fe ∧ (liveBase k e st s).writer = s.writer ∧
    (liveBase k e st s).seq.params = s.seq.params ∧ (liveBase k e st s).seq.seg = s.seq.seg ∧
    (liveBase k e st s).seq.taken = s.seq.taken ∧ (liveBase k e st s).store.available = s.store.available ∧
    (liveBase k e st s).store.blocks = s.store.blocks ∧ (liveBase k e st s).store.low = s.store.low ∧
    (liveBase k e st s).store.mem = s.store.mem ∧ (liveBase k e st s).store.sealCounter = s.store.sealCounter ∧
    (liveBase k e st s).mc.banks = s.mc.banks ∧ (liveBase k e st s).mc.debt = s.mc.debt ∧
    (liveBase k e st s).mc.init = s.mc.init ∧ (liveBase k e st s).mc.last = s.mc.last ∧
    (liveBase k e st s).mc.lastSlot = s.mc.lastSlot ∧ (liveBase k e st s).mc.phase = s.mc.phase ∧
    (liveBase k e st s).mc.st = s.mc.st ∧ (liveBase k e st s).slots.length = s.slots.length ∧
    (liveBase k e st s).meas = s.meas ∧ (liveBase k e st s).render.again = s.render.again ∧
    (liveBase k e st s).render.completed = s.render.completed ∧
    (liveBase k e st s).render.cursorA = s.render.cursorA ∧ (liveBase k e st s).render.cursorB = s.render.cursorB ∧
    (liveBase k e st s).render.dirty = s.render.dirty ∧ (liveBase k e st s).render.divider = s.render.divider ∧
    (liveBase k e st s).render.drawnA = s.render.drawnA ∧ (liveBase k e st s).render.drawnB = s.render.drawnB ∧
    (liveBase k e st s).render.frame = s.render.frame ∧ (liveBase k e st s).render.latch = s.render.latch ∧
    (liveBase k e st s).render.layout = s.render.layout ∧ (liveBase k e st s).render.liveCount = s.render.liveCount ∧
    (liveBase k e st s).render.palette = s.render.palette ∧ (liveBase k e st s).render.trace = s.render.trace ∧
    (liveBase k e st s).render.view = s.render.view ∧ (liveBase k e st s).panel = s.panel ∧
    (liveBase k e st s).ports.claim = s.ports.claim ∧ (liveBase k e st s).ports.con.levels = s.ports.con.levels ∧
    (liveBase k e st s).ports.conOut = s.ports.conOut ∧ (liveBase k e st s).ports.conReplies = s.ports.conReplies ∧
    (liveBase k e st s).ports.conService = s.ports.conService ∧ (liveBase k e st s).ports.link = s.ports.link ∧
    (liveBase k e st s).ports.outFrame = s.ports.outFrame ∧
    (liveBase k e st s).ports.remoteWake = s.ports.remoteWake ∧
    (liveBase k e st s).ports.teth.levels = s.ports.teth.levels ∧
    (liveBase k e st s).ports.tethOut = s.ports.tethOut ∧
    (liveBase k e st s).ports.tethReplies = s.ports.tethReplies ∧
    (liveBase k e st s).ports.tethService = s.ports.tethService ∧ (liveBase k e st s).ports.vbus = s.ports.vbus ∧
    (liveBase k e st s).power = s.power ∧ (liveBase k e st s).pending = s.pending := by
  unfold liveBase <;> (try dsimp only) <;> (repeat' split) <;> simp

@[simp] theorem liveEnd_frame (k : Nat) (e : TapEntry) (s : State) :
    (liveEnd k e s).fe = s.fe ∧ (liveEnd k e s).writer = s.writer ∧ (liveEnd k e s).seq.params = s.seq.params ∧
    (liveEnd k e s).seq.seg = s.seq.seg ∧ (liveEnd k e s).seq.taken = s.seq.taken ∧
    (liveEnd k e s).store.available = s.store.available ∧ (liveEnd k e s).store.blocks = s.store.blocks ∧
    (liveEnd k e s).store.low = s.store.low ∧ (liveEnd k e s).store.mem = s.store.mem ∧
    (liveEnd k e s).store.sealCounter = s.store.sealCounter ∧ (liveEnd k e s).mc.banks = s.mc.banks ∧
    (liveEnd k e s).mc.debt = s.mc.debt ∧ (liveEnd k e s).mc.init = s.mc.init ∧ (liveEnd k e s).mc.last = s.mc.last ∧
    (liveEnd k e s).mc.lastSlot = s.mc.lastSlot ∧ (liveEnd k e s).mc.phase = s.mc.phase ∧
    (liveEnd k e s).mc.st = s.mc.st ∧ (liveEnd k e s).slots.length = s.slots.length ∧ (liveEnd k e s).meas = s.meas ∧
    (liveEnd k e s).render.again = s.render.again ∧ (liveEnd k e s).render.completed = s.render.completed ∧
    (liveEnd k e s).render.cursorA = s.render.cursorA ∧ (liveEnd k e s).render.cursorB = s.render.cursorB ∧
    (liveEnd k e s).render.dirty = s.render.dirty ∧ (liveEnd k e s).render.divider = s.render.divider ∧
    (liveEnd k e s).render.drawnA = s.render.drawnA ∧ (liveEnd k e s).render.drawnB = s.render.drawnB ∧
    (liveEnd k e s).render.frame = s.render.frame ∧ (liveEnd k e s).render.latch = s.render.latch ∧
    (liveEnd k e s).render.layout = s.render.layout ∧ (liveEnd k e s).render.liveCount = s.render.liveCount ∧
    (liveEnd k e s).render.palette = s.render.palette ∧ (liveEnd k e s).render.trace = s.render.trace ∧
    (liveEnd k e s).render.view = s.render.view ∧ (liveEnd k e s).panel = s.panel ∧
    (liveEnd k e s).ports.claim = s.ports.claim ∧ (liveEnd k e s).ports.con.levels = s.ports.con.levels ∧
    (liveEnd k e s).ports.conOut = s.ports.conOut ∧ (liveEnd k e s).ports.conReplies = s.ports.conReplies ∧
    (liveEnd k e s).ports.conService = s.ports.conService ∧ (liveEnd k e s).ports.link = s.ports.link ∧
    (liveEnd k e s).ports.outFrame = s.ports.outFrame ∧ (liveEnd k e s).ports.remoteWake = s.ports.remoteWake ∧
    (liveEnd k e s).ports.teth.levels = s.ports.teth.levels ∧ (liveEnd k e s).ports.tethOut = s.ports.tethOut ∧
    (liveEnd k e s).ports.tethReplies = s.ports.tethReplies ∧
    (liveEnd k e s).ports.tethService = s.ports.tethService ∧ (liveEnd k e s).ports.vbus = s.ports.vbus ∧
    (liveEnd k e s).power = s.power ∧ (liveEnd k e s).pending = s.pending := by
  unfold liveEnd <;> (try dsimp only) <;> (repeat' split) <;> simp

@[simp] theorem liveEntry_frame (k : Nat) (e : TapEntry) (s : State) :
    (liveEntry k e s).fe = s.fe ∧ (liveEntry k e s).writer = s.writer ∧ (liveEntry k e s).seq.params = s.seq.params ∧
    (liveEntry k e s).seq.seg = s.seq.seg ∧ (liveEntry k e s).seq.taken = s.seq.taken ∧
    (liveEntry k e s).store.available = s.store.available ∧ (liveEntry k e s).store.blocks = s.store.blocks ∧
    (liveEntry k e s).store.low = s.store.low ∧ (liveEntry k e s).store.mem = s.store.mem ∧
    (liveEntry k e s).store.sealCounter = s.store.sealCounter ∧ (liveEntry k e s).mc.banks = s.mc.banks ∧
    (liveEntry k e s).mc.debt = s.mc.debt ∧ (liveEntry k e s).mc.init = s.mc.init ∧
    (liveEntry k e s).mc.last = s.mc.last ∧ (liveEntry k e s).mc.lastSlot = s.mc.lastSlot ∧
    (liveEntry k e s).mc.phase = s.mc.phase ∧ (liveEntry k e s).mc.st = s.mc.st ∧
    (liveEntry k e s).slots.length = s.slots.length ∧ (liveEntry k e s).meas = s.meas ∧
    (liveEntry k e s).render.again = s.render.again ∧ (liveEntry k e s).render.completed = s.render.completed ∧
    (liveEntry k e s).render.cursorA = s.render.cursorA ∧ (liveEntry k e s).render.cursorB = s.render.cursorB ∧
    (liveEntry k e s).render.dirty = s.render.dirty ∧ (liveEntry k e s).render.divider = s.render.divider ∧
    (liveEntry k e s).render.drawnA = s.render.drawnA ∧ (liveEntry k e s).render.drawnB = s.render.drawnB ∧
    (liveEntry k e s).render.frame = s.render.frame ∧ (liveEntry k e s).render.latch = s.render.latch ∧
    (liveEntry k e s).render.layout = s.render.layout ∧ (liveEntry k e s).render.liveCount = s.render.liveCount ∧
    (liveEntry k e s).render.palette = s.render.palette ∧ (liveEntry k e s).render.trace = s.render.trace ∧
    (liveEntry k e s).render.view = s.render.view ∧ (liveEntry k e s).panel = s.panel ∧
    (liveEntry k e s).ports.claim = s.ports.claim ∧ (liveEntry k e s).ports.con.levels = s.ports.con.levels ∧
    (liveEntry k e s).ports.conOut = s.ports.conOut ∧ (liveEntry k e s).ports.conReplies = s.ports.conReplies ∧
    (liveEntry k e s).ports.conService = s.ports.conService ∧ (liveEntry k e s).ports.link = s.ports.link ∧
    (liveEntry k e s).ports.outFrame = s.ports.outFrame ∧ (liveEntry k e s).ports.remoteWake = s.ports.remoteWake ∧
    (liveEntry k e s).ports.teth.levels = s.ports.teth.levels ∧ (liveEntry k e s).ports.tethOut = s.ports.tethOut ∧
    (liveEntry k e s).ports.tethReplies = s.ports.tethReplies ∧
    (liveEntry k e s).ports.tethService = s.ports.tethService ∧ (liveEntry k e s).ports.vbus = s.ports.vbus ∧
    (liveEntry k e s).power = s.power ∧ (liveEntry k e s).pending = s.pending := by
  unfold liveEntry <;> (try dsimp only) <;> (repeat' split) <;> simp

@[simp] theorem liveSync_frame (k : Nat) (s : State) :
    (liveSync k s).fe = s.fe ∧ (liveSync k s).writer = s.writer ∧ (liveSync k s).seq.params = s.seq.params ∧
    (liveSync k s).seq.seg = s.seq.seg ∧ (liveSync k s).seq.taken = s.seq.taken ∧
    (liveSync k s).store.available = s.store.available ∧ (liveSync k s).store.blocks = s.store.blocks ∧
    (liveSync k s).store.low = s.store.low ∧ (liveSync k s).store.mem = s.store.mem ∧
    (liveSync k s).store.sealCounter = s.store.sealCounter ∧ (liveSync k s).mc.banks = s.mc.banks ∧
    (liveSync k s).mc.debt = s.mc.debt ∧ (liveSync k s).mc.init = s.mc.init ∧ (liveSync k s).mc.last = s.mc.last ∧
    (liveSync k s).mc.lastSlot = s.mc.lastSlot ∧ (liveSync k s).mc.phase = s.mc.phase ∧
    (liveSync k s).mc.st = s.mc.st ∧ (liveSync k s).slots.length = s.slots.length ∧ (liveSync k s).meas = s.meas ∧
    (liveSync k s).render.again = s.render.again ∧ (liveSync k s).render.completed = s.render.completed ∧
    (liveSync k s).render.cursorA = s.render.cursorA ∧ (liveSync k s).render.cursorB = s.render.cursorB ∧
    (liveSync k s).render.dirty = s.render.dirty ∧ (liveSync k s).render.divider = s.render.divider ∧
    (liveSync k s).render.drawnA = s.render.drawnA ∧ (liveSync k s).render.drawnB = s.render.drawnB ∧
    (liveSync k s).render.frame = s.render.frame ∧ (liveSync k s).render.latch = s.render.latch ∧
    (liveSync k s).render.layout = s.render.layout ∧ (liveSync k s).render.liveCount = s.render.liveCount ∧
    (liveSync k s).render.palette = s.render.palette ∧ (liveSync k s).render.trace = s.render.trace ∧
    (liveSync k s).render.view = s.render.view ∧ (liveSync k s).panel = s.panel ∧
    (liveSync k s).ports.claim = s.ports.claim ∧ (liveSync k s).ports.con.levels = s.ports.con.levels ∧
    (liveSync k s).ports.conOut = s.ports.conOut ∧ (liveSync k s).ports.conReplies = s.ports.conReplies ∧
    (liveSync k s).ports.conService = s.ports.conService ∧ (liveSync k s).ports.link = s.ports.link ∧
    (liveSync k s).ports.outFrame = s.ports.outFrame ∧ (liveSync k s).ports.remoteWake = s.ports.remoteWake ∧
    (liveSync k s).ports.teth.levels = s.ports.teth.levels ∧ (liveSync k s).ports.tethOut = s.ports.tethOut ∧
    (liveSync k s).ports.tethReplies = s.ports.tethReplies ∧ (liveSync k s).ports.tethService = s.ports.tethService ∧
    (liveSync k s).ports.vbus = s.ports.vbus ∧ (liveSync k s).power = s.power ∧
    (liveSync k s).pending = s.pending := by
  unfold liveSync <;> (try dsimp only) <;> (repeat' split) <;> simp

@[simp] theorem consumeEntry_frame (k : Nat) (s : State) :
    (consumeEntry k s).fe = s.fe ∧ (consumeEntry k s).writer = s.writer ∧
    (consumeEntry k s).seq.params = s.seq.params ∧ (consumeEntry k s).seq.seg = s.seq.seg ∧
    (consumeEntry k s).seq.taken = s.seq.taken ∧ (consumeEntry k s).store.available = s.store.available ∧
    (consumeEntry k s).store.blocks = s.store.blocks ∧ (consumeEntry k s).store.low = s.store.low ∧
    (consumeEntry k s).store.mem = s.store.mem ∧ (consumeEntry k s).store.sealCounter = s.store.sealCounter ∧
    (consumeEntry k s).mc.banks = s.mc.banks ∧ (consumeEntry k s).mc.debt = s.mc.debt ∧
    (consumeEntry k s).mc.init = s.mc.init ∧ (consumeEntry k s).mc.last = s.mc.last ∧
    (consumeEntry k s).mc.lastSlot = s.mc.lastSlot ∧ (consumeEntry k s).mc.phase = s.mc.phase ∧
    (consumeEntry k s).mc.st = s.mc.st ∧ (consumeEntry k s).slots.length = s.slots.length ∧
    (consumeEntry k s).meas = s.meas ∧ (consumeEntry k s).render.again = s.render.again ∧
    (consumeEntry k s).render.completed = s.render.completed ∧ (consumeEntry k s).render.cursorA = s.render.cursorA ∧
    (consumeEntry k s).render.cursorB = s.render.cursorB ∧ (consumeEntry k s).render.dirty = s.render.dirty ∧
    (consumeEntry k s).render.divider = s.render.divider ∧ (consumeEntry k s).render.drawnA = s.render.drawnA ∧
    (consumeEntry k s).render.drawnB = s.render.drawnB ∧ (consumeEntry k s).render.frame = s.render.frame ∧
    (consumeEntry k s).render.latch = s.render.latch ∧ (consumeEntry k s).render.layout = s.render.layout ∧
    (consumeEntry k s).render.liveCount = s.render.liveCount ∧ (consumeEntry k s).render.palette = s.render.palette ∧
    (consumeEntry k s).render.trace = s.render.trace ∧ (consumeEntry k s).render.view = s.render.view ∧
    (consumeEntry k s).panel = s.panel ∧ (consumeEntry k s).ports.claim = s.ports.claim ∧
    (consumeEntry k s).ports.con.levels = s.ports.con.levels ∧ (consumeEntry k s).ports.conOut = s.ports.conOut ∧
    (consumeEntry k s).ports.conReplies = s.ports.conReplies ∧
    (consumeEntry k s).ports.conService = s.ports.conService ∧ (consumeEntry k s).ports.link = s.ports.link ∧
    (consumeEntry k s).ports.outFrame = s.ports.outFrame ∧ (consumeEntry k s).ports.remoteWake = s.ports.remoteWake ∧
    (consumeEntry k s).ports.teth.levels = s.ports.teth.levels ∧ (consumeEntry k s).ports.tethOut = s.ports.tethOut ∧
    (consumeEntry k s).ports.tethReplies = s.ports.tethReplies ∧
    (consumeEntry k s).ports.tethService = s.ports.tethService ∧ (consumeEntry k s).ports.vbus = s.ports.vbus ∧
    (consumeEntry k s).power = s.power ∧ (consumeEntry k s).pending = s.pending := by
  unfold consumeEntry <;> (try dsimp only) <;> (repeat' split) <;> simp

/-! ## Measuring -/

@[simp] theorem completeMeasure_frame (s : State) :
    (completeMeasure s).fe = s.fe ∧ (completeMeasure s).comp = s.comp ∧
    (completeMeasure s).tap.gapOpen = s.tap.gapOpen ∧ (completeMeasure s).writer = s.writer ∧
    (completeMeasure s).seq = s.seq ∧ (completeMeasure s).store.available = s.store.available ∧
    (completeMeasure s).store.blocks = s.store.blocks ∧ (completeMeasure s).store.low = s.store.low ∧
    (completeMeasure s).store.mem = s.store.mem ∧ (completeMeasure s).store.sealCounter = s.store.sealCounter ∧
    (completeMeasure s).mc = s.mc ∧ (completeMeasure s).slots.length = s.slots.length ∧
    (completeMeasure s).render.again = s.render.again ∧ (completeMeasure s).render.completed = s.render.completed ∧
    (completeMeasure s).render.cursorA = s.render.cursorA ∧ (completeMeasure s).render.cursorB = s.render.cursorB ∧
    (completeMeasure s).render.dirty = s.render.dirty ∧ (completeMeasure s).render.divider = s.render.divider ∧
    (completeMeasure s).render.drawnA = s.render.drawnA ∧ (completeMeasure s).render.drawnB = s.render.drawnB ∧
    (completeMeasure s).render.frame = s.render.frame ∧ (completeMeasure s).render.latch = s.render.latch ∧
    (completeMeasure s).render.layout = s.render.layout ∧ (completeMeasure s).render.liveCount = s.render.liveCount ∧
    (completeMeasure s).render.palette = s.render.palette ∧ (completeMeasure s).render.trace = s.render.trace ∧
    (completeMeasure s).render.view = s.render.view ∧ (completeMeasure s).panel = s.panel ∧
    (completeMeasure s).ports.claim = s.ports.claim ∧ (completeMeasure s).ports.con.levels = s.ports.con.levels ∧
    (completeMeasure s).ports.conOut = s.ports.conOut ∧ (completeMeasure s).ports.conReplies = s.ports.conReplies ∧
    (completeMeasure s).ports.conService = s.ports.conService ∧ (completeMeasure s).ports.link = s.ports.link ∧
    (completeMeasure s).ports.outFrame = s.ports.outFrame ∧
    (completeMeasure s).ports.remoteWake = s.ports.remoteWake ∧
    (completeMeasure s).ports.teth.levels = s.ports.teth.levels ∧
    (completeMeasure s).ports.tethOut = s.ports.tethOut ∧
    (completeMeasure s).ports.tethReplies = s.ports.tethReplies ∧
    (completeMeasure s).ports.tethService = s.ports.tethService ∧ (completeMeasure s).ports.vbus = s.ports.vbus ∧
    (completeMeasure s).power = s.power ∧ (completeMeasure s).pending = s.pending := by
  simp [completeMeasure]

@[simp] theorem finishMeasure_frame (s : State) :
    (finishMeasure s).fe = s.fe ∧ (finishMeasure s).comp = s.comp ∧
    (finishMeasure s).tap.gapOpen = s.tap.gapOpen ∧ (finishMeasure s).writer = s.writer ∧
    (finishMeasure s).seq = s.seq ∧ (finishMeasure s).store.available = s.store.available ∧
    (finishMeasure s).store.blocks = s.store.blocks ∧ (finishMeasure s).store.low = s.store.low ∧
    (finishMeasure s).store.mem = s.store.mem ∧ (finishMeasure s).store.sealCounter = s.store.sealCounter ∧
    (finishMeasure s).mc = s.mc ∧ (finishMeasure s).slots.length = s.slots.length ∧
    (finishMeasure s).render.again = s.render.again ∧ (finishMeasure s).render.completed = s.render.completed ∧
    (finishMeasure s).render.cursorA = s.render.cursorA ∧ (finishMeasure s).render.cursorB = s.render.cursorB ∧
    (finishMeasure s).render.dirty = s.render.dirty ∧ (finishMeasure s).render.divider = s.render.divider ∧
    (finishMeasure s).render.drawnA = s.render.drawnA ∧ (finishMeasure s).render.drawnB = s.render.drawnB ∧
    (finishMeasure s).render.frame = s.render.frame ∧ (finishMeasure s).render.latch = s.render.latch ∧
    (finishMeasure s).render.layout = s.render.layout ∧ (finishMeasure s).render.liveCount = s.render.liveCount ∧
    (finishMeasure s).render.palette = s.render.palette ∧ (finishMeasure s).render.trace = s.render.trace ∧
    (finishMeasure s).render.view = s.render.view ∧ (finishMeasure s).panel = s.panel ∧
    (finishMeasure s).ports.claim = s.ports.claim ∧ (finishMeasure s).ports.con.levels = s.ports.con.levels ∧
    (finishMeasure s).ports.conOut = s.ports.conOut ∧ (finishMeasure s).ports.conReplies = s.ports.conReplies ∧
    (finishMeasure s).ports.conService = s.ports.conService ∧ (finishMeasure s).ports.link = s.ports.link ∧
    (finishMeasure s).ports.outFrame = s.ports.outFrame ∧
    (finishMeasure s).ports.remoteWake = s.ports.remoteWake ∧
    (finishMeasure s).ports.teth.levels = s.ports.teth.levels ∧
    (finishMeasure s).ports.tethOut = s.ports.tethOut ∧
    (finishMeasure s).ports.tethReplies = s.ports.tethReplies ∧
    (finishMeasure s).ports.tethService = s.ports.tethService ∧ (finishMeasure s).ports.vbus = s.ports.vbus ∧
    (finishMeasure s).power = s.power ∧ (finishMeasure s).pending = s.pending := by
  unfold finishMeasure <;> split <;> simp

@[simp] theorem measureRecords_frame (recs : List Record) (full tail : Bool) (s : State) :
    (measureRecords recs full tail s).fe = s.fe ∧ (measureRecords recs full tail s).comp = s.comp ∧
    (measureRecords recs full tail s).tap.gapOpen = s.tap.gapOpen ∧
    (measureRecords recs full tail s).writer = s.writer ∧ (measureRecords recs full tail s).seq = s.seq ∧
    (measureRecords recs full tail s).store.available = s.store.available ∧
    (measureRecords recs full tail s).store.blocks = s.store.blocks ∧
    (measureRecords recs full tail s).store.low = s.store.low ∧
    (measureRecords recs full tail s).store.mem = s.store.mem ∧
    (measureRecords recs full tail s).store.sealCounter = s.store.sealCounter ∧
    (measureRecords recs full tail s).mc = s.mc ∧ (measureRecords recs full tail s).slots.length = s.slots.length ∧
    (measureRecords recs full tail s).render.again = s.render.again ∧
    (measureRecords recs full tail s).render.completed = s.render.completed ∧
    (measureRecords recs full tail s).render.cursorA = s.render.cursorA ∧
    (measureRecords recs full tail s).render.cursorB = s.render.cursorB ∧
    (measureRecords recs full tail s).render.dirty = s.render.dirty ∧
    (measureRecords recs full tail s).render.divider = s.render.divider ∧
    (measureRecords recs full tail s).render.drawnA = s.render.drawnA ∧
    (measureRecords recs full tail s).render.drawnB = s.render.drawnB ∧
    (measureRecords recs full tail s).render.frame = s.render.frame ∧
    (measureRecords recs full tail s).render.latch = s.render.latch ∧
    (measureRecords recs full tail s).render.layout = s.render.layout ∧
    (measureRecords recs full tail s).render.liveCount = s.render.liveCount ∧
    (measureRecords recs full tail s).render.palette = s.render.palette ∧
    (measureRecords recs full tail s).render.trace = s.render.trace ∧
    (measureRecords recs full tail s).render.view = s.render.view ∧
    (measureRecords recs full tail s).panel = s.panel ∧
    (measureRecords recs full tail s).ports.claim = s.ports.claim ∧
    (measureRecords recs full tail s).ports.con.levels = s.ports.con.levels ∧
    (measureRecords recs full tail s).ports.conOut = s.ports.conOut ∧
    (measureRecords recs full tail s).ports.conReplies = s.ports.conReplies ∧
    (measureRecords recs full tail s).ports.conService = s.ports.conService ∧
    (measureRecords recs full tail s).ports.link = s.ports.link ∧
    (measureRecords recs full tail s).ports.outFrame = s.ports.outFrame ∧
    (measureRecords recs full tail s).ports.remoteWake = s.ports.remoteWake ∧
    (measureRecords recs full tail s).ports.teth.levels = s.ports.teth.levels ∧
    (measureRecords recs full tail s).ports.tethOut = s.ports.tethOut ∧
    (measureRecords recs full tail s).ports.tethReplies = s.ports.tethReplies ∧
    (measureRecords recs full tail s).ports.tethService = s.ports.tethService ∧
    (measureRecords recs full tail s).ports.vbus = s.ports.vbus ∧ (measureRecords recs full tail s).power = s.power ∧
    (measureRecords recs full tail s).pending = s.pending := by
  unfold measureRecords <;> (try dsimp only) <;> (repeat' split) <;> simp

@[simp] theorem measureTrimmed_frame (s : State) :
    (measureTrimmed s).fe = s.fe ∧ (measureTrimmed s).comp = s.comp ∧ (measureTrimmed s).tap = s.tap ∧
    (measureTrimmed s).writer = s.writer ∧ (measureTrimmed s).seq = s.seq ∧ (measureTrimmed s).store = s.store ∧
    (measureTrimmed s).mc = s.mc ∧ (measureTrimmed s).slots = s.slots ∧ (measureTrimmed s).notes = s.notes ∧
    (measureTrimmed s).render = s.render ∧ (measureTrimmed s).panel = s.panel ∧ (measureTrimmed s).ports = s.ports ∧
    (measureTrimmed s).power = s.power ∧ (measureTrimmed s).free = s.free ∧
    (measureTrimmed s).pending = s.pending := by
  simp [measureTrimmed]

@[simp] theorem measureLocate_frame (s : State) :
    (measureLocate s).fe = s.fe ∧ (measureLocate s).comp = s.comp ∧ (measureLocate s).tap = s.tap ∧
    (measureLocate s).writer = s.writer ∧ (measureLocate s).seq = s.seq ∧ (measureLocate s).store = s.store ∧
    (measureLocate s).mc = s.mc ∧ (measureLocate s).slots = s.slots ∧ (measureLocate s).notes = s.notes ∧
    (measureLocate s).meas.a = s.meas.a ∧ (measureLocate s).meas.b = s.meas.b ∧
    (measureLocate s).meas.edges = s.meas.edges ∧ (measureLocate s).meas.high = s.meas.high ∧
    (measureLocate s).meas.mask = s.meas.mask ∧ (measureLocate s).meas.port = s.meas.port ∧
    (measureLocate s).meas.result = s.meas.result ∧ (measureLocate s).meas.seg = s.meas.seg ∧
    (measureLocate s).meas.st = s.meas.st ∧ (measureLocate s).render = s.render ∧ (measureLocate s).panel = s.panel ∧
    (measureLocate s).ports = s.ports ∧ (measureLocate s).power = s.power ∧ (measureLocate s).free = s.free ∧
    (measureLocate s).pending = s.pending := by
  unfold measureLocate <;> (try dsimp only) <;> (repeat' split) <;> simp

@[simp] theorem cancelMeasure_frame (s : State) :
    (cancelMeasure s).fe = s.fe ∧ (cancelMeasure s).comp = s.comp ∧ (cancelMeasure s).tap.gapOpen = s.tap.gapOpen ∧
    (cancelMeasure s).writer = s.writer ∧ (cancelMeasure s).seq = s.seq ∧
    (cancelMeasure s).store.available = s.store.available ∧ (cancelMeasure s).store.blocks = s.store.blocks ∧
    (cancelMeasure s).store.low = s.store.low ∧ (cancelMeasure s).store.mem = s.store.mem ∧
    (cancelMeasure s).store.sealCounter = s.store.sealCounter ∧ (cancelMeasure s).mc.banks = s.mc.banks ∧
    (cancelMeasure s).mc.debt = s.mc.debt ∧ (cancelMeasure s).mc.init = s.mc.init ∧
    (cancelMeasure s).mc.last = s.mc.last ∧ (cancelMeasure s).mc.lastSlot = s.mc.lastSlot ∧
    (cancelMeasure s).mc.phase = s.mc.phase ∧ (cancelMeasure s).mc.st = s.mc.st ∧
    (cancelMeasure s).slots.length = s.slots.length ∧ (cancelMeasure s).render.again = s.render.again ∧
    (cancelMeasure s).render.completed = s.render.completed ∧ (cancelMeasure s).render.cursorA = s.render.cursorA ∧
    (cancelMeasure s).render.cursorB = s.render.cursorB ∧ (cancelMeasure s).render.dirty = s.render.dirty ∧
    (cancelMeasure s).render.divider = s.render.divider ∧ (cancelMeasure s).render.drawnA = s.render.drawnA ∧
    (cancelMeasure s).render.drawnB = s.render.drawnB ∧ (cancelMeasure s).render.frame = s.render.frame ∧
    (cancelMeasure s).render.latch = s.render.latch ∧ (cancelMeasure s).render.layout = s.render.layout ∧
    (cancelMeasure s).render.liveCount = s.render.liveCount ∧ (cancelMeasure s).render.palette = s.render.palette ∧
    (cancelMeasure s).render.trace = s.render.trace ∧ (cancelMeasure s).render.view = s.render.view ∧
    (cancelMeasure s).panel = s.panel ∧ (cancelMeasure s).ports.claim = s.ports.claim ∧
    (cancelMeasure s).ports.con.levels = s.ports.con.levels ∧ (cancelMeasure s).ports.conOut = s.ports.conOut ∧
    (cancelMeasure s).ports.conReplies = s.ports.conReplies ∧
    (cancelMeasure s).ports.conService = s.ports.conService ∧ (cancelMeasure s).ports.link = s.ports.link ∧
    (cancelMeasure s).ports.outFrame = s.ports.outFrame ∧ (cancelMeasure s).ports.remoteWake = s.ports.remoteWake ∧
    (cancelMeasure s).ports.teth.levels = s.ports.teth.levels ∧ (cancelMeasure s).ports.tethOut = s.ports.tethOut ∧
    (cancelMeasure s).ports.tethReplies = s.ports.tethReplies ∧
    (cancelMeasure s).ports.tethService = s.ports.tethService ∧ (cancelMeasure s).ports.vbus = s.ports.vbus ∧
    (cancelMeasure s).power = s.power ∧ (cancelMeasure s).pending = s.pending := by
  unfold cancelMeasure <;> (try dsimp only) <;> (repeat' split) <;> simp

/-! ## Rendering -/

@[simp] theorem markBands_frame (bands : List Nat) (s : State) :
    (markBands bands s).fe = s.fe ∧ (markBands bands s).comp = s.comp ∧ (markBands bands s).tap = s.tap ∧
    (markBands bands s).writer = s.writer ∧ (markBands bands s).seq = s.seq ∧ (markBands bands s).store = s.store ∧
    (markBands bands s).mc = s.mc ∧ (markBands bands s).slots = s.slots ∧ (markBands bands s).notes = s.notes ∧
    (markBands bands s).meas = s.meas ∧ (markBands bands s).render.again = s.render.again ∧
    (markBands bands s).render.completed = s.render.completed ∧
    (markBands bands s).render.cursorA = s.render.cursorA ∧ (markBands bands s).render.cursorB = s.render.cursorB ∧
    (markBands bands s).render.divider = s.render.divider ∧ (markBands bands s).render.drawnA = s.render.drawnA ∧
    (markBands bands s).render.drawnB = s.render.drawnB ∧ (markBands bands s).render.frame = s.render.frame ∧
    (markBands bands s).render.latch = s.render.latch ∧ (markBands bands s).render.layout = s.render.layout ∧
    (markBands bands s).render.liveCount = s.render.liveCount ∧
    (markBands bands s).render.palette = s.render.palette ∧ (markBands bands s).render.reader = s.render.reader ∧
    (markBands bands s).render.trace = s.render.trace ∧ (markBands bands s).render.view = s.render.view ∧
    (markBands bands s).panel.bus = s.panel.bus ∧ (markBands bands s).panel.changes = s.panel.changes ∧
    (markBands bands s).panel.dormantSleep = s.panel.dormantSleep ∧
    (markBands bands s).panel.emission = s.panel.emission ∧ (markBands bands s).panel.handOff = s.panel.handOff ∧
    (markBands bands s).panel.out = s.panel.out ∧ (markBands bands s).panel.overlays = s.panel.overlays ∧
    (markBands bands s).panel.queue = s.panel.queue ∧ (markBands bands s).panel.setup = s.panel.setup ∧
    (markBands bands s).panel.st = s.panel.st ∧ (markBands bands s).panel.teMissing = s.panel.teMissing ∧
    (markBands bands s).panel.teTimer = s.panel.teTimer ∧ (markBands bands s).panel.torn = s.panel.torn ∧
    (markBands bands s).panel.waiting = s.panel.waiting ∧ (markBands bands s).ports = s.ports ∧
    (markBands bands s).power = s.power ∧ (markBands bands s).free = s.free ∧
    (markBands bands s).pending = s.pending := by
  simp [markBands]

@[simp] theorem moveView_frame (named : Option Nat) (s : State) :
    ((moveView named s)).1.fe = s.fe ∧ ((moveView named s)).1.comp = s.comp ∧
    ((moveView named s)).1.tap.gapOpen = s.tap.gapOpen ∧ ((moveView named s)).1.writer = s.writer ∧
    ((moveView named s)).1.seq = s.seq ∧ ((moveView named s)).1.store.available = s.store.available ∧
    ((moveView named s)).1.store.blocks = s.store.blocks ∧ ((moveView named s)).1.store.low = s.store.low ∧
    ((moveView named s)).1.store.mem = s.store.mem ∧ ((moveView named s)).1.store.sealCounter = s.store.sealCounter ∧
    ((moveView named s)).1.mc = s.mc ∧ ((moveView named s)).1.slots.length = s.slots.length ∧
    ((moveView named s)).1.meas = s.meas ∧ ((moveView named s)).1.render.again = s.render.again ∧
    ((moveView named s)).1.render.completed = s.render.completed ∧
    ((moveView named s)).1.render.cursorA = s.render.cursorA ∧
    ((moveView named s)).1.render.cursorB = s.render.cursorB ∧ ((moveView named s)).1.render.dirty = s.render.dirty ∧
    ((moveView named s)).1.render.divider = s.render.divider ∧
    ((moveView named s)).1.render.drawnA = s.render.drawnA ∧ ((moveView named s)).1.render.drawnB = s.render.drawnB ∧
    ((moveView named s)).1.render.frame = s.render.frame ∧ ((moveView named s)).1.render.latch = s.render.latch ∧
    ((moveView named s)).1.render.layout = s.render.layout ∧
    ((moveView named s)).1.render.liveCount = s.render.liveCount ∧
    ((moveView named s)).1.render.palette = s.render.palette ∧ ((moveView named s)).1.render.trace = s.render.trace ∧
    ((moveView named s)).1.render.view = s.render.view ∧ ((moveView named s)).1.panel = s.panel ∧
    ((moveView named s)).1.ports.claim = s.ports.claim ∧
    ((moveView named s)).1.ports.con.levels = s.ports.con.levels ∧
    ((moveView named s)).1.ports.conOut = s.ports.conOut ∧
    ((moveView named s)).1.ports.conReplies = s.ports.conReplies ∧
    ((moveView named s)).1.ports.conService = s.ports.conService ∧ ((moveView named s)).1.ports.link = s.ports.link ∧
    ((moveView named s)).1.ports.outFrame = s.ports.outFrame ∧
    ((moveView named s)).1.ports.remoteWake = s.ports.remoteWake ∧
    ((moveView named s)).1.ports.teth.levels = s.ports.teth.levels ∧
    ((moveView named s)).1.ports.tethOut = s.ports.tethOut ∧
    ((moveView named s)).1.ports.tethReplies = s.ports.tethReplies ∧
    ((moveView named s)).1.ports.tethService = s.ports.tethService ∧
    ((moveView named s)).1.ports.vbus = s.ports.vbus ∧ ((moveView named s)).1.power = s.power ∧
    ((moveView named s)).1.pending = s.pending := by
  unfold moveView <;> (try dsimp only) <;> (repeat' split) <;> simp

@[simp] theorem latchFrame_frame (s : State) :
    (latchFrame s).fe = s.fe ∧ (latchFrame s).comp = s.comp ∧ (latchFrame s).tap.gapOpen = s.tap.gapOpen ∧
    (latchFrame s).writer = s.writer ∧ (latchFrame s).seq = s.seq ∧
    (latchFrame s).store.available = s.store.available ∧ (latchFrame s).store.blocks = s.store.blocks ∧
    (latchFrame s).store.low = s.store.low ∧ (latchFrame s).store.mem = s.store.mem ∧
    (latchFrame s).store.sealCounter = s.store.sealCounter ∧ (latchFrame s).mc = s.mc ∧
    (latchFrame s).slots.length = s.slots.length ∧ (latchFrame s).meas = s.meas ∧
    (latchFrame s).render.again = s.render.again ∧ (latchFrame s).render.completed = s.render.completed ∧
    (latchFrame s).render.cursorA = s.render.cursorA ∧ (latchFrame s).render.cursorB = s.render.cursorB ∧
    (latchFrame s).render.divider = s.render.divider ∧ (latchFrame s).render.drawnA = s.render.drawnA ∧
    (latchFrame s).render.drawnB = s.render.drawnB ∧ (latchFrame s).render.layout = s.render.layout ∧
    (latchFrame s).render.liveCount = s.render.liveCount ∧ (latchFrame s).render.palette = s.render.palette ∧
    (latchFrame s).render.trace = s.render.trace ∧ (latchFrame s).render.view = s.render.view ∧
    (latchFrame s).panel.bus = s.panel.bus ∧ (latchFrame s).panel.changes = s.panel.changes ∧
    (latchFrame s).panel.dormantSleep = s.panel.dormantSleep ∧ (latchFrame s).panel.emission = s.panel.emission ∧
    (latchFrame s).panel.handOff = s.panel.handOff ∧ (latchFrame s).panel.out = s.panel.out ∧
    (latchFrame s).panel.overlays = s.panel.overlays ∧ (latchFrame s).panel.queue = s.panel.queue ∧
    (latchFrame s).panel.setup = s.panel.setup ∧ (latchFrame s).panel.st = s.panel.st ∧
    (latchFrame s).panel.teMissing = s.panel.teMissing ∧ (latchFrame s).panel.teTimer = s.panel.teTimer ∧
    (latchFrame s).panel.torn = s.panel.torn ∧ (latchFrame s).panel.waiting = s.panel.waiting ∧
    (latchFrame s).ports.claim = s.ports.claim ∧ (latchFrame s).ports.con.levels = s.ports.con.levels ∧
    (latchFrame s).ports.conOut = s.ports.conOut ∧ (latchFrame s).ports.conReplies = s.ports.conReplies ∧
    (latchFrame s).ports.conService = s.ports.conService ∧ (latchFrame s).ports.link = s.ports.link ∧
    (latchFrame s).ports.outFrame = s.ports.outFrame ∧ (latchFrame s).ports.remoteWake = s.ports.remoteWake ∧
    (latchFrame s).ports.teth.levels = s.ports.teth.levels ∧ (latchFrame s).ports.tethOut = s.ports.tethOut ∧
    (latchFrame s).ports.tethReplies = s.ports.tethReplies ∧ (latchFrame s).ports.tethService = s.ports.tethService ∧
    (latchFrame s).ports.vbus = s.ports.vbus ∧ (latchFrame s).power = s.power ∧
    (latchFrame s).pending = s.pending := by
  unfold latchFrame <;> (try dsimp only) <;> (repeat' split) <;> simp

@[simp] theorem requestFrame_frame (s : State) :
    (requestFrame s).fe = s.fe ∧ (requestFrame s).comp = s.comp ∧ (requestFrame s).tap.gapOpen = s.tap.gapOpen ∧
    (requestFrame s).writer = s.writer ∧ (requestFrame s).seq = s.seq ∧
    (requestFrame s).store.available = s.store.available ∧ (requestFrame s).store.blocks = s.store.blocks ∧
    (requestFrame s).store.low = s.store.low ∧ (requestFrame s).store.mem = s.store.mem ∧
    (requestFrame s).store.sealCounter = s.store.sealCounter ∧ (requestFrame s).mc = s.mc ∧
    (requestFrame s).slots.length = s.slots.length ∧ (requestFrame s).meas = s.meas ∧
    (requestFrame s).render.completed = s.render.completed ∧ (requestFrame s).render.cursorA = s.render.cursorA ∧
    (requestFrame s).render.cursorB = s.render.cursorB ∧ (requestFrame s).render.divider = s.render.divider ∧
    (requestFrame s).render.drawnA = s.render.drawnA ∧ (requestFrame s).render.drawnB = s.render.drawnB ∧
    (requestFrame s).render.layout = s.render.layout ∧ (requestFrame s).render.liveCount = s.render.liveCount ∧
    (requestFrame s).render.palette = s.render.palette ∧ (requestFrame s).render.trace = s.render.trace ∧
    (requestFrame s).render.view = s.render.view ∧ (requestFrame s).panel.bus = s.panel.bus ∧
    (requestFrame s).panel.changes = s.panel.changes ∧ (requestFrame s).panel.dormantSleep = s.panel.dormantSleep ∧
    (requestFrame s).panel.emission = s.panel.emission ∧ (requestFrame s).panel.handOff = s.panel.handOff ∧
    (requestFrame s).panel.out = s.panel.out ∧ (requestFrame s).panel.overlays = s.panel.overlays ∧
    (requestFrame s).panel.queue = s.panel.queue ∧ (requestFrame s).panel.setup = s.panel.setup ∧
    (requestFrame s).panel.st = s.panel.st ∧ (requestFrame s).panel.teMissing = s.panel.teMissing ∧
    (requestFrame s).panel.teTimer = s.panel.teTimer ∧ (requestFrame s).panel.torn = s.panel.torn ∧
    (requestFrame s).panel.waiting = s.panel.waiting ∧ (requestFrame s).ports.claim = s.ports.claim ∧
    (requestFrame s).ports.con.levels = s.ports.con.levels ∧ (requestFrame s).ports.conOut = s.ports.conOut ∧
    (requestFrame s).ports.conReplies = s.ports.conReplies ∧ (requestFrame s).ports.conService = s.ports.conService ∧
    (requestFrame s).ports.link = s.ports.link ∧ (requestFrame s).ports.outFrame = s.ports.outFrame ∧
    (requestFrame s).ports.remoteWake = s.ports.remoteWake ∧
    (requestFrame s).ports.teth.levels = s.ports.teth.levels ∧ (requestFrame s).ports.tethOut = s.ports.tethOut ∧
    (requestFrame s).ports.tethReplies = s.ports.tethReplies ∧
    (requestFrame s).ports.tethService = s.ports.tethService ∧ (requestFrame s).ports.vbus = s.ports.vbus ∧
    (requestFrame s).power = s.power ∧ (requestFrame s).pending = s.pending := by
  unfold requestFrame <;> (try dsimp only) <;> (repeat' split) <;> simp

@[simp] theorem completeFrame_frame (s : State) :
    (completeFrame s).fe = s.fe ∧ (completeFrame s).comp = s.comp ∧ (completeFrame s).tap.gapOpen = s.tap.gapOpen ∧
    (completeFrame s).writer = s.writer ∧ (completeFrame s).seq = s.seq ∧
    (completeFrame s).store.available = s.store.available ∧ (completeFrame s).store.blocks = s.store.blocks ∧
    (completeFrame s).store.low = s.store.low ∧ (completeFrame s).store.mem = s.store.mem ∧
    (completeFrame s).store.sealCounter = s.store.sealCounter ∧ (completeFrame s).mc = s.mc ∧
    (completeFrame s).slots.length = s.slots.length ∧ (completeFrame s).meas = s.meas ∧
    (completeFrame s).render.cursorA = s.render.cursorA ∧ (completeFrame s).render.cursorB = s.render.cursorB ∧
    (completeFrame s).render.divider = s.render.divider ∧ (completeFrame s).render.drawnA = s.render.drawnA ∧
    (completeFrame s).render.drawnB = s.render.drawnB ∧ (completeFrame s).render.layout = s.render.layout ∧
    (completeFrame s).render.liveCount = s.render.liveCount ∧ (completeFrame s).render.palette = s.render.palette ∧
    (completeFrame s).render.trace = s.render.trace ∧ (completeFrame s).render.view = s.render.view ∧
    (completeFrame s).panel.bus = s.panel.bus ∧ (completeFrame s).panel.changes = s.panel.changes ∧
    (completeFrame s).panel.dormantSleep = s.panel.dormantSleep ∧
    (completeFrame s).panel.emission = s.panel.emission ∧ (completeFrame s).panel.handOff = s.panel.handOff ∧
    (completeFrame s).panel.out = s.panel.out ∧ (completeFrame s).panel.overlays = s.panel.overlays ∧
    (completeFrame s).panel.queue = s.panel.queue ∧ (completeFrame s).panel.setup = s.panel.setup ∧
    (completeFrame s).panel.st = s.panel.st ∧ (completeFrame s).panel.teMissing = s.panel.teMissing ∧
    (completeFrame s).panel.teTimer = s.panel.teTimer ∧ (completeFrame s).panel.torn = s.panel.torn ∧
    (completeFrame s).panel.waiting = s.panel.waiting ∧ (completeFrame s).ports.claim = s.ports.claim ∧
    (completeFrame s).ports.con.levels = s.ports.con.levels ∧ (completeFrame s).ports.conOut = s.ports.conOut ∧
    (completeFrame s).ports.conReplies = s.ports.conReplies ∧
    (completeFrame s).ports.conService = s.ports.conService ∧ (completeFrame s).ports.link = s.ports.link ∧
    (completeFrame s).ports.outFrame = s.ports.outFrame ∧ (completeFrame s).ports.remoteWake = s.ports.remoteWake ∧
    (completeFrame s).ports.teth.levels = s.ports.teth.levels ∧ (completeFrame s).ports.tethOut = s.ports.tethOut ∧
    (completeFrame s).ports.tethReplies = s.ports.tethReplies ∧
    (completeFrame s).ports.tethService = s.ports.tethService ∧ (completeFrame s).ports.vbus = s.ports.vbus ∧
    (completeFrame s).power = s.power ∧ (completeFrame s).pending = s.pending := by
  unfold completeFrame <;> (try dsimp only) <;> (repeat' split) <;> simp

@[simp] theorem renderLocate_frame (s : State) :
    (renderLocate s).fe = s.fe ∧ (renderLocate s).comp = s.comp ∧ (renderLocate s).tap = s.tap ∧
    (renderLocate s).writer = s.writer ∧ (renderLocate s).seq = s.seq ∧ (renderLocate s).store = s.store ∧
    (renderLocate s).mc = s.mc ∧ (renderLocate s).slots = s.slots ∧ (renderLocate s).notes = s.notes ∧
    (renderLocate s).meas = s.meas ∧ (renderLocate s).render.again = s.render.again ∧
    (renderLocate s).render.completed = s.render.completed ∧ (renderLocate s).render.cursorA = s.render.cursorA ∧
    (renderLocate s).render.cursorB = s.render.cursorB ∧ (renderLocate s).render.dirty = s.render.dirty ∧
    (renderLocate s).render.divider = s.render.divider ∧ (renderLocate s).render.drawnA = s.render.drawnA ∧
    (renderLocate s).render.drawnB = s.render.drawnB ∧ (renderLocate s).render.frame = s.render.frame ∧
    (renderLocate s).render.latch = s.render.latch ∧ (renderLocate s).render.layout = s.render.layout ∧
    (renderLocate s).render.liveCount = s.render.liveCount ∧ (renderLocate s).render.palette = s.render.palette ∧
    (renderLocate s).render.trace = s.render.trace ∧ (renderLocate s).render.view = s.render.view ∧
    (renderLocate s).panel = s.panel ∧ (renderLocate s).ports = s.ports ∧ (renderLocate s).power = s.power ∧
    (renderLocate s).free = s.free ∧ (renderLocate s).pending = s.pending := by
  unfold renderLocate <;> (try dsimp only) <;> (repeat' split) <;> simp

@[simp] theorem renderRecords_frame (recs : List Record) (full tail : Bool) (s : State) :
    (renderRecords recs full tail s).fe = s.fe ∧ (renderRecords recs full tail s).comp = s.comp ∧
    (renderRecords recs full tail s).tap = s.tap ∧ (renderRecords recs full tail s).writer = s.writer ∧
    (renderRecords recs full tail s).seq = s.seq ∧ (renderRecords recs full tail s).store = s.store ∧
    (renderRecords recs full tail s).mc = s.mc ∧ (renderRecords recs full tail s).slots = s.slots ∧
    (renderRecords recs full tail s).notes = s.notes ∧ (renderRecords recs full tail s).meas = s.meas ∧
    (renderRecords recs full tail s).render.again = s.render.again ∧
    (renderRecords recs full tail s).render.completed = s.render.completed ∧
    (renderRecords recs full tail s).render.cursorA = s.render.cursorA ∧
    (renderRecords recs full tail s).render.cursorB = s.render.cursorB ∧
    (renderRecords recs full tail s).render.dirty = s.render.dirty ∧
    (renderRecords recs full tail s).render.divider = s.render.divider ∧
    (renderRecords recs full tail s).render.drawnA = s.render.drawnA ∧
    (renderRecords recs full tail s).render.drawnB = s.render.drawnB ∧
    (renderRecords recs full tail s).render.frame = s.render.frame ∧
    (renderRecords recs full tail s).render.latch = s.render.latch ∧
    (renderRecords recs full tail s).render.layout = s.render.layout ∧
    (renderRecords recs full tail s).render.liveCount = s.render.liveCount ∧
    (renderRecords recs full tail s).render.palette = s.render.palette ∧
    (renderRecords recs full tail s).render.trace = s.render.trace ∧
    (renderRecords recs full tail s).render.view = s.render.view ∧ (renderRecords recs full tail s).panel = s.panel ∧
    (renderRecords recs full tail s).ports = s.ports ∧ (renderRecords recs full tail s).power = s.power ∧
    (renderRecords recs full tail s).free = s.free ∧ (renderRecords recs full tail s).pending = s.pending := by
  simp [renderRecords]

@[simp] theorem renderTrimmed_frame (s : State) :
    (renderTrimmed s).fe = s.fe ∧ (renderTrimmed s).comp = s.comp ∧ (renderTrimmed s).tap = s.tap ∧
    (renderTrimmed s).writer = s.writer ∧ (renderTrimmed s).seq = s.seq ∧ (renderTrimmed s).store = s.store ∧
    (renderTrimmed s).mc = s.mc ∧ (renderTrimmed s).slots = s.slots ∧ (renderTrimmed s).notes = s.notes ∧
    (renderTrimmed s).meas = s.meas ∧ (renderTrimmed s).render.again = s.render.again ∧
    (renderTrimmed s).render.completed = s.render.completed ∧ (renderTrimmed s).render.cursorA = s.render.cursorA ∧
    (renderTrimmed s).render.cursorB = s.render.cursorB ∧ (renderTrimmed s).render.dirty = s.render.dirty ∧
    (renderTrimmed s).render.divider = s.render.divider ∧ (renderTrimmed s).render.drawnA = s.render.drawnA ∧
    (renderTrimmed s).render.drawnB = s.render.drawnB ∧ (renderTrimmed s).render.frame = s.render.frame ∧
    (renderTrimmed s).render.latch = s.render.latch ∧ (renderTrimmed s).render.layout = s.render.layout ∧
    (renderTrimmed s).render.liveCount = s.render.liveCount ∧ (renderTrimmed s).render.palette = s.render.palette ∧
    (renderTrimmed s).render.trace = s.render.trace ∧ (renderTrimmed s).render.view = s.render.view ∧
    (renderTrimmed s).panel = s.panel ∧ (renderTrimmed s).ports = s.ports ∧ (renderTrimmed s).power = s.power ∧
    (renderTrimmed s).free = s.free ∧ (renderTrimmed s).pending = s.pending := by
  unfold renderTrimmed <;> (try dsimp only) <;> (repeat' split) <;> simp

@[simp] theorem classifyCells_frame (s : State) :
    (classifyCells s).fe = s.fe ∧ (classifyCells s).comp = s.comp ∧ (classifyCells s).tap = s.tap ∧
    (classifyCells s).writer = s.writer ∧ (classifyCells s).seq = s.seq ∧ (classifyCells s).store = s.store ∧
    (classifyCells s).mc = s.mc ∧ (classifyCells s).slots = s.slots ∧ (classifyCells s).notes = s.notes ∧
    (classifyCells s).meas = s.meas ∧ (classifyCells s).render.again = s.render.again ∧
    (classifyCells s).render.completed = s.render.completed ∧ (classifyCells s).render.cursorA = s.render.cursorA ∧
    (classifyCells s).render.cursorB = s.render.cursorB ∧ (classifyCells s).render.divider = s.render.divider ∧
    (classifyCells s).render.frame = s.render.frame ∧ (classifyCells s).render.latch = s.render.latch ∧
    (classifyCells s).render.layout = s.render.layout ∧ (classifyCells s).render.liveCount = s.render.liveCount ∧
    (classifyCells s).render.palette = s.render.palette ∧ (classifyCells s).render.view = s.render.view ∧
    (classifyCells s).panel.bus = s.panel.bus ∧ (classifyCells s).panel.changes = s.panel.changes ∧
    (classifyCells s).panel.dormantSleep = s.panel.dormantSleep ∧
    (classifyCells s).panel.emission = s.panel.emission ∧ (classifyCells s).panel.handOff = s.panel.handOff ∧
    (classifyCells s).panel.out = s.panel.out ∧ (classifyCells s).panel.overlays = s.panel.overlays ∧
    (classifyCells s).panel.queue = s.panel.queue ∧ (classifyCells s).panel.setup = s.panel.setup ∧
    (classifyCells s).panel.st = s.panel.st ∧ (classifyCells s).panel.teMissing = s.panel.teMissing ∧
    (classifyCells s).panel.teTimer = s.panel.teTimer ∧ (classifyCells s).panel.torn = s.panel.torn ∧
    (classifyCells s).panel.waiting = s.panel.waiting ∧ (classifyCells s).ports = s.ports ∧
    (classifyCells s).power = s.power ∧ (classifyCells s).free = s.free ∧ (classifyCells s).pending = s.pending := by
  simp [classifyCells]

@[simp] theorem countEvent_frame (s : State) :
    (countEvent s).fe = s.fe ∧ (countEvent s).comp = s.comp ∧ (countEvent s).tap.gapOpen = s.tap.gapOpen ∧
    (countEvent s).writer = s.writer ∧ (countEvent s).seq = s.seq ∧
    (countEvent s).store.available = s.store.available ∧ (countEvent s).store.blocks = s.store.blocks ∧
    (countEvent s).store.low = s.store.low ∧ (countEvent s).store.mem = s.store.mem ∧
    (countEvent s).store.sealCounter = s.store.sealCounter ∧ (countEvent s).mc = s.mc ∧
    (countEvent s).slots.length = s.slots.length ∧ (countEvent s).meas = s.meas ∧
    (countEvent s).render.completed = s.render.completed ∧ (countEvent s).render.cursorA = s.render.cursorA ∧
    (countEvent s).render.cursorB = s.render.cursorB ∧ (countEvent s).render.divider = s.render.divider ∧
    (countEvent s).render.drawnA = s.render.drawnA ∧ (countEvent s).render.drawnB = s.render.drawnB ∧
    (countEvent s).render.layout = s.render.layout ∧ (countEvent s).render.palette = s.render.palette ∧
    (countEvent s).render.trace = s.render.trace ∧ (countEvent s).render.view = s.render.view ∧
    (countEvent s).panel.bus = s.panel.bus ∧ (countEvent s).panel.changes = s.panel.changes ∧
    (countEvent s).panel.dormantSleep = s.panel.dormantSleep ∧ (countEvent s).panel.emission = s.panel.emission ∧
    (countEvent s).panel.handOff = s.panel.handOff ∧ (countEvent s).panel.out = s.panel.out ∧
    (countEvent s).panel.overlays = s.panel.overlays ∧ (countEvent s).panel.queue = s.panel.queue ∧
    (countEvent s).panel.setup = s.panel.setup ∧ (countEvent s).panel.st = s.panel.st ∧
    (countEvent s).panel.teMissing = s.panel.teMissing ∧ (countEvent s).panel.teTimer = s.panel.teTimer ∧
    (countEvent s).panel.torn = s.panel.torn ∧ (countEvent s).panel.waiting = s.panel.waiting ∧
    (countEvent s).ports.claim = s.ports.claim ∧ (countEvent s).ports.con.levels = s.ports.con.levels ∧
    (countEvent s).ports.conOut = s.ports.conOut ∧ (countEvent s).ports.conReplies = s.ports.conReplies ∧
    (countEvent s).ports.conService = s.ports.conService ∧ (countEvent s).ports.link = s.ports.link ∧
    (countEvent s).ports.outFrame = s.ports.outFrame ∧ (countEvent s).ports.remoteWake = s.ports.remoteWake ∧
    (countEvent s).ports.teth.levels = s.ports.teth.levels ∧ (countEvent s).ports.tethOut = s.ports.tethOut ∧
    (countEvent s).ports.tethReplies = s.ports.tethReplies ∧ (countEvent s).ports.tethService = s.ports.tethService ∧
    (countEvent s).ports.vbus = s.ports.vbus ∧ (countEvent s).power = s.power ∧
    (countEvent s).pending = s.pending := by
  unfold countEvent <;> (try dsimp only) <;> (repeat' split) <;> simp

/-! ## PanelLink -/

@[simp] theorem grantChunk_frame (s : State) :
    (grantChunk s).fe = s.fe ∧ (grantChunk s).comp = s.comp ∧ (grantChunk s).tap = s.tap ∧
    (grantChunk s).writer = s.writer ∧ (grantChunk s).seq = s.seq ∧ (grantChunk s).store = s.store ∧
    (grantChunk s).mc = s.mc ∧ (grantChunk s).slots = s.slots ∧ (grantChunk s).notes = s.notes ∧
    (grantChunk s).meas = s.meas ∧ (grantChunk s).render = s.render ∧
    (grantChunk s).panel.changes = s.panel.changes ∧ (grantChunk s).panel.dormantSleep = s.panel.dormantSleep ∧
    (grantChunk s).panel.emission = s.panel.emission ∧ (grantChunk s).panel.handOff = s.panel.handOff ∧
    (grantChunk s).panel.overlays = s.panel.overlays ∧ (grantChunk s).panel.queue = s.panel.queue ∧
    (grantChunk s).panel.setup = s.panel.setup ∧ (grantChunk s).panel.st = s.panel.st ∧
    (grantChunk s).panel.teMissing = s.panel.teMissing ∧ (grantChunk s).panel.teTimer = s.panel.teTimer ∧
    (grantChunk s).panel.torn = s.panel.torn ∧ (grantChunk s).panel.waiting = s.panel.waiting ∧
    (grantChunk s).ports = s.ports ∧ (grantChunk s).power = s.power ∧ (grantChunk s).free = s.free ∧
    (grantChunk s).pending = s.pending := by
  unfold grantChunk <;> (try dsimp only) <;> (repeat' split) <;> simp

@[simp] theorem endEmission_frame (s : State) :
    (endEmission s).fe = s.fe ∧ (endEmission s).comp = s.comp ∧ (endEmission s).tap.gapOpen = s.tap.gapOpen ∧
    (endEmission s).writer = s.writer ∧ (endEmission s).seq = s.seq ∧
    (endEmission s).store.available = s.store.available ∧ (endEmission s).store.blocks = s.store.blocks ∧
    (endEmission s).store.low = s.store.low ∧ (endEmission s).store.mem = s.store.mem ∧
    (endEmission s).store.sealCounter = s.store.sealCounter ∧ (endEmission s).mc = s.mc ∧
    (endEmission s).slots.length = s.slots.length ∧ (endEmission s).meas = s.meas ∧
    (endEmission s).render.cursorA = s.render.cursorA ∧ (endEmission s).render.cursorB = s.render.cursorB ∧
    (endEmission s).render.divider = s.render.divider ∧ (endEmission s).render.drawnA = s.render.drawnA ∧
    (endEmission s).render.drawnB = s.render.drawnB ∧ (endEmission s).render.layout = s.render.layout ∧
    (endEmission s).render.liveCount = s.render.liveCount ∧ (endEmission s).render.palette = s.render.palette ∧
    (endEmission s).render.trace = s.render.trace ∧ (endEmission s).render.view = s.render.view ∧
    (endEmission s).panel.bus = s.panel.bus ∧ (endEmission s).panel.changes = s.panel.changes ∧
    (endEmission s).panel.dormantSleep = s.panel.dormantSleep ∧ (endEmission s).panel.out = s.panel.out ∧
    (endEmission s).panel.overlays = s.panel.overlays ∧ (endEmission s).panel.queue = s.panel.queue ∧
    (endEmission s).panel.setup = s.panel.setup ∧ (endEmission s).panel.st = s.panel.st ∧
    (endEmission s).panel.teMissing = s.panel.teMissing ∧ (endEmission s).panel.teTimer = s.panel.teTimer ∧
    (endEmission s).panel.waiting = s.panel.waiting ∧ (endEmission s).ports.claim = s.ports.claim ∧
    (endEmission s).ports.con.levels = s.ports.con.levels ∧ (endEmission s).ports.conOut = s.ports.conOut ∧
    (endEmission s).ports.conReplies = s.ports.conReplies ∧ (endEmission s).ports.conService = s.ports.conService ∧
    (endEmission s).ports.link = s.ports.link ∧ (endEmission s).ports.outFrame = s.ports.outFrame ∧
    (endEmission s).ports.remoteWake = s.ports.remoteWake ∧ (endEmission s).ports.teth.levels = s.ports.teth.levels ∧
    (endEmission s).ports.tethOut = s.ports.tethOut ∧ (endEmission s).ports.tethReplies = s.ports.tethReplies ∧
    (endEmission s).ports.tethService = s.ports.tethService ∧ (endEmission s).ports.vbus = s.ports.vbus ∧
    (endEmission s).power = s.power ∧ (endEmission s).pending = s.pending := by
  simp [endEmission]

@[simp] theorem reportBand_frame (b : Nat) (s : State) :
    (reportBand b s).fe = s.fe ∧ (reportBand b s).comp = s.comp ∧ (reportBand b s).tap.gapOpen = s.tap.gapOpen ∧
    (reportBand b s).writer = s.writer ∧ (reportBand b s).seq = s.seq ∧
    (reportBand b s).store.available = s.store.available ∧ (reportBand b s).store.blocks = s.store.blocks ∧
    (reportBand b s).store.low = s.store.low ∧ (reportBand b s).store.mem = s.store.mem ∧
    (reportBand b s).store.sealCounter = s.store.sealCounter ∧ (reportBand b s).mc = s.mc ∧
    (reportBand b s).slots.length = s.slots.length ∧ (reportBand b s).meas = s.meas ∧
    (reportBand b s).render.cursorA = s.render.cursorA ∧ (reportBand b s).render.cursorB = s.render.cursorB ∧
    (reportBand b s).render.divider = s.render.divider ∧ (reportBand b s).render.drawnA = s.render.drawnA ∧
    (reportBand b s).render.drawnB = s.render.drawnB ∧ (reportBand b s).render.layout = s.render.layout ∧
    (reportBand b s).render.liveCount = s.render.liveCount ∧ (reportBand b s).render.palette = s.render.palette ∧
    (reportBand b s).render.trace = s.render.trace ∧ (reportBand b s).render.view = s.render.view ∧
    (reportBand b s).panel.bus = s.panel.bus ∧ (reportBand b s).panel.changes = s.panel.changes ∧
    (reportBand b s).panel.dormantSleep = s.panel.dormantSleep ∧ (reportBand b s).panel.out = s.panel.out ∧
    (reportBand b s).panel.overlays = s.panel.overlays ∧ (reportBand b s).panel.queue = s.panel.queue ∧
    (reportBand b s).panel.setup = s.panel.setup ∧ (reportBand b s).panel.st = s.panel.st ∧
    (reportBand b s).panel.teMissing = s.panel.teMissing ∧ (reportBand b s).panel.teTimer = s.panel.teTimer ∧
    (reportBand b s).panel.waiting = s.panel.waiting ∧ (reportBand b s).ports.claim = s.ports.claim ∧
    (reportBand b s).ports.con.levels = s.ports.con.levels ∧ (reportBand b s).ports.conOut = s.ports.conOut ∧
    (reportBand b s).ports.conReplies = s.ports.conReplies ∧ (reportBand b s).ports.conService = s.ports.conService ∧
    (reportBand b s).ports.link = s.ports.link ∧ (reportBand b s).ports.outFrame = s.ports.outFrame ∧
    (reportBand b s).ports.remoteWake = s.ports.remoteWake ∧
    (reportBand b s).ports.teth.levels = s.ports.teth.levels ∧ (reportBand b s).ports.tethOut = s.ports.tethOut ∧
    (reportBand b s).ports.tethReplies = s.ports.tethReplies ∧
    (reportBand b s).ports.tethService = s.ports.tethService ∧ (reportBand b s).ports.vbus = s.ports.vbus ∧
    (reportBand b s).power = s.power ∧ (reportBand b s).pending = s.pending := by
  unfold reportBand <;> (try dsimp only) <;> (repeat' split) <;> simp

@[simp] theorem leaveShowing_frame (s : State) :
    (leaveShowing s).fe = s.fe ∧ (leaveShowing s).comp = s.comp ∧ (leaveShowing s).tap.gapOpen = s.tap.gapOpen ∧
    (leaveShowing s).writer = s.writer ∧ (leaveShowing s).seq = s.seq ∧
    (leaveShowing s).store.available = s.store.available ∧ (leaveShowing s).store.blocks = s.store.blocks ∧
    (leaveShowing s).store.low = s.store.low ∧ (leaveShowing s).store.mem = s.store.mem ∧
    (leaveShowing s).store.sealCounter = s.store.sealCounter ∧ (leaveShowing s).mc = s.mc ∧
    (leaveShowing s).slots.length = s.slots.length ∧ (leaveShowing s).meas = s.meas ∧
    (leaveShowing s).render.cursorA = s.render.cursorA ∧ (leaveShowing s).render.cursorB = s.render.cursorB ∧
    (leaveShowing s).render.divider = s.render.divider ∧ (leaveShowing s).render.drawnA = s.render.drawnA ∧
    (leaveShowing s).render.drawnB = s.render.drawnB ∧ (leaveShowing s).render.layout = s.render.layout ∧
    (leaveShowing s).render.liveCount = s.render.liveCount ∧ (leaveShowing s).render.palette = s.render.palette ∧
    (leaveShowing s).render.trace = s.render.trace ∧ (leaveShowing s).render.view = s.render.view ∧
    (leaveShowing s).panel.bus = s.panel.bus ∧ (leaveShowing s).panel.changes = s.panel.changes ∧
    (leaveShowing s).panel.dormantSleep = s.panel.dormantSleep ∧ (leaveShowing s).panel.out = s.panel.out ∧
    (leaveShowing s).panel.overlays = s.panel.overlays ∧ (leaveShowing s).panel.queue = s.panel.queue ∧
    (leaveShowing s).panel.setup = s.panel.setup ∧ (leaveShowing s).panel.st = s.panel.st ∧
    (leaveShowing s).panel.waiting = s.panel.waiting ∧ (leaveShowing s).ports.claim = s.ports.claim ∧
    (leaveShowing s).ports.con.levels = s.ports.con.levels ∧ (leaveShowing s).ports.conOut = s.ports.conOut ∧
    (leaveShowing s).ports.conReplies = s.ports.conReplies ∧ (leaveShowing s).ports.conService = s.ports.conService ∧
    (leaveShowing s).ports.link = s.ports.link ∧ (leaveShowing s).ports.outFrame = s.ports.outFrame ∧
    (leaveShowing s).ports.remoteWake = s.ports.remoteWake ∧
    (leaveShowing s).ports.teth.levels = s.ports.teth.levels ∧ (leaveShowing s).ports.tethOut = s.ports.tethOut ∧
    (leaveShowing s).ports.tethReplies = s.ports.tethReplies ∧
    (leaveShowing s).ports.tethService = s.ports.tethService ∧ (leaveShowing s).ports.vbus = s.ports.vbus ∧
    (leaveShowing s).power = s.power ∧ (leaveShowing s).pending = s.pending := by
  unfold leaveShowing <;> (try dsimp only) <;> (repeat' split) <;> simp

@[simp] theorem runSeq_frame (q : PanelSeq) (s : State) :
    (runSeq q s).fe = s.fe ∧ (runSeq q s).comp = s.comp ∧ (runSeq q s).tap = s.tap ∧ (runSeq q s).writer = s.writer ∧
    (runSeq q s).seq = s.seq ∧ (runSeq q s).store = s.store ∧ (runSeq q s).mc = s.mc ∧ (runSeq q s).slots = s.slots ∧
    (runSeq q s).notes = s.notes ∧ (runSeq q s).meas = s.meas ∧ (runSeq q s).render = s.render ∧
    (runSeq q s).panel.changes = s.panel.changes ∧ (runSeq q s).panel.dormantSleep = s.panel.dormantSleep ∧
    (runSeq q s).panel.emission = s.panel.emission ∧ (runSeq q s).panel.handOff = s.panel.handOff ∧
    (runSeq q s).panel.overlays = s.panel.overlays ∧ (runSeq q s).panel.queue = s.panel.queue ∧
    (runSeq q s).panel.setup = s.panel.setup ∧ (runSeq q s).panel.st = s.panel.st ∧
    (runSeq q s).panel.teMissing = s.panel.teMissing ∧ (runSeq q s).panel.teTimer = s.panel.teTimer ∧
    (runSeq q s).panel.torn = s.panel.torn ∧ (runSeq q s).panel.waiting = s.panel.waiting ∧
    (runSeq q s).ports = s.ports ∧ (runSeq q s).power = s.power ∧ (runSeq q s).free = s.free ∧
    (runSeq q s).pending = s.pending := by
  unfold runSeq <;> (try dsimp only) <;> (repeat' split) <;> simp

@[simp] theorem runWaiting_frame (l : List PanelSeq) (s : State) :
    (runWaiting l s).fe = s.fe ∧ (runWaiting l s).comp = s.comp ∧ (runWaiting l s).tap = s.tap ∧ (runWaiting l s).writer = s.writer ∧
    (runWaiting l s).seq = s.seq ∧ (runWaiting l s).store = s.store ∧ (runWaiting l s).mc = s.mc ∧ (runWaiting l s).slots = s.slots ∧
    (runWaiting l s).notes = s.notes ∧ (runWaiting l s).meas = s.meas ∧ (runWaiting l s).render = s.render ∧
    (runWaiting l s).panel.changes = s.panel.changes ∧ (runWaiting l s).panel.dormantSleep = s.panel.dormantSleep ∧
    (runWaiting l s).panel.emission = s.panel.emission ∧ (runWaiting l s).panel.handOff = s.panel.handOff ∧
    (runWaiting l s).panel.overlays = s.panel.overlays ∧ (runWaiting l s).panel.queue = s.panel.queue ∧
    (runWaiting l s).panel.setup = s.panel.setup ∧ (runWaiting l s).panel.st = s.panel.st ∧
    (runWaiting l s).panel.teMissing = s.panel.teMissing ∧ (runWaiting l s).panel.teTimer = s.panel.teTimer ∧
    (runWaiting l s).panel.torn = s.panel.torn ∧
    (runWaiting l s).ports = s.ports ∧ (runWaiting l s).power = s.power ∧ (runWaiting l s).free = s.free ∧
    (runWaiting l s).pending = s.pending := by
  induction l generalizing s with
  | nil => simp [runWaiting]
  | cons _ _ ih => simp only [runWaiting] <;> split <;> simp [ih]

@[simp] theorem applyChange_frame (c : OverlayChange) (s : State) :
    (applyChange c s).fe = s.fe ∧ (applyChange c s).comp = s.comp ∧ (applyChange c s).tap.gapOpen = s.tap.gapOpen ∧
    (applyChange c s).writer = s.writer ∧ (applyChange c s).seq = s.seq ∧
    (applyChange c s).store.available = s.store.available ∧ (applyChange c s).store.blocks = s.store.blocks ∧
    (applyChange c s).store.low = s.store.low ∧ (applyChange c s).store.mem = s.store.mem ∧
    (applyChange c s).store.sealCounter = s.store.sealCounter ∧ (applyChange c s).mc = s.mc ∧
    (applyChange c s).slots.length = s.slots.length ∧ (applyChange c s).meas = s.meas ∧
    (applyChange c s).render.completed = s.render.completed ∧ (applyChange c s).render.cursorA = s.render.cursorA ∧
    (applyChange c s).render.cursorB = s.render.cursorB ∧ (applyChange c s).render.divider = s.render.divider ∧
    (applyChange c s).render.drawnA = s.render.drawnA ∧ (applyChange c s).render.drawnB = s.render.drawnB ∧
    (applyChange c s).render.layout = s.render.layout ∧ (applyChange c s).render.liveCount = s.render.liveCount ∧
    (applyChange c s).render.palette = s.render.palette ∧ (applyChange c s).render.trace = s.render.trace ∧
    (applyChange c s).render.view = s.render.view ∧ (applyChange c s).panel.bus = s.panel.bus ∧
    (applyChange c s).panel.changes = s.panel.changes ∧ (applyChange c s).panel.dormantSleep = s.panel.dormantSleep ∧
    (applyChange c s).panel.emission = s.panel.emission ∧ (applyChange c s).panel.handOff = s.panel.handOff ∧
    (applyChange c s).panel.out = s.panel.out ∧ (applyChange c s).panel.setup = s.panel.setup ∧
    (applyChange c s).panel.st = s.panel.st ∧ (applyChange c s).panel.teMissing = s.panel.teMissing ∧
    (applyChange c s).panel.teTimer = s.panel.teTimer ∧ (applyChange c s).panel.torn = s.panel.torn ∧
    (applyChange c s).panel.waiting = s.panel.waiting ∧ (applyChange c s).ports.claim = s.ports.claim ∧
    (applyChange c s).ports.con.levels = s.ports.con.levels ∧ (applyChange c s).ports.conOut = s.ports.conOut ∧
    (applyChange c s).ports.link = s.ports.link ∧ (applyChange c s).ports.outFrame = s.ports.outFrame ∧
    (applyChange c s).ports.remoteWake = s.ports.remoteWake ∧
    (applyChange c s).ports.teth.levels = s.ports.teth.levels ∧ (applyChange c s).ports.tethOut = s.ports.tethOut ∧
    (applyChange c s).ports.vbus = s.ports.vbus ∧ (applyChange c s).power = s.power ∧
    (applyChange c s).pending = s.pending := by
  unfold applyChange <;> (try dsimp only) <;> (repeat' split) <;> simp

@[simp] theorem applyChanges_frame  (l : List OverlayChange) (s : State) :
    (applyChanges  l s).fe = s.fe ∧ (applyChanges  l s).comp = s.comp ∧
    (applyChanges  l s).tap.gapOpen = s.tap.gapOpen ∧ (applyChanges  l s).writer = s.writer ∧
    (applyChanges  l s).seq = s.seq ∧ (applyChanges  l s).store.available = s.store.available ∧
    (applyChanges  l s).store.blocks = s.store.blocks ∧ (applyChanges  l s).store.low = s.store.low ∧
    (applyChanges  l s).store.mem = s.store.mem ∧ (applyChanges  l s).store.sealCounter = s.store.sealCounter ∧
    (applyChanges  l s).mc = s.mc ∧ (applyChanges  l s).slots.length = s.slots.length ∧
    (applyChanges  l s).meas = s.meas ∧ (applyChanges  l s).render.completed = s.render.completed ∧
    (applyChanges  l s).render.cursorA = s.render.cursorA ∧ (applyChanges  l s).render.cursorB = s.render.cursorB ∧
    (applyChanges  l s).render.divider = s.render.divider ∧ (applyChanges  l s).render.drawnA = s.render.drawnA ∧
    (applyChanges  l s).render.drawnB = s.render.drawnB ∧ (applyChanges  l s).render.layout = s.render.layout ∧
    (applyChanges  l s).render.liveCount = s.render.liveCount ∧
    (applyChanges  l s).render.palette = s.render.palette ∧ (applyChanges  l s).render.trace = s.render.trace ∧
    (applyChanges  l s).render.view = s.render.view ∧ (applyChanges  l s).panel.bus = s.panel.bus ∧
    (applyChanges  l s).panel.changes = s.panel.changes ∧
    (applyChanges  l s).panel.dormantSleep = s.panel.dormantSleep ∧
    (applyChanges  l s).panel.emission = s.panel.emission ∧ (applyChanges  l s).panel.handOff = s.panel.handOff ∧
    (applyChanges  l s).panel.out = s.panel.out ∧ (applyChanges  l s).panel.setup = s.panel.setup ∧
    (applyChanges  l s).panel.st = s.panel.st ∧ (applyChanges  l s).panel.teMissing = s.panel.teMissing ∧
    (applyChanges  l s).panel.teTimer = s.panel.teTimer ∧ (applyChanges  l s).panel.torn = s.panel.torn ∧
    (applyChanges  l s).panel.waiting = s.panel.waiting ∧ (applyChanges  l s).ports.claim = s.ports.claim ∧
    (applyChanges  l s).ports.con.levels = s.ports.con.levels ∧ (applyChanges  l s).ports.conOut = s.ports.conOut ∧
    (applyChanges  l s).ports.link = s.ports.link ∧ (applyChanges  l s).ports.outFrame = s.ports.outFrame ∧
    (applyChanges  l s).ports.remoteWake = s.ports.remoteWake ∧
    (applyChanges  l s).ports.teth.levels = s.ports.teth.levels ∧
    (applyChanges  l s).ports.tethOut = s.ports.tethOut ∧ (applyChanges  l s).ports.vbus = s.ports.vbus ∧
    (applyChanges  l s).power = s.power ∧ (applyChanges  l s).pending = s.pending := by
  induction l generalizing s with
  | nil => simp [applyChanges]
  | cons _ _ ih => simp [applyChanges, ih]

@[simp] theorem beginEmission_frame (s : State) :
    (beginEmission s).fe = s.fe ∧ (beginEmission s).comp = s.comp ∧ (beginEmission s).tap = s.tap ∧
    (beginEmission s).writer = s.writer ∧ (beginEmission s).seq = s.seq ∧ (beginEmission s).store = s.store ∧
    (beginEmission s).mc = s.mc ∧ (beginEmission s).slots = s.slots ∧ (beginEmission s).notes = s.notes ∧
    (beginEmission s).meas = s.meas ∧ (beginEmission s).render = s.render ∧
    (beginEmission s).panel.bus = s.panel.bus ∧ (beginEmission s).panel.changes = s.panel.changes ∧
    (beginEmission s).panel.dormantSleep = s.panel.dormantSleep ∧ (beginEmission s).panel.handOff = s.panel.handOff ∧
    (beginEmission s).panel.out = s.panel.out ∧ (beginEmission s).panel.overlays = s.panel.overlays ∧
    (beginEmission s).panel.queue = s.panel.queue ∧ (beginEmission s).panel.setup = s.panel.setup ∧
    (beginEmission s).panel.st = s.panel.st ∧ (beginEmission s).panel.teMissing = s.panel.teMissing ∧
    (beginEmission s).panel.teTimer = s.panel.teTimer ∧ (beginEmission s).panel.torn = s.panel.torn ∧
    (beginEmission s).panel.waiting = s.panel.waiting ∧ (beginEmission s).ports = s.ports ∧
    (beginEmission s).power = s.power ∧ (beginEmission s).free = s.free ∧ (beginEmission s).pending = s.pending := by
  unfold beginEmission <;> (try dsimp only) <;> (repeat' split) <;> simp

@[simp] theorem startBand_frame (s : State) :
    (startBand s).fe = s.fe ∧ (startBand s).comp = s.comp ∧ (startBand s).tap.gapOpen = s.tap.gapOpen ∧
    (startBand s).writer = s.writer ∧ (startBand s).seq = s.seq ∧ (startBand s).store.available = s.store.available ∧
    (startBand s).store.blocks = s.store.blocks ∧ (startBand s).store.low = s.store.low ∧
    (startBand s).store.mem = s.store.mem ∧ (startBand s).store.sealCounter = s.store.sealCounter ∧
    (startBand s).mc = s.mc ∧ (startBand s).slots.length = s.slots.length ∧ (startBand s).meas = s.meas ∧
    (startBand s).render.cursorA = s.render.cursorA ∧ (startBand s).render.cursorB = s.render.cursorB ∧
    (startBand s).render.divider = s.render.divider ∧ (startBand s).render.drawnA = s.render.drawnA ∧
    (startBand s).render.drawnB = s.render.drawnB ∧ (startBand s).render.layout = s.render.layout ∧
    (startBand s).render.liveCount = s.render.liveCount ∧ (startBand s).render.palette = s.render.palette ∧
    (startBand s).render.trace = s.render.trace ∧ (startBand s).render.view = s.render.view ∧
    (startBand s).panel.changes = s.panel.changes ∧ (startBand s).panel.dormantSleep = s.panel.dormantSleep ∧
    (startBand s).panel.overlays = s.panel.overlays ∧ (startBand s).panel.queue = s.panel.queue ∧
    (startBand s).panel.setup = s.panel.setup ∧ (startBand s).panel.st = s.panel.st ∧
    (startBand s).panel.teMissing = s.panel.teMissing ∧ (startBand s).panel.teTimer = s.panel.teTimer ∧
    (startBand s).panel.waiting = s.panel.waiting ∧ (startBand s).ports.claim = s.ports.claim ∧
    (startBand s).ports.con.levels = s.ports.con.levels ∧ (startBand s).ports.conOut = s.ports.conOut ∧
    (startBand s).ports.conReplies = s.ports.conReplies ∧ (startBand s).ports.conService = s.ports.conService ∧
    (startBand s).ports.link = s.ports.link ∧ (startBand s).ports.outFrame = s.ports.outFrame ∧
    (startBand s).ports.remoteWake = s.ports.remoteWake ∧ (startBand s).ports.teth.levels = s.ports.teth.levels ∧
    (startBand s).ports.tethOut = s.ports.tethOut ∧ (startBand s).ports.tethReplies = s.ports.tethReplies ∧
    (startBand s).ports.tethService = s.ports.tethService ∧ (startBand s).ports.vbus = s.ports.vbus ∧
    (startBand s).power = s.power ∧ (startBand s).pending = s.pending := by
  unfold startBand <;> (try dsimp only) <;> (repeat' split) <;> simp

@[simp] theorem busGrant_frame (n : Nat) (b : Bool) (s : State) :
    (busGrant n b s).fe = s.fe ∧ (busGrant n b s).comp = s.comp ∧ (busGrant n b s).tap.gapOpen = s.tap.gapOpen ∧
    (busGrant n b s).writer = s.writer ∧ (busGrant n b s).seq = s.seq ∧
    (busGrant n b s).store.available = s.store.available ∧ (busGrant n b s).store.blocks = s.store.blocks ∧
    (busGrant n b s).store.low = s.store.low ∧ (busGrant n b s).store.mem = s.store.mem ∧
    (busGrant n b s).store.sealCounter = s.store.sealCounter ∧ (busGrant n b s).mc = s.mc ∧
    (busGrant n b s).slots.length = s.slots.length ∧ (busGrant n b s).meas = s.meas ∧
    (busGrant n b s).render.cursorA = s.render.cursorA ∧ (busGrant n b s).render.cursorB = s.render.cursorB ∧
    (busGrant n b s).render.divider = s.render.divider ∧ (busGrant n b s).render.drawnA = s.render.drawnA ∧
    (busGrant n b s).render.drawnB = s.render.drawnB ∧ (busGrant n b s).render.layout = s.render.layout ∧
    (busGrant n b s).render.liveCount = s.render.liveCount ∧ (busGrant n b s).render.palette = s.render.palette ∧
    (busGrant n b s).render.trace = s.render.trace ∧ (busGrant n b s).render.view = s.render.view ∧
    (busGrant n b s).panel.changes = s.panel.changes ∧ (busGrant n b s).panel.dormantSleep = s.panel.dormantSleep ∧
    (busGrant n b s).panel.overlays = s.panel.overlays ∧ (busGrant n b s).panel.queue = s.panel.queue ∧
    (busGrant n b s).panel.setup = s.panel.setup ∧ (busGrant n b s).panel.st = s.panel.st ∧
    (busGrant n b s).panel.teMissing = s.panel.teMissing ∧ (busGrant n b s).panel.teTimer = s.panel.teTimer ∧
    (busGrant n b s).ports.claim = s.ports.claim ∧ (busGrant n b s).ports.con.levels = s.ports.con.levels ∧
    (busGrant n b s).ports.conOut = s.ports.conOut ∧ (busGrant n b s).ports.conReplies = s.ports.conReplies ∧
    (busGrant n b s).ports.conService = s.ports.conService ∧ (busGrant n b s).ports.link = s.ports.link ∧
    (busGrant n b s).ports.outFrame = s.ports.outFrame ∧ (busGrant n b s).ports.remoteWake = s.ports.remoteWake ∧
    (busGrant n b s).ports.teth.levels = s.ports.teth.levels ∧ (busGrant n b s).ports.tethOut = s.ports.tethOut ∧
    (busGrant n b s).ports.tethReplies = s.ports.tethReplies ∧
    (busGrant n b s).ports.tethService = s.ports.tethService ∧ (busGrant n b s).ports.vbus = s.ports.vbus ∧
    (busGrant n b s).power = s.power ∧ (busGrant n b s).pending = s.pending := by
  induction n generalizing s b with
  | zero => simp [busGrant]
  | succ _ ih => simp only [busGrant] <;> (repeat' split) <;> simp [ih]

@[simp] theorem busBoundary_frame (afterBand : Bool) (s : State) :
    (busBoundary afterBand s).fe = s.fe ∧ (busBoundary afterBand s).comp = s.comp ∧
    (busBoundary afterBand s).tap.gapOpen = s.tap.gapOpen ∧ (busBoundary afterBand s).writer = s.writer ∧
    (busBoundary afterBand s).seq = s.seq ∧ (busBoundary afterBand s).store.available = s.store.available ∧
    (busBoundary afterBand s).store.blocks = s.store.blocks ∧ (busBoundary afterBand s).store.low = s.store.low ∧
    (busBoundary afterBand s).store.mem = s.store.mem ∧
    (busBoundary afterBand s).store.sealCounter = s.store.sealCounter ∧ (busBoundary afterBand s).mc = s.mc ∧
    (busBoundary afterBand s).slots.length = s.slots.length ∧ (busBoundary afterBand s).meas = s.meas ∧
    (busBoundary afterBand s).render.cursorA = s.render.cursorA ∧
    (busBoundary afterBand s).render.cursorB = s.render.cursorB ∧
    (busBoundary afterBand s).render.divider = s.render.divider ∧
    (busBoundary afterBand s).render.drawnA = s.render.drawnA ∧
    (busBoundary afterBand s).render.drawnB = s.render.drawnB ∧
    (busBoundary afterBand s).render.layout = s.render.layout ∧
    (busBoundary afterBand s).render.liveCount = s.render.liveCount ∧
    (busBoundary afterBand s).render.palette = s.render.palette ∧
    (busBoundary afterBand s).render.trace = s.render.trace ∧ (busBoundary afterBand s).render.view = s.render.view ∧
    (busBoundary afterBand s).panel.dormantSleep = s.panel.dormantSleep ∧
    (busBoundary afterBand s).panel.setup = s.panel.setup ∧ (busBoundary afterBand s).panel.st = s.panel.st ∧
    (busBoundary afterBand s).panel.teMissing = s.panel.teMissing ∧
    (busBoundary afterBand s).panel.teTimer = s.panel.teTimer ∧
    (busBoundary afterBand s).ports.claim = s.ports.claim ∧
    (busBoundary afterBand s).ports.con.levels = s.ports.con.levels ∧
    (busBoundary afterBand s).ports.conOut = s.ports.conOut ∧ (busBoundary afterBand s).ports.link = s.ports.link ∧
    (busBoundary afterBand s).ports.outFrame = s.ports.outFrame ∧
    (busBoundary afterBand s).ports.remoteWake = s.ports.remoteWake ∧
    (busBoundary afterBand s).ports.teth.levels = s.ports.teth.levels ∧
    (busBoundary afterBand s).ports.tethOut = s.ports.tethOut ∧ (busBoundary afterBand s).ports.vbus = s.ports.vbus ∧
    (busBoundary afterBand s).power = s.power ∧ (busBoundary afterBand s).pending = s.pending := by
  unfold busBoundary <;> (try dsimp only) <;> (repeat' split) <;> simp

@[simp] theorem pokeBus_frame (s : State) :
    (pokeBus s).fe = s.fe ∧ (pokeBus s).comp = s.comp ∧ (pokeBus s).tap.gapOpen = s.tap.gapOpen ∧
    (pokeBus s).writer = s.writer ∧ (pokeBus s).seq = s.seq ∧ (pokeBus s).store.available = s.store.available ∧
    (pokeBus s).store.blocks = s.store.blocks ∧ (pokeBus s).store.low = s.store.low ∧
    (pokeBus s).store.mem = s.store.mem ∧ (pokeBus s).store.sealCounter = s.store.sealCounter ∧
    (pokeBus s).mc = s.mc ∧ (pokeBus s).slots.length = s.slots.length ∧ (pokeBus s).meas = s.meas ∧
    (pokeBus s).render.cursorA = s.render.cursorA ∧ (pokeBus s).render.cursorB = s.render.cursorB ∧
    (pokeBus s).render.divider = s.render.divider ∧ (pokeBus s).render.drawnA = s.render.drawnA ∧
    (pokeBus s).render.drawnB = s.render.drawnB ∧ (pokeBus s).render.layout = s.render.layout ∧
    (pokeBus s).render.liveCount = s.render.liveCount ∧ (pokeBus s).render.palette = s.render.palette ∧
    (pokeBus s).render.trace = s.render.trace ∧ (pokeBus s).render.view = s.render.view ∧
    (pokeBus s).panel.dormantSleep = s.panel.dormantSleep ∧ (pokeBus s).panel.setup = s.panel.setup ∧
    (pokeBus s).panel.st = s.panel.st ∧ (pokeBus s).panel.teMissing = s.panel.teMissing ∧
    (pokeBus s).panel.teTimer = s.panel.teTimer ∧ (pokeBus s).ports.claim = s.ports.claim ∧
    (pokeBus s).ports.con.levels = s.ports.con.levels ∧ (pokeBus s).ports.conOut = s.ports.conOut ∧
    (pokeBus s).ports.link = s.ports.link ∧ (pokeBus s).ports.outFrame = s.ports.outFrame ∧
    (pokeBus s).ports.remoteWake = s.ports.remoteWake ∧ (pokeBus s).ports.teth.levels = s.ports.teth.levels ∧
    (pokeBus s).ports.tethOut = s.ports.tethOut ∧ (pokeBus s).ports.vbus = s.ports.vbus ∧
    (pokeBus s).power = s.power ∧ (pokeBus s).pending = s.pending := by
  unfold pokeBus <;> (try dsimp only) <;> (repeat' split) <;> simp

@[simp] theorem busEnds_frame (afterBand : Bool) (s : State) :
    (busEnds afterBand s).fe = s.fe ∧ (busEnds afterBand s).comp = s.comp ∧
    (busEnds afterBand s).tap.gapOpen = s.tap.gapOpen ∧ (busEnds afterBand s).writer = s.writer ∧
    (busEnds afterBand s).seq = s.seq ∧ (busEnds afterBand s).store.available = s.store.available ∧
    (busEnds afterBand s).store.blocks = s.store.blocks ∧ (busEnds afterBand s).store.low = s.store.low ∧
    (busEnds afterBand s).store.mem = s.store.mem ∧ (busEnds afterBand s).store.sealCounter = s.store.sealCounter ∧
    (busEnds afterBand s).mc = s.mc ∧ (busEnds afterBand s).slots.length = s.slots.length ∧
    (busEnds afterBand s).meas = s.meas ∧ (busEnds afterBand s).render.cursorA = s.render.cursorA ∧
    (busEnds afterBand s).render.cursorB = s.render.cursorB ∧
    (busEnds afterBand s).render.divider = s.render.divider ∧ (busEnds afterBand s).render.drawnA = s.render.drawnA ∧
    (busEnds afterBand s).render.drawnB = s.render.drawnB ∧ (busEnds afterBand s).render.layout = s.render.layout ∧
    (busEnds afterBand s).render.liveCount = s.render.liveCount ∧
    (busEnds afterBand s).render.palette = s.render.palette ∧ (busEnds afterBand s).render.trace = s.render.trace ∧
    (busEnds afterBand s).render.view = s.render.view ∧
    (busEnds afterBand s).panel.dormantSleep = s.panel.dormantSleep ∧
    (busEnds afterBand s).panel.setup = s.panel.setup ∧ (busEnds afterBand s).panel.st = s.panel.st ∧
    (busEnds afterBand s).panel.teMissing = s.panel.teMissing ∧
    (busEnds afterBand s).panel.teTimer = s.panel.teTimer ∧ (busEnds afterBand s).ports.claim = s.ports.claim ∧
    (busEnds afterBand s).ports.con.levels = s.ports.con.levels ∧
    (busEnds afterBand s).ports.conOut = s.ports.conOut ∧ (busEnds afterBand s).ports.link = s.ports.link ∧
    (busEnds afterBand s).ports.outFrame = s.ports.outFrame ∧
    (busEnds afterBand s).ports.remoteWake = s.ports.remoteWake ∧
    (busEnds afterBand s).ports.teth.levels = s.ports.teth.levels ∧
    (busEnds afterBand s).ports.tethOut = s.ports.tethOut ∧ (busEnds afterBand s).ports.vbus = s.ports.vbus ∧
    (busEnds afterBand s).power = s.power ∧ (busEnds afterBand s).pending = s.pending := by
  simp [busEnds]

@[simp] theorem handOffFrame_frame (s : State) :
    (handOffFrame s).fe = s.fe ∧ (handOffFrame s).comp = s.comp ∧ (handOffFrame s).tap.gapOpen = s.tap.gapOpen ∧
    (handOffFrame s).writer = s.writer ∧ (handOffFrame s).seq = s.seq ∧
    (handOffFrame s).store.available = s.store.available ∧ (handOffFrame s).store.blocks = s.store.blocks ∧
    (handOffFrame s).store.low = s.store.low ∧ (handOffFrame s).store.mem = s.store.mem ∧
    (handOffFrame s).store.sealCounter = s.store.sealCounter ∧ (handOffFrame s).mc = s.mc ∧
    (handOffFrame s).slots.length = s.slots.length ∧ (handOffFrame s).meas = s.meas ∧
    (handOffFrame s).render.cursorA = s.render.cursorA ∧ (handOffFrame s).render.cursorB = s.render.cursorB ∧
    (handOffFrame s).render.divider = s.render.divider ∧ (handOffFrame s).render.drawnA = s.render.drawnA ∧
    (handOffFrame s).render.drawnB = s.render.drawnB ∧ (handOffFrame s).render.layout = s.render.layout ∧
    (handOffFrame s).render.liveCount = s.render.liveCount ∧ (handOffFrame s).render.palette = s.render.palette ∧
    (handOffFrame s).render.trace = s.render.trace ∧ (handOffFrame s).render.view = s.render.view ∧
    (handOffFrame s).panel.dormantSleep = s.panel.dormantSleep ∧ (handOffFrame s).panel.setup = s.panel.setup ∧
    (handOffFrame s).panel.st = s.panel.st ∧ (handOffFrame s).panel.teMissing = s.panel.teMissing ∧
    (handOffFrame s).panel.teTimer = s.panel.teTimer ∧ (handOffFrame s).ports.claim = s.ports.claim ∧
    (handOffFrame s).ports.con.levels = s.ports.con.levels ∧ (handOffFrame s).ports.conOut = s.ports.conOut ∧
    (handOffFrame s).ports.link = s.ports.link ∧ (handOffFrame s).ports.outFrame = s.ports.outFrame ∧
    (handOffFrame s).ports.remoteWake = s.ports.remoteWake ∧
    (handOffFrame s).ports.teth.levels = s.ports.teth.levels ∧ (handOffFrame s).ports.tethOut = s.ports.tethOut ∧
    (handOffFrame s).ports.vbus = s.ports.vbus ∧ (handOffFrame s).power = s.power ∧
    (handOffFrame s).pending = s.pending := by
  unfold handOffFrame <;> (try dsimp only) <;> (repeat' split) <;> simp

@[simp] theorem startTeWatch_frame (s : State) :
    (startTeWatch s).fe = s.fe ∧ (startTeWatch s).comp = s.comp ∧ (startTeWatch s).tap = s.tap ∧
    (startTeWatch s).writer = s.writer ∧ (startTeWatch s).seq = s.seq ∧ (startTeWatch s).store = s.store ∧
    (startTeWatch s).mc = s.mc ∧ (startTeWatch s).slots = s.slots ∧ (startTeWatch s).notes = s.notes ∧
    (startTeWatch s).meas = s.meas ∧ (startTeWatch s).render = s.render ∧ (startTeWatch s).panel.bus = s.panel.bus ∧
    (startTeWatch s).panel.changes = s.panel.changes ∧ (startTeWatch s).panel.dormantSleep = s.panel.dormantSleep ∧
    (startTeWatch s).panel.emission = s.panel.emission ∧ (startTeWatch s).panel.handOff = s.panel.handOff ∧
    (startTeWatch s).panel.out = s.panel.out ∧ (startTeWatch s).panel.overlays = s.panel.overlays ∧
    (startTeWatch s).panel.queue = s.panel.queue ∧ (startTeWatch s).panel.setup = s.panel.setup ∧
    (startTeWatch s).panel.st = s.panel.st ∧ (startTeWatch s).panel.teMissing = s.panel.teMissing ∧
    (startTeWatch s).panel.torn = s.panel.torn ∧ (startTeWatch s).panel.waiting = s.panel.waiting ∧
    (startTeWatch s).ports = s.ports ∧ (startTeWatch s).power = s.power ∧ (startTeWatch s).free = s.free ∧
    (startTeWatch s).pending = s.pending := by
  simp [startTeWatch]

@[simp] theorem reachShowing_frame (s : State) :
    (reachShowing s).fe = s.fe ∧ (reachShowing s).comp = s.comp ∧ (reachShowing s).tap.gapOpen = s.tap.gapOpen ∧
    (reachShowing s).writer = s.writer ∧ (reachShowing s).seq = s.seq ∧
    (reachShowing s).store.available = s.store.available ∧ (reachShowing s).store.blocks = s.store.blocks ∧
    (reachShowing s).store.low = s.store.low ∧ (reachShowing s).store.mem = s.store.mem ∧
    (reachShowing s).store.sealCounter = s.store.sealCounter ∧ (reachShowing s).mc = s.mc ∧
    (reachShowing s).slots.length = s.slots.length ∧ (reachShowing s).meas = s.meas ∧
    (reachShowing s).render.completed = s.render.completed ∧ (reachShowing s).render.cursorA = s.render.cursorA ∧
    (reachShowing s).render.cursorB = s.render.cursorB ∧ (reachShowing s).render.divider = s.render.divider ∧
    (reachShowing s).render.drawnA = s.render.drawnA ∧ (reachShowing s).render.drawnB = s.render.drawnB ∧
    (reachShowing s).render.layout = s.render.layout ∧ (reachShowing s).render.liveCount = s.render.liveCount ∧
    (reachShowing s).render.palette = s.render.palette ∧ (reachShowing s).render.trace = s.render.trace ∧
    (reachShowing s).render.view = s.render.view ∧ (reachShowing s).panel.bus = s.panel.bus ∧
    (reachShowing s).panel.changes = s.panel.changes ∧ (reachShowing s).panel.dormantSleep = s.panel.dormantSleep ∧
    (reachShowing s).panel.emission = s.panel.emission ∧ (reachShowing s).panel.handOff = s.panel.handOff ∧
    (reachShowing s).panel.out = s.panel.out ∧ (reachShowing s).panel.setup = s.panel.setup ∧
    (reachShowing s).panel.teMissing = s.panel.teMissing ∧ (reachShowing s).panel.torn = s.panel.torn ∧
    (reachShowing s).panel.waiting = s.panel.waiting ∧ (reachShowing s).ports.claim = s.ports.claim ∧
    (reachShowing s).ports.con.levels = s.ports.con.levels ∧ (reachShowing s).ports.conOut = s.ports.conOut ∧
    (reachShowing s).ports.conReplies = s.ports.conReplies ∧ (reachShowing s).ports.conService = s.ports.conService ∧
    (reachShowing s).ports.link = s.ports.link ∧ (reachShowing s).ports.outFrame = s.ports.outFrame ∧
    (reachShowing s).ports.remoteWake = s.ports.remoteWake ∧
    (reachShowing s).ports.teth.levels = s.ports.teth.levels ∧ (reachShowing s).ports.tethOut = s.ports.tethOut ∧
    (reachShowing s).ports.tethReplies = s.ports.tethReplies ∧
    (reachShowing s).ports.tethService = s.ports.tethService ∧ (reachShowing s).ports.vbus = s.ports.vbus ∧
    (reachShowing s).power = s.power ∧ (reachShowing s).pending = s.pending := by
  unfold reachShowing <;> (try dsimp only) <;> (repeat' split) <;> simp

@[simp] theorem queueOff_frame (s : State) :
    (queueOff s).fe = s.fe ∧ (queueOff s).comp = s.comp ∧ (queueOff s).tap.gapOpen = s.tap.gapOpen ∧
    (queueOff s).writer = s.writer ∧ (queueOff s).seq = s.seq ∧ (queueOff s).store.available = s.store.available ∧
    (queueOff s).store.blocks = s.store.blocks ∧ (queueOff s).store.low = s.store.low ∧
    (queueOff s).store.mem = s.store.mem ∧ (queueOff s).store.sealCounter = s.store.sealCounter ∧
    (queueOff s).mc = s.mc ∧ (queueOff s).slots.length = s.slots.length ∧ (queueOff s).meas = s.meas ∧
    (queueOff s).render.cursorA = s.render.cursorA ∧ (queueOff s).render.cursorB = s.render.cursorB ∧
    (queueOff s).render.divider = s.render.divider ∧ (queueOff s).render.drawnA = s.render.drawnA ∧
    (queueOff s).render.drawnB = s.render.drawnB ∧ (queueOff s).render.layout = s.render.layout ∧
    (queueOff s).render.liveCount = s.render.liveCount ∧ (queueOff s).render.palette = s.render.palette ∧
    (queueOff s).render.trace = s.render.trace ∧ (queueOff s).render.view = s.render.view ∧
    (queueOff s).ports.claim = s.ports.claim ∧ (queueOff s).ports.con.levels = s.ports.con.levels ∧
    (queueOff s).ports.conOut = s.ports.conOut ∧ (queueOff s).ports.link = s.ports.link ∧
    (queueOff s).ports.outFrame = s.ports.outFrame ∧ (queueOff s).ports.remoteWake = s.ports.remoteWake ∧
    (queueOff s).ports.teth.levels = s.ports.teth.levels ∧ (queueOff s).ports.tethOut = s.ports.tethOut ∧
    (queueOff s).ports.vbus = s.ports.vbus ∧ (queueOff s).power = s.power ∧ (queueOff s).pending = s.pending := by
  simp [queueOff]

@[simp] theorem turnOff_frame (s : State) :
    (turnOff s).fe = s.fe ∧ (turnOff s).comp = s.comp ∧ (turnOff s).tap.gapOpen = s.tap.gapOpen ∧
    (turnOff s).writer = s.writer ∧ (turnOff s).seq = s.seq ∧ (turnOff s).store.available = s.store.available ∧
    (turnOff s).store.blocks = s.store.blocks ∧ (turnOff s).store.low = s.store.low ∧
    (turnOff s).store.mem = s.store.mem ∧ (turnOff s).store.sealCounter = s.store.sealCounter ∧
    (turnOff s).mc = s.mc ∧ (turnOff s).slots.length = s.slots.length ∧ (turnOff s).meas = s.meas ∧
    (turnOff s).render.cursorA = s.render.cursorA ∧ (turnOff s).render.cursorB = s.render.cursorB ∧
    (turnOff s).render.divider = s.render.divider ∧ (turnOff s).render.drawnA = s.render.drawnA ∧
    (turnOff s).render.drawnB = s.render.drawnB ∧ (turnOff s).render.layout = s.render.layout ∧
    (turnOff s).render.liveCount = s.render.liveCount ∧ (turnOff s).render.palette = s.render.palette ∧
    (turnOff s).render.trace = s.render.trace ∧ (turnOff s).render.view = s.render.view ∧
    (turnOff s).ports.claim = s.ports.claim ∧ (turnOff s).ports.con.levels = s.ports.con.levels ∧
    (turnOff s).ports.conOut = s.ports.conOut ∧ (turnOff s).ports.link = s.ports.link ∧
    (turnOff s).ports.outFrame = s.ports.outFrame ∧ (turnOff s).ports.remoteWake = s.ports.remoteWake ∧
    (turnOff s).ports.teth.levels = s.ports.teth.levels ∧ (turnOff s).ports.tethOut = s.ports.tethOut ∧
    (turnOff s).ports.vbus = s.ports.vbus ∧ (turnOff s).power = s.power ∧ (turnOff s).pending = s.pending := by
  unfold turnOff <;> (try dsimp only) <;> (repeat' split) <;> simp

@[simp] theorem sleepPanel_frame (dormant : Bool) (s : State) :
    (sleepPanel dormant s).fe = s.fe ∧ (sleepPanel dormant s).comp = s.comp ∧
    (sleepPanel dormant s).tap.gapOpen = s.tap.gapOpen ∧ (sleepPanel dormant s).writer = s.writer ∧
    (sleepPanel dormant s).seq = s.seq ∧ (sleepPanel dormant s).store.available = s.store.available ∧
    (sleepPanel dormant s).store.blocks = s.store.blocks ∧ (sleepPanel dormant s).store.low = s.store.low ∧
    (sleepPanel dormant s).store.mem = s.store.mem ∧ (sleepPanel dormant s).store.sealCounter = s.store.sealCounter ∧
    (sleepPanel dormant s).mc = s.mc ∧ (sleepPanel dormant s).slots.length = s.slots.length ∧
    (sleepPanel dormant s).meas = s.meas ∧ (sleepPanel dormant s).render.cursorA = s.render.cursorA ∧
    (sleepPanel dormant s).render.cursorB = s.render.cursorB ∧
    (sleepPanel dormant s).render.divider = s.render.divider ∧
    (sleepPanel dormant s).render.drawnA = s.render.drawnA ∧ (sleepPanel dormant s).render.drawnB = s.render.drawnB ∧
    (sleepPanel dormant s).render.layout = s.render.layout ∧
    (sleepPanel dormant s).render.liveCount = s.render.liveCount ∧
    (sleepPanel dormant s).render.palette = s.render.palette ∧ (sleepPanel dormant s).render.trace = s.render.trace ∧
    (sleepPanel dormant s).render.view = s.render.view ∧ (sleepPanel dormant s).ports.claim = s.ports.claim ∧
    (sleepPanel dormant s).ports.con.levels = s.ports.con.levels ∧
    (sleepPanel dormant s).ports.conOut = s.ports.conOut ∧ (sleepPanel dormant s).ports.link = s.ports.link ∧
    (sleepPanel dormant s).ports.outFrame = s.ports.outFrame ∧
    (sleepPanel dormant s).ports.remoteWake = s.ports.remoteWake ∧
    (sleepPanel dormant s).ports.teth.levels = s.ports.teth.levels ∧
    (sleepPanel dormant s).ports.tethOut = s.ports.tethOut ∧ (sleepPanel dormant s).ports.vbus = s.ports.vbus ∧
    (sleepPanel dormant s).power = s.power ∧ (sleepPanel dormant s).pending = s.pending := by
  simp [sleepPanel]

@[simp] theorem wakePanel_frame (s : State) :
    (wakePanel s).fe = s.fe ∧ (wakePanel s).comp = s.comp ∧ (wakePanel s).tap.gapOpen = s.tap.gapOpen ∧
    (wakePanel s).writer = s.writer ∧ (wakePanel s).seq = s.seq ∧ (wakePanel s).store.available = s.store.available ∧
    (wakePanel s).store.blocks = s.store.blocks ∧ (wakePanel s).store.low = s.store.low ∧
    (wakePanel s).store.mem = s.store.mem ∧ (wakePanel s).store.sealCounter = s.store.sealCounter ∧
    (wakePanel s).mc = s.mc ∧ (wakePanel s).slots.length = s.slots.length ∧ (wakePanel s).meas = s.meas ∧
    (wakePanel s).render.cursorA = s.render.cursorA ∧ (wakePanel s).render.cursorB = s.render.cursorB ∧
    (wakePanel s).render.divider = s.render.divider ∧ (wakePanel s).render.drawnA = s.render.drawnA ∧
    (wakePanel s).render.drawnB = s.render.drawnB ∧ (wakePanel s).render.layout = s.render.layout ∧
    (wakePanel s).render.liveCount = s.render.liveCount ∧ (wakePanel s).render.palette = s.render.palette ∧
    (wakePanel s).render.trace = s.render.trace ∧ (wakePanel s).render.view = s.render.view ∧
    (wakePanel s).panel.dormantSleep = s.panel.dormantSleep ∧ (wakePanel s).panel.setup = s.panel.setup ∧
    (wakePanel s).panel.teMissing = s.panel.teMissing ∧ (wakePanel s).panel.teTimer = s.panel.teTimer ∧
    (wakePanel s).ports.claim = s.ports.claim ∧ (wakePanel s).ports.con.levels = s.ports.con.levels ∧
    (wakePanel s).ports.conOut = s.ports.conOut ∧ (wakePanel s).ports.link = s.ports.link ∧
    (wakePanel s).ports.outFrame = s.ports.outFrame ∧ (wakePanel s).ports.remoteWake = s.ports.remoteWake ∧
    (wakePanel s).ports.teth.levels = s.ports.teth.levels ∧ (wakePanel s).ports.tethOut = s.ports.tethOut ∧
    (wakePanel s).ports.vbus = s.ports.vbus ∧ (wakePanel s).power = s.power ∧ (wakePanel s).pending = s.pending := by
  simp [wakePanel]

@[simp] theorem sleepForEntry_frame (s : State) :
    (sleepForEntry s).fe = s.fe ∧ (sleepForEntry s).comp = s.comp ∧ (sleepForEntry s).tap.gapOpen = s.tap.gapOpen ∧
    (sleepForEntry s).writer = s.writer ∧ (sleepForEntry s).seq = s.seq ∧
    (sleepForEntry s).store.available = s.store.available ∧ (sleepForEntry s).store.blocks = s.store.blocks ∧
    (sleepForEntry s).store.low = s.store.low ∧ (sleepForEntry s).store.mem = s.store.mem ∧
    (sleepForEntry s).store.sealCounter = s.store.sealCounter ∧ (sleepForEntry s).mc = s.mc ∧
    (sleepForEntry s).slots.length = s.slots.length ∧ (sleepForEntry s).meas = s.meas ∧
    (sleepForEntry s).render.cursorA = s.render.cursorA ∧ (sleepForEntry s).render.cursorB = s.render.cursorB ∧
    (sleepForEntry s).render.divider = s.render.divider ∧ (sleepForEntry s).render.drawnA = s.render.drawnA ∧
    (sleepForEntry s).render.drawnB = s.render.drawnB ∧ (sleepForEntry s).render.layout = s.render.layout ∧
    (sleepForEntry s).render.liveCount = s.render.liveCount ∧ (sleepForEntry s).render.palette = s.render.palette ∧
    (sleepForEntry s).render.trace = s.render.trace ∧ (sleepForEntry s).render.view = s.render.view ∧
    (sleepForEntry s).ports.claim = s.ports.claim ∧ (sleepForEntry s).ports.con.levels = s.ports.con.levels ∧
    (sleepForEntry s).ports.conOut = s.ports.conOut ∧ (sleepForEntry s).ports.link = s.ports.link ∧
    (sleepForEntry s).ports.outFrame = s.ports.outFrame ∧ (sleepForEntry s).ports.remoteWake = s.ports.remoteWake ∧
    (sleepForEntry s).ports.teth.levels = s.ports.teth.levels ∧ (sleepForEntry s).ports.tethOut = s.ports.tethOut ∧
    (sleepForEntry s).ports.vbus = s.ports.vbus ∧ (sleepForEntry s).power = s.power ∧
    (sleepForEntry s).pending = s.pending := by
  unfold sleepForEntry <;> (try dsimp only) <;> (repeat' split) <;> simp

@[simp] theorem sleepForCutoff_frame (s : State) :
    (sleepForCutoff s).fe = s.fe ∧ (sleepForCutoff s).comp = s.comp ∧
    (sleepForCutoff s).tap.gapOpen = s.tap.gapOpen ∧ (sleepForCutoff s).writer = s.writer ∧
    (sleepForCutoff s).seq = s.seq ∧ (sleepForCutoff s).store.available = s.store.available ∧
    (sleepForCutoff s).store.blocks = s.store.blocks ∧ (sleepForCutoff s).store.low = s.store.low ∧
    (sleepForCutoff s).store.mem = s.store.mem ∧ (sleepForCutoff s).store.sealCounter = s.store.sealCounter ∧
    (sleepForCutoff s).mc = s.mc ∧ (sleepForCutoff s).slots.length = s.slots.length ∧
    (sleepForCutoff s).meas = s.meas ∧ (sleepForCutoff s).render.cursorA = s.render.cursorA ∧
    (sleepForCutoff s).render.cursorB = s.render.cursorB ∧ (sleepForCutoff s).render.divider = s.render.divider ∧
    (sleepForCutoff s).render.drawnA = s.render.drawnA ∧ (sleepForCutoff s).render.drawnB = s.render.drawnB ∧
    (sleepForCutoff s).render.layout = s.render.layout ∧ (sleepForCutoff s).render.liveCount = s.render.liveCount ∧
    (sleepForCutoff s).render.palette = s.render.palette ∧ (sleepForCutoff s).render.trace = s.render.trace ∧
    (sleepForCutoff s).render.view = s.render.view ∧ (sleepForCutoff s).ports.claim = s.ports.claim ∧
    (sleepForCutoff s).ports.con.levels = s.ports.con.levels ∧ (sleepForCutoff s).ports.conOut = s.ports.conOut ∧
    (sleepForCutoff s).ports.link = s.ports.link ∧ (sleepForCutoff s).ports.outFrame = s.ports.outFrame ∧
    (sleepForCutoff s).ports.remoteWake = s.ports.remoteWake ∧
    (sleepForCutoff s).ports.teth.levels = s.ports.teth.levels ∧ (sleepForCutoff s).ports.tethOut = s.ports.tethOut ∧
    (sleepForCutoff s).ports.vbus = s.ports.vbus ∧ (sleepForCutoff s).power = s.power ∧
    (sleepForCutoff s).pending = s.pending := by
  unfold sleepForCutoff <;> (try dsimp only) <;> (repeat' split) <;> simp

/-! ## Streams -/

@[simp] theorem formChunk_frame (s : State) :
    (formChunk s).fe = s.fe ∧ (formChunk s).comp = s.comp ∧ (formChunk s).tap = s.tap ∧
    (formChunk s).writer = s.writer ∧ (formChunk s).seq = s.seq ∧ (formChunk s).store = s.store ∧
    (formChunk s).mc = s.mc ∧ (formChunk s).slots = s.slots ∧ (formChunk s).notes = s.notes ∧
    (formChunk s).meas = s.meas ∧ (formChunk s).render = s.render ∧ (formChunk s).panel = s.panel ∧
    (formChunk s).power = s.power ∧ (formChunk s).free = s.free ∧ (formChunk s).pending = s.pending := by
  unfold formChunk <;> (try dsimp only) <;> (repeat' split) <;> simp

@[simp] theorem streamWords_frame (p : Port) (seg : Nat) (ws : List Word) (full tail : Bool) (s : State) :
    (streamWords p seg ws full tail s).fe = s.fe ∧ (streamWords p seg ws full tail s).comp = s.comp ∧
    (streamWords p seg ws full tail s).tap.gapOpen = s.tap.gapOpen ∧
    (streamWords p seg ws full tail s).writer = s.writer ∧ (streamWords p seg ws full tail s).seq = s.seq ∧
    (streamWords p seg ws full tail s).store.available = s.store.available ∧
    (streamWords p seg ws full tail s).store.blocks = s.store.blocks ∧
    (streamWords p seg ws full tail s).store.low = s.store.low ∧
    (streamWords p seg ws full tail s).store.mem = s.store.mem ∧
    (streamWords p seg ws full tail s).store.sealCounter = s.store.sealCounter ∧
    (streamWords p seg ws full tail s).mc = s.mc ∧ (streamWords p seg ws full tail s).slots.length = s.slots.length ∧
    (streamWords p seg ws full tail s).meas = s.meas ∧
    (streamWords p seg ws full tail s).render.again = s.render.again ∧
    (streamWords p seg ws full tail s).render.completed = s.render.completed ∧
    (streamWords p seg ws full tail s).render.cursorA = s.render.cursorA ∧
    (streamWords p seg ws full tail s).render.cursorB = s.render.cursorB ∧
    (streamWords p seg ws full tail s).render.dirty = s.render.dirty ∧
    (streamWords p seg ws full tail s).render.divider = s.render.divider ∧
    (streamWords p seg ws full tail s).render.drawnA = s.render.drawnA ∧
    (streamWords p seg ws full tail s).render.drawnB = s.render.drawnB ∧
    (streamWords p seg ws full tail s).render.frame = s.render.frame ∧
    (streamWords p seg ws full tail s).render.latch = s.render.latch ∧
    (streamWords p seg ws full tail s).render.layout = s.render.layout ∧
    (streamWords p seg ws full tail s).render.liveCount = s.render.liveCount ∧
    (streamWords p seg ws full tail s).render.palette = s.render.palette ∧
    (streamWords p seg ws full tail s).render.trace = s.render.trace ∧
    (streamWords p seg ws full tail s).render.view = s.render.view ∧
    (streamWords p seg ws full tail s).panel = s.panel ∧ (streamWords p seg ws full tail s).power = s.power ∧
    (streamWords p seg ws full tail s).pending = s.pending := by
  unfold streamWords <;> (try dsimp only) <;> (repeat' split) <;> simp

@[simp] theorem stopReading_frame (p : Port) (s : State) :
    (stopReading p s).fe = s.fe ∧ (stopReading p s).comp = s.comp ∧ (stopReading p s).tap.gapOpen = s.tap.gapOpen ∧
    (stopReading p s).writer = s.writer ∧ (stopReading p s).seq = s.seq ∧
    (stopReading p s).store.available = s.store.available ∧ (stopReading p s).store.blocks = s.store.blocks ∧
    (stopReading p s).store.low = s.store.low ∧ (stopReading p s).store.mem = s.store.mem ∧
    (stopReading p s).store.sealCounter = s.store.sealCounter ∧ (stopReading p s).mc.banks = s.mc.banks ∧
    (stopReading p s).mc.debt = s.mc.debt ∧ (stopReading p s).mc.init = s.mc.init ∧
    (stopReading p s).mc.last = s.mc.last ∧ (stopReading p s).mc.lastSlot = s.mc.lastSlot ∧
    (stopReading p s).mc.phase = s.mc.phase ∧ (stopReading p s).mc.st = s.mc.st ∧
    (stopReading p s).slots.length = s.slots.length ∧ (stopReading p s).meas = s.meas ∧
    (stopReading p s).render.again = s.render.again ∧ (stopReading p s).render.completed = s.render.completed ∧
    (stopReading p s).render.cursorA = s.render.cursorA ∧ (stopReading p s).render.cursorB = s.render.cursorB ∧
    (stopReading p s).render.dirty = s.render.dirty ∧ (stopReading p s).render.divider = s.render.divider ∧
    (stopReading p s).render.drawnA = s.render.drawnA ∧ (stopReading p s).render.drawnB = s.render.drawnB ∧
    (stopReading p s).render.frame = s.render.frame ∧ (stopReading p s).render.latch = s.render.latch ∧
    (stopReading p s).render.layout = s.render.layout ∧ (stopReading p s).render.liveCount = s.render.liveCount ∧
    (stopReading p s).render.palette = s.render.palette ∧ (stopReading p s).render.trace = s.render.trace ∧
    (stopReading p s).render.view = s.render.view ∧ (stopReading p s).panel = s.panel ∧
    (stopReading p s).ports.claim = s.ports.claim ∧ (stopReading p s).ports.con.levels = s.ports.con.levels ∧
    (stopReading p s).ports.conOut = s.ports.conOut ∧ (stopReading p s).ports.conReplies = s.ports.conReplies ∧
    (stopReading p s).ports.conService = s.ports.conService ∧ (stopReading p s).ports.link = s.ports.link ∧
    (stopReading p s).ports.outFrame = s.ports.outFrame ∧ (stopReading p s).ports.remoteWake = s.ports.remoteWake ∧
    (stopReading p s).ports.teth.levels = s.ports.teth.levels ∧ (stopReading p s).ports.tethOut = s.ports.tethOut ∧
    (stopReading p s).ports.tethReplies = s.ports.tethReplies ∧
    (stopReading p s).ports.tethService = s.ports.tethService ∧ (stopReading p s).ports.vbus = s.ports.vbus ∧
    (stopReading p s).power = s.power ∧ (stopReading p s).pending = s.pending := by
  unfold stopReading <;> (try dsimp only) <;> (repeat' split) <;> simp

@[simp] theorem cancelStream_frame (p : Port) (s : State) :
    (cancelStream p s).fe = s.fe ∧ (cancelStream p s).comp = s.comp ∧
    (cancelStream p s).tap.gapOpen = s.tap.gapOpen ∧ (cancelStream p s).writer = s.writer ∧
    (cancelStream p s).seq = s.seq ∧ (cancelStream p s).store.available = s.store.available ∧
    (cancelStream p s).store.blocks = s.store.blocks ∧ (cancelStream p s).store.low = s.store.low ∧
    (cancelStream p s).store.mem = s.store.mem ∧ (cancelStream p s).store.sealCounter = s.store.sealCounter ∧
    (cancelStream p s).mc.banks = s.mc.banks ∧ (cancelStream p s).mc.debt = s.mc.debt ∧
    (cancelStream p s).mc.init = s.mc.init ∧ (cancelStream p s).mc.last = s.mc.last ∧
    (cancelStream p s).mc.lastSlot = s.mc.lastSlot ∧ (cancelStream p s).mc.phase = s.mc.phase ∧
    (cancelStream p s).mc.st = s.mc.st ∧ (cancelStream p s).slots.length = s.slots.length ∧
    (cancelStream p s).meas = s.meas ∧ (cancelStream p s).render.again = s.render.again ∧
    (cancelStream p s).render.completed = s.render.completed ∧ (cancelStream p s).render.cursorA = s.render.cursorA ∧
    (cancelStream p s).render.cursorB = s.render.cursorB ∧ (cancelStream p s).render.dirty = s.render.dirty ∧
    (cancelStream p s).render.divider = s.render.divider ∧ (cancelStream p s).render.drawnA = s.render.drawnA ∧
    (cancelStream p s).render.drawnB = s.render.drawnB ∧ (cancelStream p s).render.frame = s.render.frame ∧
    (cancelStream p s).render.latch = s.render.latch ∧ (cancelStream p s).render.layout = s.render.layout ∧
    (cancelStream p s).render.liveCount = s.render.liveCount ∧ (cancelStream p s).render.palette = s.render.palette ∧
    (cancelStream p s).render.trace = s.render.trace ∧ (cancelStream p s).render.view = s.render.view ∧
    (cancelStream p s).panel = s.panel ∧ (cancelStream p s).power = s.power ∧
    (cancelStream p s).pending = s.pending := by
  unfold cancelStream <;> (try dsimp only) <;> (repeat' split) <;> simp

@[simp] theorem dropStream_frame (p : Port) (s : State) :
    (dropStream p s).fe = s.fe ∧ (dropStream p s).comp = s.comp ∧ (dropStream p s).tap.gapOpen = s.tap.gapOpen ∧
    (dropStream p s).writer = s.writer ∧ (dropStream p s).seq = s.seq ∧
    (dropStream p s).store.available = s.store.available ∧ (dropStream p s).store.blocks = s.store.blocks ∧
    (dropStream p s).store.low = s.store.low ∧ (dropStream p s).store.mem = s.store.mem ∧
    (dropStream p s).store.sealCounter = s.store.sealCounter ∧ (dropStream p s).mc.banks = s.mc.banks ∧
    (dropStream p s).mc.debt = s.mc.debt ∧ (dropStream p s).mc.init = s.mc.init ∧
    (dropStream p s).mc.last = s.mc.last ∧ (dropStream p s).mc.lastSlot = s.mc.lastSlot ∧
    (dropStream p s).mc.phase = s.mc.phase ∧ (dropStream p s).mc.st = s.mc.st ∧
    (dropStream p s).slots.length = s.slots.length ∧ (dropStream p s).meas = s.meas ∧
    (dropStream p s).render.again = s.render.again ∧ (dropStream p s).render.completed = s.render.completed ∧
    (dropStream p s).render.cursorA = s.render.cursorA ∧ (dropStream p s).render.cursorB = s.render.cursorB ∧
    (dropStream p s).render.dirty = s.render.dirty ∧ (dropStream p s).render.divider = s.render.divider ∧
    (dropStream p s).render.drawnA = s.render.drawnA ∧ (dropStream p s).render.drawnB = s.render.drawnB ∧
    (dropStream p s).render.frame = s.render.frame ∧ (dropStream p s).render.latch = s.render.latch ∧
    (dropStream p s).render.layout = s.render.layout ∧ (dropStream p s).render.liveCount = s.render.liveCount ∧
    (dropStream p s).render.palette = s.render.palette ∧ (dropStream p s).render.trace = s.render.trace ∧
    (dropStream p s).render.view = s.render.view ∧ (dropStream p s).panel = s.panel ∧
    (dropStream p s).power = s.power ∧ (dropStream p s).pending = s.pending := by
  simp [dropStream]

/-! ## MemoryControl -/

@[simp] theorem startRefresh_frame (s : State) :
    (startRefresh s).fe = s.fe ∧ (startRefresh s).comp = s.comp ∧ (startRefresh s).tap = s.tap ∧
    (startRefresh s).writer = s.writer ∧ (startRefresh s).seq = s.seq ∧ (startRefresh s).store = s.store ∧
    (startRefresh s).mc.banks = s.mc.banks ∧ (startRefresh s).mc.debt = s.mc.debt ∧
    (startRefresh s).mc.init = s.mc.init ∧ (startRefresh s).mc.last = s.mc.last ∧
    (startRefresh s).mc.lastSlot = s.mc.lastSlot ∧ (startRefresh s).mc.phase = s.mc.phase ∧
    (startRefresh s).mc.remainders = s.mc.remainders ∧ (startRefresh s).mc.st = s.mc.st ∧
    (startRefresh s).slots = s.slots ∧ (startRefresh s).notes = s.notes ∧ (startRefresh s).meas = s.meas ∧
    (startRefresh s).render = s.render ∧ (startRefresh s).panel = s.panel ∧ (startRefresh s).ports = s.ports ∧
    (startRefresh s).power = s.power ∧ (startRefresh s).free = s.free ∧ (startRefresh s).pending = s.pending := by
  simp [startRefresh]

@[simp] theorem grantWriter_frame (s : State) :
    (grantWriter s).fe = s.fe ∧ (grantWriter s).comp = s.comp ∧ (grantWriter s).tap = s.tap ∧
    (grantWriter s).writer = s.writer ∧ (grantWriter s).seq = s.seq ∧ (grantWriter s).store = s.store ∧
    (grantWriter s).mc.debt = s.mc.debt ∧ (grantWriter s).mc.init = s.mc.init ∧
    (grantWriter s).mc.lastSlot = s.mc.lastSlot ∧ (grantWriter s).mc.phase = s.mc.phase ∧
    (grantWriter s).mc.remainders = s.mc.remainders ∧ (grantWriter s).mc.st = s.mc.st ∧
    (grantWriter s).slots = s.slots ∧ (grantWriter s).notes = s.notes ∧ (grantWriter s).meas = s.meas ∧
    (grantWriter s).render = s.render ∧ (grantWriter s).panel = s.panel ∧ (grantWriter s).ports = s.ports ∧
    (grantWriter s).power = s.power ∧ (grantWriter s).free = s.free ∧ (grantWriter s).pending = s.pending := by
  simp [grantWriter]

@[simp] theorem startRead_frame (r : Remainder) (s : State) :
    (startRead r s).fe = s.fe ∧ (startRead r s).comp = s.comp ∧ (startRead r s).tap = s.tap ∧
    (startRead r s).writer = s.writer ∧ (startRead r s).seq = s.seq ∧ (startRead r s).store = s.store ∧
    (startRead r s).mc.debt = s.mc.debt ∧ (startRead r s).mc.init = s.mc.init ∧ (startRead r s).mc.last = s.mc.last ∧
    (startRead r s).mc.lastSlot = s.mc.lastSlot ∧ (startRead r s).mc.phase = s.mc.phase ∧
    (startRead r s).mc.remainders = s.mc.remainders ∧ (startRead r s).mc.st = s.mc.st ∧
    (startRead r s).slots = s.slots ∧ (startRead r s).notes = s.notes ∧ (startRead r s).meas = s.meas ∧
    (startRead r s).render = s.render ∧ (startRead r s).panel = s.panel ∧ (startRead r s).ports = s.ports ∧
    (startRead r s).power = s.power ∧ (startRead r s).free = s.free ∧ (startRead r s).pending = s.pending := by
  simp [startRead]

@[simp] theorem answerTrimmed_frame (q : Requester) (s : State) :
    (answerTrimmed q s).fe = s.fe ∧ (answerTrimmed q s).comp = s.comp ∧ (answerTrimmed q s).tap = s.tap ∧
    (answerTrimmed q s).writer = s.writer ∧ (answerTrimmed q s).seq = s.seq ∧ (answerTrimmed q s).store = s.store ∧
    (answerTrimmed q s).mc = s.mc ∧ (answerTrimmed q s).slots = s.slots ∧ (answerTrimmed q s).notes = s.notes ∧
    (answerTrimmed q s).render.again = s.render.again ∧ (answerTrimmed q s).render.completed = s.render.completed ∧
    (answerTrimmed q s).render.cursorA = s.render.cursorA ∧ (answerTrimmed q s).render.cursorB = s.render.cursorB ∧
    (answerTrimmed q s).render.dirty = s.render.dirty ∧ (answerTrimmed q s).render.divider = s.render.divider ∧
    (answerTrimmed q s).render.drawnA = s.render.drawnA ∧ (answerTrimmed q s).render.drawnB = s.render.drawnB ∧
    (answerTrimmed q s).render.frame = s.render.frame ∧ (answerTrimmed q s).render.latch = s.render.latch ∧
    (answerTrimmed q s).render.layout = s.render.layout ∧ (answerTrimmed q s).render.liveCount = s.render.liveCount ∧
    (answerTrimmed q s).render.palette = s.render.palette ∧ (answerTrimmed q s).render.trace = s.render.trace ∧
    (answerTrimmed q s).render.view = s.render.view ∧ (answerTrimmed q s).panel = s.panel ∧
    (answerTrimmed q s).ports = s.ports ∧ (answerTrimmed q s).power = s.power ∧ (answerTrimmed q s).free = s.free ∧
    (answerTrimmed q s).pending = s.pending := by
  unfold answerTrimmed <;> (try dsimp only) <;> (repeat' split) <;> simp

@[simp] theorem locate_frame (q : Requester) (s : State) :
    (locate q s).fe = s.fe ∧ (locate q s).comp = s.comp ∧ (locate q s).tap = s.tap ∧ (locate q s).writer = s.writer ∧
    (locate q s).seq = s.seq ∧ (locate q s).store = s.store ∧ (locate q s).mc = s.mc ∧ (locate q s).slots = s.slots ∧
    (locate q s).notes = s.notes ∧ (locate q s).meas.a = s.meas.a ∧ (locate q s).meas.b = s.meas.b ∧
    (locate q s).meas.edges = s.meas.edges ∧ (locate q s).meas.high = s.meas.high ∧
    (locate q s).meas.mask = s.meas.mask ∧ (locate q s).meas.port = s.meas.port ∧
    (locate q s).meas.result = s.meas.result ∧ (locate q s).meas.seg = s.meas.seg ∧
    (locate q s).meas.st = s.meas.st ∧ (locate q s).render.again = s.render.again ∧
    (locate q s).render.completed = s.render.completed ∧ (locate q s).render.cursorA = s.render.cursorA ∧
    (locate q s).render.cursorB = s.render.cursorB ∧ (locate q s).render.dirty = s.render.dirty ∧
    (locate q s).render.divider = s.render.divider ∧ (locate q s).render.drawnA = s.render.drawnA ∧
    (locate q s).render.drawnB = s.render.drawnB ∧ (locate q s).render.frame = s.render.frame ∧
    (locate q s).render.latch = s.render.latch ∧ (locate q s).render.layout = s.render.layout ∧
    (locate q s).render.liveCount = s.render.liveCount ∧ (locate q s).render.palette = s.render.palette ∧
    (locate q s).render.trace = s.render.trace ∧ (locate q s).render.view = s.render.view ∧
    (locate q s).panel = s.panel ∧ (locate q s).ports = s.ports ∧ (locate q s).power = s.power ∧
    (locate q s).free = s.free ∧ (locate q s).pending = s.pending := by
  unfold locate <;> (try dsimp only) <;> (repeat' split) <;> simp

@[simp] theorem grantRead_frame (q : Requester) (s : State) :
    (grantRead q s).fe = s.fe ∧ (grantRead q s).comp = s.comp ∧ (grantRead q s).tap = s.tap ∧
    (grantRead q s).writer = s.writer ∧ (grantRead q s).seq = s.seq ∧ (grantRead q s).store = s.store ∧
    (grantRead q s).mc.debt = s.mc.debt ∧ (grantRead q s).mc.init = s.mc.init ∧
    (grantRead q s).mc.phase = s.mc.phase ∧ (grantRead q s).mc.st = s.mc.st ∧ (grantRead q s).slots = s.slots ∧
    (grantRead q s).notes = s.notes ∧ (grantRead q s).render.again = s.render.again ∧
    (grantRead q s).render.completed = s.render.completed ∧ (grantRead q s).render.cursorA = s.render.cursorA ∧
    (grantRead q s).render.cursorB = s.render.cursorB ∧ (grantRead q s).render.dirty = s.render.dirty ∧
    (grantRead q s).render.divider = s.render.divider ∧ (grantRead q s).render.drawnA = s.render.drawnA ∧
    (grantRead q s).render.drawnB = s.render.drawnB ∧ (grantRead q s).render.frame = s.render.frame ∧
    (grantRead q s).render.latch = s.render.latch ∧ (grantRead q s).render.layout = s.render.layout ∧
    (grantRead q s).render.liveCount = s.render.liveCount ∧ (grantRead q s).render.palette = s.render.palette ∧
    (grantRead q s).render.trace = s.render.trace ∧ (grantRead q s).render.view = s.render.view ∧
    (grantRead q s).panel = s.panel ∧ (grantRead q s).ports = s.ports ∧ (grantRead q s).power = s.power ∧
    (grantRead q s).free = s.free ∧ (grantRead q s).pending = s.pending := by
  unfold grantRead <;> (try dsimp only) <;> (repeat' split) <;> simp

@[simp] theorem grant_frame (q : Requester) (s : State) :
    (grant q s).fe = s.fe ∧ (grant q s).comp = s.comp ∧ (grant q s).tap = s.tap ∧ (grant q s).writer = s.writer ∧
    (grant q s).seq = s.seq ∧ (grant q s).store = s.store ∧ (grant q s).mc.debt = s.mc.debt ∧
    (grant q s).mc.init = s.mc.init ∧ (grant q s).mc.phase = s.mc.phase ∧ (grant q s).mc.st = s.mc.st ∧
    (grant q s).slots = s.slots ∧ (grant q s).notes = s.notes ∧ (grant q s).render.again = s.render.again ∧
    (grant q s).render.completed = s.render.completed ∧ (grant q s).render.cursorA = s.render.cursorA ∧
    (grant q s).render.cursorB = s.render.cursorB ∧ (grant q s).render.dirty = s.render.dirty ∧
    (grant q s).render.divider = s.render.divider ∧ (grant q s).render.drawnA = s.render.drawnA ∧
    (grant q s).render.drawnB = s.render.drawnB ∧ (grant q s).render.frame = s.render.frame ∧
    (grant q s).render.latch = s.render.latch ∧ (grant q s).render.layout = s.render.layout ∧
    (grant q s).render.liveCount = s.render.liveCount ∧ (grant q s).render.palette = s.render.palette ∧
    (grant q s).render.trace = s.render.trace ∧ (grant q s).render.view = s.render.view ∧
    (grant q s).panel = s.panel ∧ (grant q s).ports = s.ports ∧ (grant q s).power = s.power ∧
    (grant q s).free = s.free ∧ (grant q s).pending = s.pending := by
  unfold grant <;> (try dsimp only) <;> (repeat' split) <;> simp

@[simp] theorem grantPoint_frame  (n : Nat) (s : State) :
    (grantPoint  n s).fe = s.fe ∧ (grantPoint  n s).comp = s.comp ∧ (grantPoint  n s).tap = s.tap ∧
    (grantPoint  n s).writer = s.writer ∧ (grantPoint  n s).seq = s.seq ∧ (grantPoint  n s).store = s.store ∧
    (grantPoint  n s).mc.debt = s.mc.debt ∧ (grantPoint  n s).mc.init = s.mc.init ∧
    (grantPoint  n s).mc.phase = s.mc.phase ∧ (grantPoint  n s).mc.st = s.mc.st ∧ (grantPoint  n s).slots = s.slots ∧
    (grantPoint  n s).notes = s.notes ∧ (grantPoint  n s).render.again = s.render.again ∧
    (grantPoint  n s).render.completed = s.render.completed ∧ (grantPoint  n s).render.cursorA = s.render.cursorA ∧
    (grantPoint  n s).render.cursorB = s.render.cursorB ∧ (grantPoint  n s).render.dirty = s.render.dirty ∧
    (grantPoint  n s).render.divider = s.render.divider ∧ (grantPoint  n s).render.drawnA = s.render.drawnA ∧
    (grantPoint  n s).render.drawnB = s.render.drawnB ∧ (grantPoint  n s).render.frame = s.render.frame ∧
    (grantPoint  n s).render.latch = s.render.latch ∧ (grantPoint  n s).render.layout = s.render.layout ∧
    (grantPoint  n s).render.liveCount = s.render.liveCount ∧ (grantPoint  n s).render.palette = s.render.palette ∧
    (grantPoint  n s).render.trace = s.render.trace ∧ (grantPoint  n s).render.view = s.render.view ∧
    (grantPoint  n s).panel = s.panel ∧ (grantPoint  n s).ports = s.ports ∧ (grantPoint  n s).power = s.power ∧
    (grantPoint  n s).free = s.free ∧ (grantPoint  n s).pending = s.pending := by
  induction n generalizing s with
  | zero => simp [grantPoint]
  | succ _ ih => simp only [grantPoint] <;> (repeat' split) <;> simp [ih]

@[simp] theorem arbitrate_frame (s : State) :
    (arbitrate s).fe = s.fe ∧ (arbitrate s).comp = s.comp ∧ (arbitrate s).tap = s.tap ∧
    (arbitrate s).writer = s.writer ∧ (arbitrate s).seq = s.seq ∧ (arbitrate s).store = s.store ∧
    (arbitrate s).mc.debt = s.mc.debt ∧ (arbitrate s).mc.init = s.mc.init ∧ (arbitrate s).mc.phase = s.mc.phase ∧
    (arbitrate s).mc.st = s.mc.st ∧ (arbitrate s).slots = s.slots ∧ (arbitrate s).notes = s.notes ∧
    (arbitrate s).render.again = s.render.again ∧ (arbitrate s).render.completed = s.render.completed ∧
    (arbitrate s).render.cursorA = s.render.cursorA ∧ (arbitrate s).render.cursorB = s.render.cursorB ∧
    (arbitrate s).render.dirty = s.render.dirty ∧ (arbitrate s).render.divider = s.render.divider ∧
    (arbitrate s).render.drawnA = s.render.drawnA ∧ (arbitrate s).render.drawnB = s.render.drawnB ∧
    (arbitrate s).render.frame = s.render.frame ∧ (arbitrate s).render.latch = s.render.latch ∧
    (arbitrate s).render.layout = s.render.layout ∧ (arbitrate s).render.liveCount = s.render.liveCount ∧
    (arbitrate s).render.palette = s.render.palette ∧ (arbitrate s).render.trace = s.render.trace ∧
    (arbitrate s).render.view = s.render.view ∧ (arbitrate s).panel = s.panel ∧ (arbitrate s).ports = s.ports ∧
    (arbitrate s).power = s.power ∧ (arbitrate s).free = s.free ∧ (arbitrate s).pending = s.pending := by
  unfold arbitrate <;> (try dsimp only) <;> (repeat' split) <;> simp

@[simp] theorem decoderRecords_frame (k : Nat) (recs : List Record) (full tail : Bool) (s : State) :
    (decoderRecords k recs full tail s).fe = s.fe ∧ (decoderRecords k recs full tail s).writer = s.writer ∧
    (decoderRecords k recs full tail s).seq.params = s.seq.params ∧
    (decoderRecords k recs full tail s).seq.seg = s.seq.seg ∧
    (decoderRecords k recs full tail s).seq.taken = s.seq.taken ∧
    (decoderRecords k recs full tail s).store.available = s.store.available ∧
    (decoderRecords k recs full tail s).store.blocks = s.store.blocks ∧
    (decoderRecords k recs full tail s).store.low = s.store.low ∧
    (decoderRecords k recs full tail s).store.mem = s.store.mem ∧
    (decoderRecords k recs full tail s).store.sealCounter = s.store.sealCounter ∧
    (decoderRecords k recs full tail s).mc.banks = s.mc.banks ∧
    (decoderRecords k recs full tail s).mc.debt = s.mc.debt ∧
    (decoderRecords k recs full tail s).mc.init = s.mc.init ∧
    (decoderRecords k recs full tail s).mc.last = s.mc.last ∧
    (decoderRecords k recs full tail s).mc.lastSlot = s.mc.lastSlot ∧
    (decoderRecords k recs full tail s).mc.phase = s.mc.phase ∧ (decoderRecords k recs full tail s).mc.st = s.mc.st ∧
    (decoderRecords k recs full tail s).slots.length = s.slots.length ∧
    (decoderRecords k recs full tail s).meas = s.meas ∧
    (decoderRecords k recs full tail s).render.again = s.render.again ∧
    (decoderRecords k recs full tail s).render.completed = s.render.completed ∧
    (decoderRecords k recs full tail s).render.cursorA = s.render.cursorA ∧
    (decoderRecords k recs full tail s).render.cursorB = s.render.cursorB ∧
    (decoderRecords k recs full tail s).render.dirty = s.render.dirty ∧
    (decoderRecords k recs full tail s).render.divider = s.render.divider ∧
    (decoderRecords k recs full tail s).render.drawnA = s.render.drawnA ∧
    (decoderRecords k recs full tail s).render.drawnB = s.render.drawnB ∧
    (decoderRecords k recs full tail s).render.frame = s.render.frame ∧
    (decoderRecords k recs full tail s).render.latch = s.render.latch ∧
    (decoderRecords k recs full tail s).render.layout = s.render.layout ∧
    (decoderRecords k recs full tail s).render.liveCount = s.render.liveCount ∧
    (decoderRecords k recs full tail s).render.palette = s.render.palette ∧
    (decoderRecords k recs full tail s).render.trace = s.render.trace ∧
    (decoderRecords k recs full tail s).render.view = s.render.view ∧
    (decoderRecords k recs full tail s).panel = s.panel ∧
    (decoderRecords k recs full tail s).ports.claim = s.ports.claim ∧
    (decoderRecords k recs full tail s).ports.con.levels = s.ports.con.levels ∧
    (decoderRecords k recs full tail s).ports.conOut = s.ports.conOut ∧
    (decoderRecords k recs full tail s).ports.conReplies = s.ports.conReplies ∧
    (decoderRecords k recs full tail s).ports.conService = s.ports.conService ∧
    (decoderRecords k recs full tail s).ports.link = s.ports.link ∧
    (decoderRecords k recs full tail s).ports.outFrame = s.ports.outFrame ∧
    (decoderRecords k recs full tail s).ports.remoteWake = s.ports.remoteWake ∧
    (decoderRecords k recs full tail s).ports.teth.levels = s.ports.teth.levels ∧
    (decoderRecords k recs full tail s).ports.tethOut = s.ports.tethOut ∧
    (decoderRecords k recs full tail s).ports.tethReplies = s.ports.tethReplies ∧
    (decoderRecords k recs full tail s).ports.tethService = s.ports.tethService ∧
    (decoderRecords k recs full tail s).ports.vbus = s.ports.vbus ∧
    (decoderRecords k recs full tail s).power = s.power ∧
    (decoderRecords k recs full tail s).pending = s.pending := by
  unfold decoderRecords <;> (try dsimp only) <;> (repeat' split) <;> simp

@[simp] theorem deliver_frame (b : ReadBurst) (s : State) :
    (deliver b s).fe = s.fe ∧ (deliver b s).writer = s.writer ∧ (deliver b s).seq.params = s.seq.params ∧
    (deliver b s).seq.seg = s.seq.seg ∧ (deliver b s).seq.taken = s.seq.taken ∧
    (deliver b s).store.available = s.store.available ∧ (deliver b s).store.blocks = s.store.blocks ∧
    (deliver b s).store.low = s.store.low ∧ (deliver b s).store.mem = s.store.mem ∧
    (deliver b s).store.sealCounter = s.store.sealCounter ∧ (deliver b s).mc.banks = s.mc.banks ∧
    (deliver b s).mc.debt = s.mc.debt ∧ (deliver b s).mc.init = s.mc.init ∧ (deliver b s).mc.last = s.mc.last ∧
    (deliver b s).mc.lastSlot = s.mc.lastSlot ∧ (deliver b s).mc.phase = s.mc.phase ∧ (deliver b s).mc.st = s.mc.st ∧
    (deliver b s).slots.length = s.slots.length ∧ (deliver b s).render.again = s.render.again ∧
    (deliver b s).render.completed = s.render.completed ∧ (deliver b s).render.cursorA = s.render.cursorA ∧
    (deliver b s).render.cursorB = s.render.cursorB ∧ (deliver b s).render.dirty = s.render.dirty ∧
    (deliver b s).render.divider = s.render.divider ∧ (deliver b s).render.drawnA = s.render.drawnA ∧
    (deliver b s).render.drawnB = s.render.drawnB ∧ (deliver b s).render.frame = s.render.frame ∧
    (deliver b s).render.latch = s.render.latch ∧ (deliver b s).render.layout = s.render.layout ∧
    (deliver b s).render.liveCount = s.render.liveCount ∧ (deliver b s).render.palette = s.render.palette ∧
    (deliver b s).render.trace = s.render.trace ∧ (deliver b s).render.view = s.render.view ∧
    (deliver b s).panel = s.panel ∧ (deliver b s).power = s.power ∧ (deliver b s).pending = s.pending := by
  unfold deliver <;> (try dsimp only) <;> (repeat' split) <;> simp

@[simp] theorem endRead_frame (b : ReadBurst) (s : State) :
    (endRead b s).fe = s.fe ∧ (endRead b s).writer = s.writer ∧ (endRead b s).seq.params = s.seq.params ∧
    (endRead b s).seq.seg = s.seq.seg ∧ (endRead b s).seq.taken = s.seq.taken ∧
    (endRead b s).store.available = s.store.available ∧ (endRead b s).store.blocks = s.store.blocks ∧
    (endRead b s).store.low = s.store.low ∧ (endRead b s).store.mem = s.store.mem ∧
    (endRead b s).store.sealCounter = s.store.sealCounter ∧ (endRead b s).mc.debt = s.mc.debt ∧
    (endRead b s).mc.init = s.mc.init ∧ (endRead b s).mc.last = s.mc.last ∧
    (endRead b s).mc.lastSlot = s.mc.lastSlot ∧ (endRead b s).mc.phase = s.mc.phase ∧ (endRead b s).mc.st = s.mc.st ∧
    (endRead b s).slots.length = s.slots.length ∧ (endRead b s).render.again = s.render.again ∧
    (endRead b s).render.completed = s.render.completed ∧ (endRead b s).render.cursorA = s.render.cursorA ∧
    (endRead b s).render.cursorB = s.render.cursorB ∧ (endRead b s).render.dirty = s.render.dirty ∧
    (endRead b s).render.divider = s.render.divider ∧ (endRead b s).render.drawnA = s.render.drawnA ∧
    (endRead b s).render.drawnB = s.render.drawnB ∧ (endRead b s).render.frame = s.render.frame ∧
    (endRead b s).render.latch = s.render.latch ∧ (endRead b s).render.layout = s.render.layout ∧
    (endRead b s).render.liveCount = s.render.liveCount ∧ (endRead b s).render.palette = s.render.palette ∧
    (endRead b s).render.trace = s.render.trace ∧ (endRead b s).render.view = s.render.view ∧
    (endRead b s).panel = s.panel ∧ (endRead b s).power = s.power ∧ (endRead b s).pending = s.pending := by
  simp [endRead]

@[simp] theorem progress_frame (s : State) :
    (progress s).fe = s.fe ∧ (progress s).comp = s.comp ∧ (progress s).tap = s.tap ∧ (progress s).writer = s.writer ∧
    (progress s).seq = s.seq ∧ (progress s).store = s.store ∧ (progress s).mc.debt = s.mc.debt ∧
    (progress s).mc.init = s.mc.init ∧ (progress s).mc.last = s.mc.last ∧ (progress s).mc.lastSlot = s.mc.lastSlot ∧
    (progress s).mc.phase = s.mc.phase ∧ (progress s).mc.remainders = s.mc.remainders ∧
    (progress s).mc.st = s.mc.st ∧ (progress s).slots = s.slots ∧ (progress s).notes = s.notes ∧
    (progress s).meas = s.meas ∧ (progress s).render = s.render ∧ (progress s).panel = s.panel ∧
    (progress s).ports = s.ports ∧ (progress s).power = s.power ∧ (progress s).pending = s.pending := by
  unfold progress <;> (try dsimp only) <;> (repeat' split) <;> simp

@[simp] theorem cutRead_frame (s : State) :
    (cutRead s).fe = s.fe ∧ (cutRead s).writer = s.writer ∧ (cutRead s).seq.params = s.seq.params ∧
    (cutRead s).seq.seg = s.seq.seg ∧ (cutRead s).seq.taken = s.seq.taken ∧
    (cutRead s).store.available = s.store.available ∧ (cutRead s).store.blocks = s.store.blocks ∧
    (cutRead s).store.low = s.store.low ∧ (cutRead s).store.mem = s.store.mem ∧
    (cutRead s).store.sealCounter = s.store.sealCounter ∧ (cutRead s).mc.debt = s.mc.debt ∧
    (cutRead s).mc.init = s.mc.init ∧ (cutRead s).mc.last = s.mc.last ∧ (cutRead s).mc.lastSlot = s.mc.lastSlot ∧
    (cutRead s).mc.phase = s.mc.phase ∧ (cutRead s).mc.st = s.mc.st ∧ (cutRead s).slots.length = s.slots.length ∧
    (cutRead s).render.again = s.render.again ∧ (cutRead s).render.completed = s.render.completed ∧
    (cutRead s).render.cursorA = s.render.cursorA ∧ (cutRead s).render.cursorB = s.render.cursorB ∧
    (cutRead s).render.dirty = s.render.dirty ∧ (cutRead s).render.divider = s.render.divider ∧
    (cutRead s).render.drawnA = s.render.drawnA ∧ (cutRead s).render.drawnB = s.render.drawnB ∧
    (cutRead s).render.frame = s.render.frame ∧ (cutRead s).render.latch = s.render.latch ∧
    (cutRead s).render.layout = s.render.layout ∧ (cutRead s).render.liveCount = s.render.liveCount ∧
    (cutRead s).render.palette = s.render.palette ∧ (cutRead s).render.trace = s.render.trace ∧
    (cutRead s).render.view = s.render.view ∧ (cutRead s).panel = s.panel ∧ (cutRead s).power = s.power ∧
    (cutRead s).pending = s.pending := by
  unfold cutRead <;> (try dsimp only) <;> (repeat' split) <;> simp

@[simp] theorem cutIfUrgent_frame (before s : State) :
    (cutIfUrgent before s).fe = s.fe ∧ (cutIfUrgent before s).writer = s.writer ∧
    (cutIfUrgent before s).seq.params = s.seq.params ∧ (cutIfUrgent before s).seq.seg = s.seq.seg ∧
    (cutIfUrgent before s).seq.taken = s.seq.taken ∧ (cutIfUrgent before s).store.available = s.store.available ∧
    (cutIfUrgent before s).store.blocks = s.store.blocks ∧ (cutIfUrgent before s).store.low = s.store.low ∧
    (cutIfUrgent before s).store.mem = s.store.mem ∧ (cutIfUrgent before s).store.sealCounter = s.store.sealCounter ∧
    (cutIfUrgent before s).mc.debt = s.mc.debt ∧ (cutIfUrgent before s).mc.init = s.mc.init ∧
    (cutIfUrgent before s).mc.last = s.mc.last ∧ (cutIfUrgent before s).mc.lastSlot = s.mc.lastSlot ∧
    (cutIfUrgent before s).mc.phase = s.mc.phase ∧ (cutIfUrgent before s).mc.st = s.mc.st ∧
    (cutIfUrgent before s).slots.length = s.slots.length ∧ (cutIfUrgent before s).render.again = s.render.again ∧
    (cutIfUrgent before s).render.completed = s.render.completed ∧
    (cutIfUrgent before s).render.cursorA = s.render.cursorA ∧
    (cutIfUrgent before s).render.cursorB = s.render.cursorB ∧ (cutIfUrgent before s).render.dirty = s.render.dirty ∧
    (cutIfUrgent before s).render.divider = s.render.divider ∧
    (cutIfUrgent before s).render.drawnA = s.render.drawnA ∧ (cutIfUrgent before s).render.drawnB = s.render.drawnB ∧
    (cutIfUrgent before s).render.frame = s.render.frame ∧ (cutIfUrgent before s).render.latch = s.render.latch ∧
    (cutIfUrgent before s).render.layout = s.render.layout ∧
    (cutIfUrgent before s).render.liveCount = s.render.liveCount ∧
    (cutIfUrgent before s).render.palette = s.render.palette ∧ (cutIfUrgent before s).render.trace = s.render.trace ∧
    (cutIfUrgent before s).render.view = s.render.view ∧ (cutIfUrgent before s).panel = s.panel ∧
    (cutIfUrgent before s).power = s.power ∧ (cutIfUrgent before s).pending = s.pending := by
  unfold cutIfUrgent <;> (try dsimp only) <;> (repeat' split) <;> simp

@[simp] theorem writeGroup_frame (n : Nat) (s : State) :
    (writeGroup n s).fe = s.fe ∧ (writeGroup n s).comp.last = s.comp.last ∧
    (writeGroup n s).comp.lastTick = s.comp.lastTick ∧ (writeGroup n s).comp.lossOpen = s.comp.lossOpen ∧
    (writeGroup n s).comp.stagingTime = s.comp.stagingTime ∧ (writeGroup n s).tap = s.tap ∧
    (writeGroup n s).seq = s.seq ∧ (writeGroup n s).store.available = s.store.available ∧
    (writeGroup n s).store.freeList = s.store.freeList ∧ (writeGroup n s).store.low = s.store.low ∧
    (writeGroup n s).store.sealCounter = s.store.sealCounter ∧ (writeGroup n s).mc = s.mc ∧
    (writeGroup n s).slots = s.slots ∧ (writeGroup n s).notes = s.notes ∧ (writeGroup n s).meas = s.meas ∧
    (writeGroup n s).render = s.render ∧ (writeGroup n s).panel = s.panel ∧ (writeGroup n s).ports = s.ports ∧
    (writeGroup n s).power = s.power ∧ (writeGroup n s).pending = s.pending := by
  unfold writeGroup <;> (try dsimp only) <;> (repeat' split) <;> simp

@[simp] theorem endWrite_frame (n : Nat) (s : State) :
    (endWrite n s).seq.params = s.seq.params ∧ (endWrite n s).store.available = s.store.available ∧
    (endWrite n s).store.low = s.store.low ∧ (endWrite n s).mc.debt = s.mc.debt ∧
    (endWrite n s).mc.init = s.mc.init ∧ (endWrite n s).mc.last = s.mc.last ∧
    (endWrite n s).mc.lastSlot = s.mc.lastSlot ∧ (endWrite n s).mc.phase = s.mc.phase ∧
    (endWrite n s).mc.remainders = s.mc.remainders ∧ (endWrite n s).mc.st = s.mc.st ∧
    (endWrite n s).slots.length = s.slots.length ∧ (endWrite n s).meas = s.meas ∧
    (endWrite n s).render.again = s.render.again ∧ (endWrite n s).render.completed = s.render.completed ∧
    (endWrite n s).render.cursorA = s.render.cursorA ∧ (endWrite n s).render.cursorB = s.render.cursorB ∧
    (endWrite n s).render.dirty = s.render.dirty ∧ (endWrite n s).render.divider = s.render.divider ∧
    (endWrite n s).render.drawnA = s.render.drawnA ∧ (endWrite n s).render.drawnB = s.render.drawnB ∧
    (endWrite n s).render.frame = s.render.frame ∧ (endWrite n s).render.latch = s.render.latch ∧
    (endWrite n s).render.layout = s.render.layout ∧ (endWrite n s).render.liveCount = s.render.liveCount ∧
    (endWrite n s).render.palette = s.render.palette ∧ (endWrite n s).render.trace = s.render.trace ∧
    (endWrite n s).render.view = s.render.view ∧ (endWrite n s).panel = s.panel ∧
    (endWrite n s).ports.claim = s.ports.claim ∧ (endWrite n s).ports.con.levels = s.ports.con.levels ∧
    (endWrite n s).ports.conOut = s.ports.conOut ∧ (endWrite n s).ports.conReplies = s.ports.conReplies ∧
    (endWrite n s).ports.conService = s.ports.conService ∧ (endWrite n s).ports.link = s.ports.link ∧
    (endWrite n s).ports.outFrame = s.ports.outFrame ∧ (endWrite n s).ports.remoteWake = s.ports.remoteWake ∧
    (endWrite n s).ports.teth.levels = s.ports.teth.levels ∧ (endWrite n s).ports.tethOut = s.ports.tethOut ∧
    (endWrite n s).ports.tethReplies = s.ports.tethReplies ∧ (endWrite n s).ports.tethService = s.ports.tethService ∧
    (endWrite n s).ports.vbus = s.ports.vbus ∧ (endWrite n s).power = s.power ∧
    (endWrite n s).pending = s.pending := by
  unfold endWrite <;> (try dsimp only) <;> (repeat' split) <;> simp

/-! ## PowerOps -/

@[simp] theorem freeStarted_frame (p : Port) (k : Nat) (s : State) :
    (freeStarted p k s).fe = s.fe ∧ (freeStarted p k s).comp = s.comp ∧ (freeStarted p k s).writer = s.writer ∧
    (freeStarted p k s).seq = s.seq ∧ (freeStarted p k s).store.available = s.store.available ∧
    (freeStarted p k s).store.blocks = s.store.blocks ∧ (freeStarted p k s).store.low = s.store.low ∧
    (freeStarted p k s).store.mem = s.store.mem ∧ (freeStarted p k s).store.sealCounter = s.store.sealCounter ∧
    (freeStarted p k s).mc.banks = s.mc.banks ∧ (freeStarted p k s).mc.debt = s.mc.debt ∧
    (freeStarted p k s).mc.init = s.mc.init ∧ (freeStarted p k s).mc.last = s.mc.last ∧
    (freeStarted p k s).mc.lastSlot = s.mc.lastSlot ∧ (freeStarted p k s).mc.phase = s.mc.phase ∧
    (freeStarted p k s).mc.st = s.mc.st ∧ (freeStarted p k s).slots.length = s.slots.length ∧
    (freeStarted p k s).meas = s.meas ∧ (freeStarted p k s).render.again = s.render.again ∧
    (freeStarted p k s).render.completed = s.render.completed ∧
    (freeStarted p k s).render.cursorA = s.render.cursorA ∧ (freeStarted p k s).render.cursorB = s.render.cursorB ∧
    (freeStarted p k s).render.dirty = s.render.dirty ∧ (freeStarted p k s).render.divider = s.render.divider ∧
    (freeStarted p k s).render.drawnA = s.render.drawnA ∧ (freeStarted p k s).render.drawnB = s.render.drawnB ∧
    (freeStarted p k s).render.frame = s.render.frame ∧ (freeStarted p k s).render.latch = s.render.latch ∧
    (freeStarted p k s).render.layout = s.render.layout ∧ (freeStarted p k s).render.liveCount = s.render.liveCount ∧
    (freeStarted p k s).render.palette = s.render.palette ∧ (freeStarted p k s).render.trace = s.render.trace ∧
    (freeStarted p k s).render.view = s.render.view ∧ (freeStarted p k s).panel = s.panel ∧
    (freeStarted p k s).ports.claim = s.ports.claim ∧ (freeStarted p k s).ports.con.levels = s.ports.con.levels ∧
    (freeStarted p k s).ports.conOut = s.ports.conOut ∧ (freeStarted p k s).ports.conReplies = s.ports.conReplies ∧
    (freeStarted p k s).ports.conService = s.ports.conService ∧ (freeStarted p k s).ports.link = s.ports.link ∧
    (freeStarted p k s).ports.outFrame = s.ports.outFrame ∧
    (freeStarted p k s).ports.remoteWake = s.ports.remoteWake ∧
    (freeStarted p k s).ports.teth.levels = s.ports.teth.levels ∧
    (freeStarted p k s).ports.tethOut = s.ports.tethOut ∧
    (freeStarted p k s).ports.tethReplies = s.ports.tethReplies ∧
    (freeStarted p k s).ports.tethService = s.ports.tethService ∧ (freeStarted p k s).ports.vbus = s.ports.vbus ∧
    (freeStarted p k s).power = s.power ∧ (freeStarted p k s).pending = s.pending := by
  unfold freeStarted <;> (try dsimp only) <;> (repeat' split) <;> simp

@[simp] theorem disown_frame (p : Port) (s : State) :
    (disown p s).fe = s.fe ∧ (disown p s).comp = s.comp ∧ (disown p s).tap = s.tap ∧ (disown p s).writer = s.writer ∧
    (disown p s).seq = s.seq ∧ (disown p s).store.available = s.store.available ∧
    (disown p s).store.blocks = s.store.blocks ∧ (disown p s).store.freeList = s.store.freeList ∧
    (disown p s).store.low = s.store.low ∧ (disown p s).store.mem = s.store.mem ∧
    (disown p s).store.sealCounter = s.store.sealCounter ∧ (disown p s).mc = s.mc ∧ (disown p s).slots = s.slots ∧
    (disown p s).notes = s.notes ∧ (disown p s).meas = s.meas ∧ (disown p s).render = s.render ∧
    (disown p s).panel = s.panel ∧ (disown p s).ports = s.ports ∧ (disown p s).power = s.power ∧
    (disown p s).free = s.free ∧ (disown p s).pending = s.pending := by
  simp [disown]

@[simp] theorem freeClaim_frame (s : State) :
    (freeClaim s).fe = s.fe ∧ (freeClaim s).comp = s.comp ∧ (freeClaim s).tap = s.tap ∧
    (freeClaim s).writer = s.writer ∧ (freeClaim s).seq = s.seq ∧ (freeClaim s).store = s.store ∧
    (freeClaim s).mc = s.mc ∧ (freeClaim s).slots = s.slots ∧ (freeClaim s).notes = s.notes ∧
    (freeClaim s).meas = s.meas ∧ (freeClaim s).render = s.render ∧ (freeClaim s).panel = s.panel ∧
    (freeClaim s).ports.con.levels = s.ports.con.levels ∧ (freeClaim s).ports.con.stream = s.ports.con.stream ∧
    (freeClaim s).ports.conOut = s.ports.conOut ∧ (freeClaim s).ports.conReplies = s.ports.conReplies ∧
    (freeClaim s).ports.conService = s.ports.conService ∧ (freeClaim s).ports.link = s.ports.link ∧
    (freeClaim s).ports.outFrame = s.ports.outFrame ∧ (freeClaim s).ports.remoteWake = s.ports.remoteWake ∧
    (freeClaim s).ports.teth.levels = s.ports.teth.levels ∧ (freeClaim s).ports.teth.stream = s.ports.teth.stream ∧
    (freeClaim s).ports.tethOut = s.ports.tethOut ∧ (freeClaim s).ports.tethReplies = s.ports.tethReplies ∧
    (freeClaim s).ports.tethService = s.ports.tethService ∧ (freeClaim s).ports.vbus = s.ports.vbus ∧
    (freeClaim s).power = s.power ∧ (freeClaim s).free = s.free ∧ (freeClaim s).pending = s.pending := by
  simp [freeClaim]

@[simp] theorem loseReplies_frame (p : Port) (s : State) :
    (loseReplies p s).fe = s.fe ∧ (loseReplies p s).comp = s.comp ∧ (loseReplies p s).tap = s.tap ∧
    (loseReplies p s).writer = s.writer ∧ (loseReplies p s).seq = s.seq ∧ (loseReplies p s).store = s.store ∧
    (loseReplies p s).mc = s.mc ∧ (loseReplies p s).slots = s.slots ∧ (loseReplies p s).notes = s.notes ∧
    (loseReplies p s).meas = s.meas ∧ (loseReplies p s).render = s.render ∧
    (loseReplies p s).panel.bus = s.panel.bus ∧ (loseReplies p s).panel.dormantSleep = s.panel.dormantSleep ∧
    (loseReplies p s).panel.emission = s.panel.emission ∧ (loseReplies p s).panel.handOff = s.panel.handOff ∧
    (loseReplies p s).panel.out = s.panel.out ∧ (loseReplies p s).panel.overlays = s.panel.overlays ∧
    (loseReplies p s).panel.queue = s.panel.queue ∧ (loseReplies p s).panel.setup = s.panel.setup ∧
    (loseReplies p s).panel.st = s.panel.st ∧ (loseReplies p s).panel.teMissing = s.panel.teMissing ∧
    (loseReplies p s).panel.teTimer = s.panel.teTimer ∧ (loseReplies p s).panel.torn = s.panel.torn ∧
    (loseReplies p s).panel.waiting = s.panel.waiting ∧ (loseReplies p s).ports = s.ports ∧
    (loseReplies p s).power = s.power ∧ (loseReplies p s).free = s.free ∧ (loseReplies p s).pending = s.pending := by
  simp [loseReplies]

@[simp] theorem discardReplies_frame (p : Port) (s : State) :
    (discardReplies p s).fe = s.fe ∧ (discardReplies p s).comp = s.comp ∧ (discardReplies p s).tap = s.tap ∧
    (discardReplies p s).writer = s.writer ∧ (discardReplies p s).seq = s.seq ∧
    (discardReplies p s).store = s.store ∧ (discardReplies p s).mc = s.mc ∧ (discardReplies p s).slots = s.slots ∧
    (discardReplies p s).notes = s.notes ∧ (discardReplies p s).meas = s.meas ∧
    (discardReplies p s).render = s.render ∧ (discardReplies p s).panel.bus = s.panel.bus ∧
    (discardReplies p s).panel.dormantSleep = s.panel.dormantSleep ∧
    (discardReplies p s).panel.emission = s.panel.emission ∧ (discardReplies p s).panel.handOff = s.panel.handOff ∧
    (discardReplies p s).panel.out = s.panel.out ∧ (discardReplies p s).panel.overlays = s.panel.overlays ∧
    (discardReplies p s).panel.queue = s.panel.queue ∧ (discardReplies p s).panel.setup = s.panel.setup ∧
    (discardReplies p s).panel.st = s.panel.st ∧ (discardReplies p s).panel.teMissing = s.panel.teMissing ∧
    (discardReplies p s).panel.teTimer = s.panel.teTimer ∧ (discardReplies p s).panel.torn = s.panel.torn ∧
    (discardReplies p s).panel.waiting = s.panel.waiting ∧ (discardReplies p s).ports.attn = s.ports.attn ∧
    (discardReplies p s).ports.claim = s.ports.claim ∧ (discardReplies p s).ports.con = s.ports.con ∧
    (discardReplies p s).ports.conOut = s.ports.conOut ∧ (discardReplies p s).ports.link = s.ports.link ∧
    (discardReplies p s).ports.outFrame = s.ports.outFrame ∧
    (discardReplies p s).ports.remoteWake = s.ports.remoteWake ∧
    (discardReplies p s).ports.resuming = s.ports.resuming ∧ (discardReplies p s).ports.teth = s.ports.teth ∧
    (discardReplies p s).ports.tethOut = s.ports.tethOut ∧ (discardReplies p s).ports.vbus = s.ports.vbus ∧
    (discardReplies p s).power = s.power ∧ (discardReplies p s).free = s.free ∧
    (discardReplies p s).pending = s.pending := by
  unfold discardReplies <;> (try dsimp only) <;> (repeat' split) <;> simp

@[simp] theorem resetAlerts_frame (p : Port) (s : State) :
    (resetAlerts p s).fe = s.fe ∧ (resetAlerts p s).comp = s.comp ∧ (resetAlerts p s).tap = s.tap ∧
    (resetAlerts p s).writer = s.writer ∧ (resetAlerts p s).seq = s.seq ∧ (resetAlerts p s).store = s.store ∧
    (resetAlerts p s).mc = s.mc ∧ (resetAlerts p s).slots = s.slots ∧ (resetAlerts p s).notes = s.notes ∧
    (resetAlerts p s).meas = s.meas ∧ (resetAlerts p s).render = s.render ∧ (resetAlerts p s).panel = s.panel ∧
    (resetAlerts p s).power = s.power ∧ (resetAlerts p s).free = s.free ∧ (resetAlerts p s).pending = s.pending := by
  simp [resetAlerts]

@[simp] theorem loseClaim_frame (p : Port) (s : State) :
    (loseClaim p s).fe = s.fe ∧ (loseClaim p s).writer = s.writer ∧ (loseClaim p s).seq.params = s.seq.params ∧
    (loseClaim p s).seq.seg = s.seq.seg ∧ (loseClaim p s).seq.taken = s.seq.taken ∧
    (loseClaim p s).store.available = s.store.available ∧ (loseClaim p s).store.blocks = s.store.blocks ∧
    (loseClaim p s).store.freeList = s.store.freeList ∧ (loseClaim p s).store.low = s.store.low ∧
    (loseClaim p s).store.mem = s.store.mem ∧ (loseClaim p s).store.sealCounter = s.store.sealCounter ∧
    (loseClaim p s).mc = s.mc ∧ (loseClaim p s).slots = s.slots ∧ (loseClaim p s).notes = s.notes ∧
    (loseClaim p s).meas = s.meas ∧ (loseClaim p s).render = s.render ∧ (loseClaim p s).panel = s.panel ∧
    (loseClaim p s).ports.con.levels = s.ports.con.levels ∧ (loseClaim p s).ports.con.stream = s.ports.con.stream ∧
    (loseClaim p s).ports.conOut = s.ports.conOut ∧ (loseClaim p s).ports.conReplies = s.ports.conReplies ∧
    (loseClaim p s).ports.conService = s.ports.conService ∧ (loseClaim p s).ports.link = s.ports.link ∧
    (loseClaim p s).ports.outFrame = s.ports.outFrame ∧ (loseClaim p s).ports.remoteWake = s.ports.remoteWake ∧
    (loseClaim p s).ports.teth.levels = s.ports.teth.levels ∧
    (loseClaim p s).ports.teth.stream = s.ports.teth.stream ∧ (loseClaim p s).ports.tethOut = s.ports.tethOut ∧
    (loseClaim p s).ports.tethReplies = s.ports.tethReplies ∧
    (loseClaim p s).ports.tethService = s.ports.tethService ∧ (loseClaim p s).ports.vbus = s.ports.vbus ∧
    (loseClaim p s).power = s.power ∧ (loseClaim p s).free = s.free ∧ (loseClaim p s).pending = s.pending := by
  unfold loseClaim <;> (try dsimp only) <;> (repeat' split) <;> simp

@[simp] theorem loseMeasure_frame (p : Port) (s : State) :
    (loseMeasure p s).fe = s.fe ∧ (loseMeasure p s).comp = s.comp ∧ (loseMeasure p s).tap.gapOpen = s.tap.gapOpen ∧
    (loseMeasure p s).writer = s.writer ∧ (loseMeasure p s).seq = s.seq ∧
    (loseMeasure p s).store.available = s.store.available ∧ (loseMeasure p s).store.blocks = s.store.blocks ∧
    (loseMeasure p s).store.low = s.store.low ∧ (loseMeasure p s).store.mem = s.store.mem ∧
    (loseMeasure p s).store.sealCounter = s.store.sealCounter ∧ (loseMeasure p s).mc.banks = s.mc.banks ∧
    (loseMeasure p s).mc.debt = s.mc.debt ∧ (loseMeasure p s).mc.init = s.mc.init ∧
    (loseMeasure p s).mc.last = s.mc.last ∧ (loseMeasure p s).mc.lastSlot = s.mc.lastSlot ∧
    (loseMeasure p s).mc.phase = s.mc.phase ∧ (loseMeasure p s).mc.st = s.mc.st ∧
    (loseMeasure p s).slots.length = s.slots.length ∧ (loseMeasure p s).render.again = s.render.again ∧
    (loseMeasure p s).render.completed = s.render.completed ∧ (loseMeasure p s).render.cursorA = s.render.cursorA ∧
    (loseMeasure p s).render.cursorB = s.render.cursorB ∧ (loseMeasure p s).render.dirty = s.render.dirty ∧
    (loseMeasure p s).render.divider = s.render.divider ∧ (loseMeasure p s).render.drawnA = s.render.drawnA ∧
    (loseMeasure p s).render.drawnB = s.render.drawnB ∧ (loseMeasure p s).render.frame = s.render.frame ∧
    (loseMeasure p s).render.latch = s.render.latch ∧ (loseMeasure p s).render.layout = s.render.layout ∧
    (loseMeasure p s).render.liveCount = s.render.liveCount ∧ (loseMeasure p s).render.palette = s.render.palette ∧
    (loseMeasure p s).render.trace = s.render.trace ∧ (loseMeasure p s).render.view = s.render.view ∧
    (loseMeasure p s).panel = s.panel ∧ (loseMeasure p s).ports.claim = s.ports.claim ∧
    (loseMeasure p s).ports.con.levels = s.ports.con.levels ∧ (loseMeasure p s).ports.conOut = s.ports.conOut ∧
    (loseMeasure p s).ports.conReplies = s.ports.conReplies ∧
    (loseMeasure p s).ports.conService = s.ports.conService ∧ (loseMeasure p s).ports.link = s.ports.link ∧
    (loseMeasure p s).ports.outFrame = s.ports.outFrame ∧ (loseMeasure p s).ports.remoteWake = s.ports.remoteWake ∧
    (loseMeasure p s).ports.teth.levels = s.ports.teth.levels ∧ (loseMeasure p s).ports.tethOut = s.ports.tethOut ∧
    (loseMeasure p s).ports.tethReplies = s.ports.tethReplies ∧
    (loseMeasure p s).ports.tethService = s.ports.tethService ∧ (loseMeasure p s).ports.vbus = s.ports.vbus ∧
    (loseMeasure p s).power = s.power ∧ (loseMeasure p s).pending = s.pending := by
  unfold loseMeasure <;> (try dsimp only) <;> (repeat' split) <;> simp

@[simp] theorem portReset_frame (p : Port) (s : State) :
    (portReset p s).fe = s.fe ∧ (portReset p s).writer = s.writer ∧ (portReset p s).seq.params = s.seq.params ∧
    (portReset p s).seq.seg = s.seq.seg ∧ (portReset p s).seq.taken = s.seq.taken ∧
    (portReset p s).store.available = s.store.available ∧ (portReset p s).store.blocks = s.store.blocks ∧
    (portReset p s).store.low = s.store.low ∧ (portReset p s).store.mem = s.store.mem ∧
    (portReset p s).store.sealCounter = s.store.sealCounter ∧ (portReset p s).mc.banks = s.mc.banks ∧
    (portReset p s).mc.debt = s.mc.debt ∧ (portReset p s).mc.init = s.mc.init ∧ (portReset p s).mc.last = s.mc.last ∧
    (portReset p s).mc.lastSlot = s.mc.lastSlot ∧ (portReset p s).mc.phase = s.mc.phase ∧
    (portReset p s).mc.st = s.mc.st ∧ (portReset p s).slots.length = s.slots.length ∧
    (portReset p s).render.again = s.render.again ∧ (portReset p s).render.completed = s.render.completed ∧
    (portReset p s).render.cursorA = s.render.cursorA ∧ (portReset p s).render.cursorB = s.render.cursorB ∧
    (portReset p s).render.dirty = s.render.dirty ∧ (portReset p s).render.divider = s.render.divider ∧
    (portReset p s).render.drawnA = s.render.drawnA ∧ (portReset p s).render.drawnB = s.render.drawnB ∧
    (portReset p s).render.frame = s.render.frame ∧ (portReset p s).render.latch = s.render.latch ∧
    (portReset p s).render.layout = s.render.layout ∧ (portReset p s).render.liveCount = s.render.liveCount ∧
    (portReset p s).render.palette = s.render.palette ∧ (portReset p s).render.trace = s.render.trace ∧
    (portReset p s).render.view = s.render.view ∧ (portReset p s).panel.bus = s.panel.bus ∧
    (portReset p s).panel.dormantSleep = s.panel.dormantSleep ∧ (portReset p s).panel.emission = s.panel.emission ∧
    (portReset p s).panel.handOff = s.panel.handOff ∧ (portReset p s).panel.out = s.panel.out ∧
    (portReset p s).panel.overlays = s.panel.overlays ∧ (portReset p s).panel.queue = s.panel.queue ∧
    (portReset p s).panel.setup = s.panel.setup ∧ (portReset p s).panel.st = s.panel.st ∧
    (portReset p s).panel.teMissing = s.panel.teMissing ∧ (portReset p s).panel.teTimer = s.panel.teTimer ∧
    (portReset p s).panel.torn = s.panel.torn ∧ (portReset p s).panel.waiting = s.panel.waiting ∧
    (portReset p s).power = s.power ∧ (portReset p s).pending = s.pending := by
  simp [portReset]

@[simp] theorem shutDown_frame (s : State) :
    (shutDown s).fe = s.fe ∧ (shutDown s).comp = s.comp ∧ (shutDown s).tap = s.tap ∧ (shutDown s).writer = s.writer ∧
    (shutDown s).seq = s.seq ∧ (shutDown s).store = s.store ∧ (shutDown s).mc = s.mc ∧ (shutDown s).slots = s.slots ∧
    (shutDown s).notes = s.notes ∧ (shutDown s).meas = s.meas ∧ (shutDown s).render = s.render ∧
    (shutDown s).panel = s.panel ∧ (shutDown s).ports = s.ports ∧ (shutDown s).power.charger = s.power.charger ∧
    (shutDown s).power.cutoff = s.power.cutoff ∧ (shutDown s).power.entryStep = s.power.entryStep ∧
    (shutDown s).power.inReset = s.power.inReset ∧ (shutDown s).power.low = s.power.low ∧
    (shutDown s).power.lowArmed = s.power.lowArmed ∧ (shutDown s).power.reading = s.power.reading ∧
    (shutDown s).power.tetherReset = s.power.tetherReset ∧ (shutDown s).power.timer = s.power.timer ∧
    (shutDown s).power.timerOn = s.power.timerOn ∧ (shutDown s).power.wake = s.power.wake ∧
    (shutDown s).free = s.free ∧ (shutDown s).pending = s.pending := by
  simp [shutDown]

@[simp] theorem beginWake_frame (batt : Nat) (s : State) :
    (beginWake batt s).fe = s.fe ∧ (beginWake batt s).comp = s.comp ∧ (beginWake batt s).tap = s.tap ∧
    (beginWake batt s).writer = s.writer ∧ (beginWake batt s).seq = s.seq ∧ (beginWake batt s).store = s.store ∧
    (beginWake batt s).mc = s.mc ∧ (beginWake batt s).slots = s.slots ∧ (beginWake batt s).notes = s.notes ∧
    (beginWake batt s).meas = s.meas ∧ (beginWake batt s).render = s.render ∧ (beginWake batt s).panel = s.panel ∧
    (beginWake batt s).ports = s.ports ∧ (beginWake batt s).power.charger = s.power.charger ∧
    (beginWake batt s).power.cutoff = s.power.cutoff ∧ (beginWake batt s).power.entryStep = s.power.entryStep ∧
    (beginWake batt s).power.inReset = s.power.inReset ∧ (beginWake batt s).power.low = s.power.low ∧
    (beginWake batt s).power.lowArmed = s.power.lowArmed ∧
    (beginWake batt s).power.tetherReset = s.power.tetherReset ∧ (beginWake batt s).power.timer = s.power.timer ∧
    (beginWake batt s).power.wake = s.power.wake ∧ (beginWake batt s).free = s.free ∧
    (beginWake batt s).pending = s.pending := by
  unfold beginWake <;> (try dsimp only) <;> (repeat' split) <;> simp

@[simp] theorem recordCause_frame (add : WakeSet → WakeSet) (batt : Nat) (s : State) :
    (recordCause add batt s).fe = s.fe ∧ (recordCause add batt s).comp = s.comp ∧
    (recordCause add batt s).tap = s.tap ∧ (recordCause add batt s).writer = s.writer ∧
    (recordCause add batt s).seq = s.seq ∧ (recordCause add batt s).store = s.store ∧
    (recordCause add batt s).mc = s.mc ∧ (recordCause add batt s).slots = s.slots ∧
    (recordCause add batt s).notes = s.notes ∧ (recordCause add batt s).meas = s.meas ∧
    (recordCause add batt s).render = s.render ∧ (recordCause add batt s).panel = s.panel ∧
    (recordCause add batt s).ports = s.ports ∧ (recordCause add batt s).power.charger = s.power.charger ∧
    (recordCause add batt s).power.cutoff = s.power.cutoff ∧
    (recordCause add batt s).power.entryStep = s.power.entryStep ∧
    (recordCause add batt s).power.inReset = s.power.inReset ∧ (recordCause add batt s).power.low = s.power.low ∧
    (recordCause add batt s).power.lowArmed = s.power.lowArmed ∧
    (recordCause add batt s).power.tetherReset = s.power.tetherReset ∧
    (recordCause add batt s).power.timer = s.power.timer ∧ (recordCause add batt s).free = s.free ∧
    (recordCause add batt s).pending = s.pending := by
  unfold recordCause <;> (try dsimp only) <;> (repeat' split) <;> simp

@[simp] theorem lowTest_frame (v : Nat) (s : State) :
    (lowTest v s).fe = s.fe ∧ (lowTest v s).comp = s.comp ∧ (lowTest v s).tap = s.tap ∧
    (lowTest v s).writer = s.writer ∧ (lowTest v s).seq = s.seq ∧ (lowTest v s).store = s.store ∧
    (lowTest v s).mc = s.mc ∧ (lowTest v s).slots = s.slots ∧ (lowTest v s).notes = s.notes ∧
    (lowTest v s).meas = s.meas ∧ (lowTest v s).render = s.render ∧ (lowTest v s).panel = s.panel ∧
    (lowTest v s).ports.claim = s.ports.claim ∧ (lowTest v s).ports.con.levels = s.ports.con.levels ∧
    (lowTest v s).ports.con.stream = s.ports.con.stream ∧ (lowTest v s).ports.conOut = s.ports.conOut ∧
    (lowTest v s).ports.conReplies = s.ports.conReplies ∧ (lowTest v s).ports.conService = s.ports.conService ∧
    (lowTest v s).ports.link = s.ports.link ∧ (lowTest v s).ports.outFrame = s.ports.outFrame ∧
    (lowTest v s).ports.remoteWake = s.ports.remoteWake ∧ (lowTest v s).ports.teth.levels = s.ports.teth.levels ∧
    (lowTest v s).ports.teth.stream = s.ports.teth.stream ∧ (lowTest v s).ports.tethOut = s.ports.tethOut ∧
    (lowTest v s).ports.tethReplies = s.ports.tethReplies ∧ (lowTest v s).ports.tethService = s.ports.tethService ∧
    (lowTest v s).ports.vbus = s.ports.vbus ∧ (lowTest v s).power.charger = s.power.charger ∧
    (lowTest v s).power.cutoff = s.power.cutoff ∧ (lowTest v s).power.entryStep = s.power.entryStep ∧
    (lowTest v s).power.grace = s.power.grace ∧ (lowTest v s).power.inReset = s.power.inReset ∧
    (lowTest v s).power.low = s.power.low ∧ (lowTest v s).power.pll = s.power.pll ∧
    (lowTest v s).power.reading = s.power.reading ∧ (lowTest v s).power.st = s.power.st ∧
    (lowTest v s).power.tetherReset = s.power.tetherReset ∧ (lowTest v s).power.timer = s.power.timer ∧
    (lowTest v s).power.timerOn = s.power.timerOn ∧ (lowTest v s).power.wake = s.power.wake ∧
    (lowTest v s).free = s.free ∧ (lowTest v s).pending = s.pending := by
  unfold lowTest <;> (try dsimp only) <;> (repeat' split) <;> simp

@[simp] theorem entryFrame_frame (s : State) :
    (entryFrame s).fe = s.fe ∧ (entryFrame s).comp = s.comp ∧ (entryFrame s).tap.gapOpen = s.tap.gapOpen ∧
    (entryFrame s).writer = s.writer ∧ (entryFrame s).seq = s.seq ∧
    (entryFrame s).store.available = s.store.available ∧ (entryFrame s).store.blocks = s.store.blocks ∧
    (entryFrame s).store.low = s.store.low ∧ (entryFrame s).store.mem = s.store.mem ∧
    (entryFrame s).store.sealCounter = s.store.sealCounter ∧ (entryFrame s).mc = s.mc ∧
    (entryFrame s).slots.length = s.slots.length ∧ (entryFrame s).meas = s.meas ∧
    (entryFrame s).render.cursorA = s.render.cursorA ∧ (entryFrame s).render.cursorB = s.render.cursorB ∧
    (entryFrame s).render.divider = s.render.divider ∧ (entryFrame s).render.drawnA = s.render.drawnA ∧
    (entryFrame s).render.drawnB = s.render.drawnB ∧ (entryFrame s).render.layout = s.render.layout ∧
    (entryFrame s).render.liveCount = s.render.liveCount ∧ (entryFrame s).render.palette = s.render.palette ∧
    (entryFrame s).render.trace = s.render.trace ∧ (entryFrame s).render.view = s.render.view ∧
    (entryFrame s).ports.claim = s.ports.claim ∧ (entryFrame s).ports.con.levels = s.ports.con.levels ∧
    (entryFrame s).ports.conOut = s.ports.conOut ∧ (entryFrame s).ports.link = s.ports.link ∧
    (entryFrame s).ports.outFrame = s.ports.outFrame ∧ (entryFrame s).ports.remoteWake = s.ports.remoteWake ∧
    (entryFrame s).ports.teth.levels = s.ports.teth.levels ∧ (entryFrame s).ports.tethOut = s.ports.tethOut ∧
    (entryFrame s).ports.vbus = s.ports.vbus ∧ (entryFrame s).power.charger = s.power.charger ∧
    (entryFrame s).power.cutoff = s.power.cutoff ∧ (entryFrame s).power.grace = s.power.grace ∧
    (entryFrame s).power.inReset = s.power.inReset ∧ (entryFrame s).power.low = s.power.low ∧
    (entryFrame s).power.lowArmed = s.power.lowArmed ∧ (entryFrame s).power.pll = s.power.pll ∧
    (entryFrame s).power.reading = s.power.reading ∧ (entryFrame s).power.st = s.power.st ∧
    (entryFrame s).power.tetherReset = s.power.tetherReset ∧ (entryFrame s).power.timer = s.power.timer ∧
    (entryFrame s).power.timerOn = s.power.timerOn ∧ (entryFrame s).power.wake = s.power.wake ∧
    (entryFrame s).pending = s.pending := by
  unfold entryFrame <;> (try dsimp only) <;> (repeat' split) <;> simp

@[simp] theorem entryPanel_frame (s : State) :
    (entryPanel s).fe = s.fe ∧ (entryPanel s).comp = s.comp ∧ (entryPanel s).tap = s.tap ∧
    (entryPanel s).writer = s.writer ∧ (entryPanel s).seq = s.seq ∧ (entryPanel s).store = s.store ∧
    (entryPanel s).mc.banks = s.mc.banks ∧ (entryPanel s).mc.debt = s.mc.debt ∧
    (entryPanel s).mc.flight = s.mc.flight ∧ (entryPanel s).mc.init = s.mc.init ∧
    (entryPanel s).mc.last = s.mc.last ∧ (entryPanel s).mc.lastSlot = s.mc.lastSlot ∧
    (entryPanel s).mc.phase = s.mc.phase ∧ (entryPanel s).mc.remainders = s.mc.remainders ∧
    (entryPanel s).slots = s.slots ∧ (entryPanel s).notes = s.notes ∧ (entryPanel s).meas = s.meas ∧
    (entryPanel s).render = s.render ∧ (entryPanel s).panel = s.panel ∧ (entryPanel s).ports = s.ports ∧
    (entryPanel s).power.charger = s.power.charger ∧ (entryPanel s).power.cutoff = s.power.cutoff ∧
    (entryPanel s).power.grace = s.power.grace ∧ (entryPanel s).power.inReset = s.power.inReset ∧
    (entryPanel s).power.low = s.power.low ∧ (entryPanel s).power.lowArmed = s.power.lowArmed ∧
    (entryPanel s).power.pll = s.power.pll ∧ (entryPanel s).power.reading = s.power.reading ∧
    (entryPanel s).power.st = s.power.st ∧ (entryPanel s).power.tetherReset = s.power.tetherReset ∧
    (entryPanel s).power.timer = s.power.timer ∧ (entryPanel s).power.timerOn = s.power.timerOn ∧
    (entryPanel s).power.wake = s.power.wake ∧ (entryPanel s).free = s.free ∧
    (entryPanel s).pending = s.pending := by
  unfold entryPanel <;> (try dsimp only) <;> (repeat' split) <;> simp

@[simp] theorem conclude_frame (before s : State) :
    (conclude before s).fe = s.fe ∧ (conclude before s).writer.seg = s.writer.seg ∧
    (conclude before s).seq.params = s.seq.params ∧ (conclude before s).seq.seg = s.seq.seg ∧
    (conclude before s).seq.taken = s.seq.taken ∧ (conclude before s).store.available = s.store.available ∧
    (conclude before s).store.low = s.store.low ∧ (conclude before s).store.sealCounter = s.store.sealCounter ∧
    (conclude before s).mc.debt = s.mc.debt ∧ (conclude before s).mc.init = s.mc.init ∧
    (conclude before s).mc.phase = s.mc.phase ∧ (conclude before s).slots.length = s.slots.length ∧
    (conclude before s).render.cursorA = s.render.cursorA ∧ (conclude before s).render.cursorB = s.render.cursorB ∧
    (conclude before s).render.divider = s.render.divider ∧ (conclude before s).render.drawnA = s.render.drawnA ∧
    (conclude before s).render.drawnB = s.render.drawnB ∧ (conclude before s).render.layout = s.render.layout ∧
    (conclude before s).render.liveCount = s.render.liveCount ∧
    (conclude before s).render.palette = s.render.palette ∧ (conclude before s).render.trace = s.render.trace ∧
    (conclude before s).render.view = s.render.view ∧ (conclude before s).power.charger = s.power.charger ∧
    (conclude before s).power.cutoff = s.power.cutoff ∧ (conclude before s).power.grace = s.power.grace ∧
    (conclude before s).power.inReset = s.power.inReset ∧ (conclude before s).power.low = s.power.low ∧
    (conclude before s).power.lowArmed = s.power.lowArmed ∧ (conclude before s).power.pll = s.power.pll ∧
    (conclude before s).power.reading = s.power.reading ∧ (conclude before s).power.st = s.power.st ∧
    (conclude before s).power.tetherReset = s.power.tetherReset ∧ (conclude before s).power.timer = s.power.timer ∧
    (conclude before s).power.timerOn = s.power.timerOn ∧ (conclude before s).power.wake = s.power.wake ∧
    (conclude before s).pending = s.pending := by
  unfold conclude <;> (try dsimp only) <;> (repeat' split) <;> simp

end Sys2Proof.Machine
end

