-- ==== Sys2Proof/Laws/Memory.lean ====
section
/-! SUPPORT. The SDRAM's bytes: a read after a write, and the canonical form kept by every write. -/

namespace Sys2Proof.Machine

/-! ## The canonical form -/

theorem Memory.wfFrom_mono {lo hi : Nat} (h : lo ≤ hi) : ∀ {m : Memory}, m.wfFrom hi = true → m.wfFrom lo = true
  | [], _ => rfl
  | (k, v) :: r, hw => by
    simp only [Memory.wfFrom, Bool.and_eq_true, decide_eq_true_eq] at hw ⊢
    exact ⟨⟨by omega, hw.1.2⟩, hw.2⟩

/-- An address below all entries reads as 0. -/
theorem Memory.read_of_wfFrom {lo a : Nat} (h : a < lo) : ∀ {m : Memory}, m.wfFrom lo = true → m.read a = 0
  | [], _ => rfl
  | (k, v) :: r, hw => by
    simp only [Memory.wfFrom, Bool.and_eq_true, decide_eq_true_eq] at hw
    rw [Memory.read, if_neg (by omega)]
    exact Memory.read_of_wfFrom (lo := k + 1) (by omega) hw.2

/-- A write keeps the canonical form. -/
theorem Memory.wfFrom_write {a : Nat} {v : Byte} : ∀ {lo : Nat} {m : Memory}, lo ≤ a → m.wfFrom lo = true →
    (m.write a v).wfFrom lo = true
  | lo, [], h, _ => by
    rw [Memory.write]
    split
    · rfl
    · simp_all [Memory.wfFrom]
  | lo, (k, w) :: r, h, hw => by
    simp only [Memory.wfFrom, Bool.and_eq_true, decide_eq_true_eq] at hw
    rw [Memory.write]
    split
    · split
      · simpa [Memory.wfFrom] using hw
      · simp only [Memory.wfFrom, Bool.and_eq_true, decide_eq_true_eq]
        exact ⟨⟨h, by assumption⟩, ⟨by omega, hw.1.2⟩, hw.2⟩
    · split
      · split
        · exact Memory.wfFrom_mono (by omega) hw.2
        · simp only [Memory.wfFrom, Bool.and_eq_true, decide_eq_true_eq]
          subst a
          exact ⟨⟨h, by assumption⟩, hw.2⟩
      · simp only [Memory.wfFrom, Bool.and_eq_true, decide_eq_true_eq]
        exact ⟨hw.1, Memory.wfFrom_write (by omega) hw.2⟩

theorem Memory.wf_write {m : Memory} (a : Nat) (v : Byte) (h : m.wf = true) : (m.write a v).wf = true :=
  Memory.wfFrom_write (Nat.zero_le a) h

theorem writeHalf_wf {m : Memory} (h : Nat) (v : Half) (hw : m.wf = true) : (writeHalf m h v).wf = true :=
  Memory.wf_write _ _ (Memory.wf_write _ _ hw)

theorem writeWord_wf {m : Memory} (b p : Nat) (w : Word) (hw : m.wf = true) : (writeWord m b p w).wf = true :=
  writeHalf_wf _ _ (writeHalf_wf _ _ hw)

theorem writeWords_wf {m : Memory} (b p : Nat) (ws : List Word) (hw : m.wf = true) :
    (writeWords m b p ws).wf = true := by
  induction ws generalizing m p with
  | nil => exact hw
  | cons w ws ih => exact ih (p + 1) (writeWord_wf b p w hw)

theorem reset_mem_wf : State.reset.store.mem.wf = true := rfl

/-! ## Read after write -/

/-- A write leaves every other address alone. -/
theorem Memory.read_write_ne {a b : Nat} {v : Byte} (h : b ≠ a) : ∀ m : Memory, (m.write a v).read b = m.read b
  | [] => by
    rw [Memory.write]
    split
    · rfl
    · simp [Memory.read, Ne.symm h]
  | (k, w) :: r => by
    rw [Memory.write]
    split
    · split
      · rfl
      · rw [Memory.read, if_neg (Ne.symm h)]
    · split
      · subst a
        split
        · rw [Memory.read.eq_2, if_neg (Ne.symm h)]
        · rw [Memory.read, Memory.read.eq_2, if_neg (Ne.symm h), if_neg (Ne.symm h)]
      · rw [Memory.read, Memory.read.eq_2, Memory.read_write_ne h r]

/-- A byte reads as what was written to it. -/
theorem Memory.read_write_same {a : Nat} {v : Byte} : ∀ {lo : Nat} {m : Memory}, m.wfFrom lo = true →
    (m.write a v).read a = v
  | _, [], _ => by
    rw [Memory.write]
    split
    · simp_all [Memory.read]
    · simp [Memory.read]
  | lo, (k, w) :: r, hw => by
    simp only [Memory.wfFrom, Bool.and_eq_true, decide_eq_true_eq] at hw
    rw [Memory.write]
    split
    · split
      · rename_i hv
        rw [Memory.read, if_neg (by omega), hv]
        exact Memory.read_of_wfFrom (lo := k + 1) (by omega) hw.2
      · simp [Memory.read]
    · split
      · split
        · rename_i hv
          rw [hv]
          exact Memory.read_of_wfFrom (lo := k + 1) (by omega) hw.2
        · simp [Memory.read]
      · rw [Memory.read, if_neg (by omega)]
        exact Memory.read_write_same hw.2

theorem Memory.read_write {m : Memory} (hw : m.wf = true) (a b : Nat) (v : Byte) :
    (m.write a v).read b = if b = a then v else m.read b := by
  split
  · subst b
    exact Memory.read_write_same hw
  · exact Memory.read_write_ne (by assumption) m

theorem readHalf_writeHalf {m : Memory} (hw : m.wf = true) (h k : Nat) (v : Half) :
    readHalf (writeHalf m h v) k = if k = h then v else readHalf m k := by
  have h1 := Memory.wf_write (2 * h) (v.extractLsb' 0 8) hw
  simp only [readHalf, writeHalf, Memory.read_write h1, Memory.read_write hw]
  by_cases e : k = h
  · subst k
    rw [if_pos rfl, if_neg (by omega), if_pos rfl, if_pos rfl]
    ext i hi
    simp only [BitVec.getElem_append, BitVec.getElem_extractLsb']
    split
    · simp [*]
    · rw [show 8 + (i - 8) = i by omega, BitVec.getLsbD_eq_getElem]
  · simp only [e, if_false]
    rw [if_neg (by omega), if_neg (by omega), if_neg (by omega), if_neg (by omega)]

/-- Bytes outside a place keep their value. -/
theorem Memory.read_writeWord_outside {m : Memory} {b p a : Nat} {w : Word}
    (h : a < 65536 * b + 4 * p ∨ 65536 * b + 4 * p + 4 ≤ a) : (writeWord m b p w).read a = m.read a := by
  unfold writeWord writeHalf placeHalf
  rw [Memory.read_write_ne (by omega), Memory.read_write_ne (by omega), Memory.read_write_ne (by omega),
    Memory.read_write_ne (by omega)]

theorem Memory.read_writeWords_outside {b a : Nat} : ∀ {m : Memory} {p : Nat} {ws : List Word},
    a < 65536 * b + 4 * p ∨ 65536 * b + 4 * (p + ws.length) ≤ a → (writeWords m b p ws).read a = m.read a
  | _, _, [], _ => rfl
  | m, p, w :: ws, h => by
    simp only [List.length_cons] at h
    rw [writeWords, Memory.read_writeWords_outside (p := p + 1) (by omega), Memory.read_writeWord_outside (by omega)]

end Sys2Proof.Machine
end

