-- ==== Sys2Proof/Laws/PerInstr.lean ====
section
/-! SUPPORT. One lemma per command: what a command row says about the frame that carries it. -/

namespace Sys2Proof.Laws

/-- A command that stands for a request has a kind code from 1 to 49 (R214), and is well formed exactly when its
request is. -/
def RowFrame.Statement (i : Instr) : Prop :=
  ∀ (p : Port) (tag : Tag) (r : Request), i.request? = some (p, tag, r) →
    1 ≤ Wire.code r ∧ Wire.code r ≤ 49 ∧ i.wf = r.wf

theorem RowFrame.of_some {i : Instr} {p : Port} {tag : Tag} {r : Request} (h : i.request? = some (p, tag, r))
    (lo : 1 ≤ Wire.code r) (hi : Wire.code r ≤ 49) (hw : i.wf = r.wf) : RowFrame.Statement i := by
  intro q t u hu
  rw [h] at hu
  injection hu with hu
  injection hu with _ hu
  injection hu with _ hu
  exact hu ▸ ⟨lo, hi, hw⟩

theorem RowFrame.of_none {i : Instr} (h : i.request? = none) : RowFrame.Statement i := by
  intro q t u hu
  rw [h] at hu
  simp at hu

theorem RowFrame.setPods (p : Port) (tag : Tag) (t0 t1 : Option Int) :
    RowFrame.Statement (.setPods p tag t0 t1) :=
  RowFrame.of_some rfl (Nat.le_of_ble_eq_true rfl) (Nat.le_of_ble_eq_true rfl) rfl

theorem RowFrame.setClock (p : Port) (tag : Tag) (d : Nat) (mask : Half) :
    RowFrame.Statement (.setClock p tag d mask) :=
  RowFrame.of_some rfl (Nat.le_of_ble_eq_true rfl) (Nat.le_of_ble_eq_true rfl) rfl

theorem RowFrame.setWatch (p : Port) (tag : Tag) (w : Option (Nat × Nat)) :
    RowFrame.Statement (.setWatch p tag w) :=
  RowFrame.of_some rfl (Nat.le_of_ble_eq_true rfl) (Nat.le_of_ble_eq_true rfl) rfl

theorem RowFrame.loadTrigger (p : Port) (tag : Tag) (a : ArmParams) :
    RowFrame.Statement (.loadTrigger p tag a) :=
  RowFrame.of_some rfl (Nat.le_of_ble_eq_true rfl) (Nat.le_of_ble_eq_true rfl) rfl

theorem RowFrame.arm (p : Port) (tag : Tag) :
    RowFrame.Statement (.arm p tag) :=
  RowFrame.of_some rfl (Nat.le_of_ble_eq_true rfl) (Nat.le_of_ble_eq_true rfl) rfl

theorem RowFrame.force (p : Port) (tag : Tag) :
    RowFrame.Statement (.force p tag) :=
  RowFrame.of_some rfl (Nat.le_of_ble_eq_true rfl) (Nat.le_of_ble_eq_true rfl) rfl

theorem RowFrame.halt (p : Port) (tag : Tag) :
    RowFrame.Statement (.halt p tag) :=
  RowFrame.of_some rfl (Nat.le_of_ble_eq_true rfl) (Nat.le_of_ble_eq_true rfl) rfl

theorem RowFrame.setStoreLow (p : Port) (tag : Tag) (n : Nat) :
    RowFrame.Statement (.setStoreLow p tag n) :=
  RowFrame.of_some rfl (Nat.le_of_ble_eq_true rfl) (Nat.le_of_ble_eq_true rfl) rfl

theorem RowFrame.drop (p : Port) (tag : Tag) (seg : Nat) :
    RowFrame.Statement (.drop p tag seg) :=
  RowFrame.of_some rfl (Nat.le_of_ble_eq_true rfl) (Nat.le_of_ble_eq_true rfl) rfl

theorem RowFrame.keep (p : Port) (tag : Tag) (seg : Nat) :
    RowFrame.Statement (.keep p tag seg) :=
  RowFrame.of_some rfl (Nat.le_of_ble_eq_true rfl) (Nat.le_of_ble_eq_true rfl) rfl

theorem RowFrame.unkeep (p : Port) (tag : Tag) (seg : Nat) :
    RowFrame.Statement (.unkeep p tag seg) :=
  RowFrame.of_some rfl (Nat.le_of_ble_eq_true rfl) (Nat.le_of_ble_eq_true rfl) rfl

theorem RowFrame.readRecords (p : Port) (tag : Tag) (seg fromTick toTick : Nat) :
    RowFrame.Statement (.readRecords p tag seg fromTick toTick) :=
  RowFrame.of_some rfl (Nat.le_of_ble_eq_true rfl) (Nat.le_of_ble_eq_true rfl) rfl

theorem RowFrame.decStart (p : Port) (tag : Tag) (slot : Nat) (proto : Protocol) (src : Source) (quota level : Nat) :
    RowFrame.Statement (.decStart p tag slot proto src quota level) :=
  RowFrame.of_some rfl (Nat.le_of_ble_eq_true rfl) (Nat.le_of_ble_eq_true rfl) rfl

theorem RowFrame.decStop (p : Port) (tag : Tag) (slot : Nat) :
    RowFrame.Statement (.decStop p tag slot) :=
  RowFrame.of_some rfl (Nat.le_of_ble_eq_true rfl) (Nat.le_of_ble_eq_true rfl) rfl

theorem RowFrame.decClear (p : Port) (tag : Tag) (slot : Nat) :
    RowFrame.Statement (.decClear p tag slot) :=
  RowFrame.of_some rfl (Nat.le_of_ble_eq_true rfl) (Nat.le_of_ble_eq_true rfl) rfl

theorem RowFrame.queueTake (p : Port) (tag : Tag) (slot n : Nat) :
    RowFrame.Statement (.queueTake p tag slot n) :=
  RowFrame.of_some rfl (Nat.le_of_ble_eq_true rfl) (Nat.le_of_ble_eq_true rfl) rfl

theorem RowFrame.queuePeek (p : Port) (tag : Tag) (slot : Nat) :
    RowFrame.Statement (.queuePeek p tag slot) :=
  RowFrame.of_some rfl (Nat.le_of_ble_eq_true rfl) (Nat.le_of_ble_eq_true rfl) rfl

theorem RowFrame.readNotes (p : Port) (tag : Tag) (slot seg fromTick toTick max : Nat) :
    RowFrame.Statement (.readNotes p tag slot seg fromTick toTick max) :=
  RowFrame.of_some rfl (Nat.le_of_ble_eq_true rfl) (Nat.le_of_ble_eq_true rfl) rfl

theorem RowFrame.measure (p : Port) (tag : Tag) (seg a b : Nat) (mask : Half) :
    RowFrame.Statement (.measure p tag seg a b mask) :=
  RowFrame.of_some rfl (Nat.le_of_ble_eq_true rfl) (Nat.le_of_ble_eq_true rfl) rfl

theorem RowFrame.measureResult (p : Port) (tag : Tag) :
    RowFrame.Statement (.measureResult p tag) :=
  RowFrame.of_some rfl (Nat.le_of_ble_eq_true rfl) (Nat.le_of_ble_eq_true rfl) rfl

theorem RowFrame.setView (p : Port) (tag : Tag) (seg : ViewSeg) (t0 scale : Nat) (follow : Bool) :
    RowFrame.Statement (.setView p tag seg t0 scale follow) :=
  RowFrame.of_some rfl (Nat.le_of_ble_eq_true rfl) (Nat.le_of_ble_eq_true rfl) rfl

theorem RowFrame.setLayout (p : Port) (tag : Tag) (rows : List RowReq) :
    RowFrame.Statement (.setLayout p tag rows) :=
  RowFrame.of_some rfl (Nat.le_of_ble_eq_true rfl) (Nat.le_of_ble_eq_true rfl) rfl

theorem RowFrame.setPalette (p : Port) (tag : Tag) (colours : List Half) :
    RowFrame.Statement (.setPalette p tag colours) :=
  RowFrame.of_some rfl (Nat.le_of_ble_eq_true rfl) (Nat.le_of_ble_eq_true rfl) rfl

theorem RowFrame.setCursors (p : Port) (tag : Tag) (a b : Option Nat) :
    RowFrame.Statement (.setCursors p tag a b) :=
  RowFrame.of_some rfl (Nat.le_of_ble_eq_true rfl) (Nat.le_of_ble_eq_true rfl) rfl

theorem RowFrame.setLiveDivider (p : Port) (tag : Tag) (n : Nat) :
    RowFrame.Statement (.setLiveDivider p tag n) :=
  RowFrame.of_some rfl (Nat.le_of_ble_eq_true rfl) (Nat.le_of_ble_eq_true rfl) rfl

theorem RowFrame.panelSetup (p : Port) (tag : Tag) (r : PanelSetup) :
    RowFrame.Statement (.panelSetup p tag r) :=
  RowFrame.of_some rfl (Nat.le_of_ble_eq_true rfl) (Nat.le_of_ble_eq_true rfl) rfl

theorem RowFrame.panelOn (p : Port) (tag : Tag) :
    RowFrame.Statement (.panelOn p tag) :=
  RowFrame.of_some rfl (Nat.le_of_ble_eq_true rfl) (Nat.le_of_ble_eq_true rfl) rfl

theorem RowFrame.panelOff (p : Port) (tag : Tag) :
    RowFrame.Statement (.panelOff p tag) :=
  RowFrame.of_some rfl (Nat.le_of_ble_eq_true rfl) (Nat.le_of_ble_eq_true rfl) rfl

theorem RowFrame.panelSleep (p : Port) (tag : Tag) :
    RowFrame.Statement (.panelSleep p tag) :=
  RowFrame.of_some rfl (Nat.le_of_ble_eq_true rfl) (Nat.le_of_ble_eq_true rfl) rfl

theorem RowFrame.panelWake (p : Port) (tag : Tag) :
    RowFrame.Statement (.panelWake p tag) :=
  RowFrame.of_some rfl (Nat.le_of_ble_eq_true rfl) (Nat.le_of_ble_eq_true rfl) rfl

theorem RowFrame.overlaySet (p : Port) (tag : Tag) (id x y w h : Nat) :
    RowFrame.Statement (.overlaySet p tag id x y w h) :=
  RowFrame.of_some rfl (Nat.le_of_ble_eq_true rfl) (Nat.le_of_ble_eq_true rfl) rfl

theorem RowFrame.overlayClear (p : Port) (tag : Tag) (id : Nat) :
    RowFrame.Statement (.overlayClear p tag id) :=
  RowFrame.of_some rfl (Nat.le_of_ble_eq_true rfl) (Nat.le_of_ble_eq_true rfl) rfl

theorem RowFrame.overlayPixels (p : Port) (tag : Tag) (id offset : Nat) (pixels : List Half) :
    RowFrame.Statement (.overlayPixels p tag id offset pixels) :=
  RowFrame.of_some rfl (Nat.le_of_ble_eq_true rfl) (Nat.le_of_ble_eq_true rfl) rfl

theorem RowFrame.panelStatus (p : Port) (tag : Tag) :
    RowFrame.Statement (.panelStatus p tag) :=
  RowFrame.of_some rfl (Nat.le_of_ble_eq_true rfl) (Nat.le_of_ble_eq_true rfl) rfl

theorem RowFrame.claim (p : Port) (tag : Tag) (take : Bool) :
    RowFrame.Statement (.claim p tag take) :=
  RowFrame.of_some rfl (Nat.le_of_ble_eq_true rfl) (Nat.le_of_ble_eq_true rfl) rfl

theorem RowFrame.release (p : Port) (tag : Tag) :
    RowFrame.Statement (.release p tag) :=
  RowFrame.of_some rfl (Nat.le_of_ble_eq_true rfl) (Nat.le_of_ble_eq_true rfl) rfl

theorem RowFrame.portReset (p : Port) (tag : Tag) :
    RowFrame.Statement (.portReset p tag) :=
  RowFrame.of_some rfl (Nat.le_of_ble_eq_true rfl) (Nat.le_of_ble_eq_true rfl) rfl

theorem RowFrame.readNext (p : Port) (tag : Tag) :
    RowFrame.Statement (.readNext p tag) :=
  RowFrame.of_some rfl (Nat.le_of_ble_eq_true rfl) (Nat.le_of_ble_eq_true rfl) rfl

theorem RowFrame.streamCancel (p : Port) (tag : Tag) :
    RowFrame.Statement (.streamCancel p tag) :=
  RowFrame.of_some rfl (Nat.le_of_ble_eq_true rfl) (Nat.le_of_ble_eq_true rfl) rfl

theorem RowFrame.alertLevels (p : Port) (tag : Tag) (pairs : List (Nat × Nat)) :
    RowFrame.Statement (.alertLevels p tag pairs) :=
  RowFrame.of_some rfl (Nat.le_of_ble_eq_true rfl) (Nat.le_of_ble_eq_true rfl) rfl

theorem RowFrame.alertFetch (p : Port) (tag : Tag) :
    RowFrame.Statement (.alertFetch p tag) :=
  RowFrame.of_some rfl (Nat.le_of_ble_eq_true rfl) (Nat.le_of_ble_eq_true rfl) rfl

theorem RowFrame.identify (p : Port) (tag : Tag) :
    RowFrame.Statement (.identify p tag) :=
  RowFrame.of_some rfl (Nat.le_of_ble_eq_true rfl) (Nat.le_of_ble_eq_true rfl) rfl

theorem RowFrame.nop (p : Port) (tag : Tag) :
    RowFrame.Statement (.nop p tag) :=
  RowFrame.of_some rfl (Nat.le_of_ble_eq_true rfl) (Nat.le_of_ble_eq_true rfl) rfl

theorem RowFrame.statusAcquisition (p : Port) (tag : Tag) :
    RowFrame.Statement (.statusAcquisition p tag) :=
  RowFrame.of_some rfl (Nat.le_of_ble_eq_true rfl) (Nat.le_of_ble_eq_true rfl) rfl

theorem RowFrame.statusStore (p : Port) (tag : Tag) :
    RowFrame.Statement (.statusStore p tag) :=
  RowFrame.of_some rfl (Nat.le_of_ble_eq_true rfl) (Nat.le_of_ble_eq_true rfl) rfl

theorem RowFrame.statusDecoders (p : Port) (tag : Tag) :
    RowFrame.Statement (.statusDecoders p tag) :=
  RowFrame.of_some rfl (Nat.le_of_ble_eq_true rfl) (Nat.le_of_ble_eq_true rfl) rfl

theorem RowFrame.statusRender (p : Port) (tag : Tag) :
    RowFrame.Statement (.statusRender p tag) :=
  RowFrame.of_some rfl (Nat.le_of_ble_eq_true rfl) (Nat.le_of_ble_eq_true rfl) rfl

theorem RowFrame.statusPort (p : Port) (tag : Tag) :
    RowFrame.Statement (.statusPort p tag) :=
  RowFrame.of_some rfl (Nat.le_of_ble_eq_true rfl) (Nat.le_of_ble_eq_true rfl) rfl

theorem RowFrame.doze (p : Port) (tag : Tag) (secs : Nat) :
    RowFrame.Statement (.doze p tag secs) :=
  RowFrame.of_some rfl (Nat.le_of_ble_eq_true rfl) (Nat.le_of_ble_eq_true rfl) rfl

theorem RowFrame.wakeCausesClear (p : Port) (tag : Tag) :
    RowFrame.Statement (.wakeCausesClear p tag) :=
  RowFrame.of_some rfl (Nat.le_of_ble_eq_true rfl) (Nat.le_of_ble_eq_true rfl) rfl

theorem RowFrame.setBattery (p : Port) (tag : Tag) (low cutoff : Nat) :
    RowFrame.Statement (.setBattery p tag low cutoff) :=
  RowFrame.of_some rfl (Nat.le_of_ble_eq_true rfl) (Nat.le_of_ble_eq_true rfl) rfl

theorem RowFrame.resetPart (p : Port) (tag : Tag) :
    RowFrame.Statement (.resetPart p tag) :=
  RowFrame.of_some rfl (Nat.le_of_ble_eq_true rfl) (Nat.le_of_ble_eq_true rfl) rfl

theorem RowFrame.powerStatus (p : Port) (tag : Tag) :
    RowFrame.Statement (.powerStatus p tag) :=
  RowFrame.of_some rfl (Nat.le_of_ble_eq_true rfl) (Nat.le_of_ble_eq_true rfl) rfl

theorem RowFrame.consoleTransaction (frame : List Byte) (batt : Nat) :
    RowFrame.Statement (.consoleTransaction frame batt) :=
  RowFrame.of_none rfl

theorem RowFrame.shortTransaction (frame : List Byte) (batt : Nat) :
    RowFrame.Statement (.shortTransaction frame batt) :=
  RowFrame.of_none rfl

theorem RowFrame.tetherRequestTransfer (frame : List Byte) :
    RowFrame.Statement (.tetherRequestTransfer frame) :=
  RowFrame.of_none rfl

theorem RowFrame.tetherReplyAck :
    RowFrame.Statement .tetherReplyAck :=
  RowFrame.of_none rfl

theorem RowFrame.streamPacketAck :
    RowFrame.Statement .streamPacketAck :=
  RowFrame.of_none rfl

theorem RowFrame.usbConfigure :
    RowFrame.Statement .usbConfigure :=
  RowFrame.of_none rfl

theorem RowFrame.usbSuspend :
    RowFrame.Statement .usbSuspend :=
  RowFrame.of_none rfl

theorem RowFrame.usbResume (batt : Nat) :
    RowFrame.Statement (.usbResume batt) :=
  RowFrame.of_none rfl

theorem RowFrame.usbBusReset (batt : Nat) :
    RowFrame.Statement (.usbBusReset batt) :=
  RowFrame.of_none rfl

theorem RowFrame.vbusLoss :
    RowFrame.Statement .vbusLoss :=
  RowFrame.of_none rfl

theorem RowFrame.vbusPresent :
    RowFrame.Statement .vbusPresent :=
  RowFrame.of_none rfl

theorem RowFrame.remoteWakeAllow :
    RowFrame.Statement .remoteWakeAllow :=
  RowFrame.of_none rfl

theorem RowFrame.remoteWakeForbid :
    RowFrame.Statement .remoteWakeForbid :=
  RowFrame.of_none rfl

theorem RowFrame.senseLineChange (pod : Fin 2) (attached : Bool) (now : Nat) :
    RowFrame.Statement (.senseLineChange pod attached now) :=
  RowFrame.of_none rfl

theorem RowFrame.debounceExpiry (pod : Fin 2) (now : Nat) :
    RowFrame.Statement (.debounceExpiry pod now) :=
  RowFrame.of_none rfl

theorem RowFrame.sampleTick (inputs : List Int) :
    RowFrame.Statement (.sampleTick inputs) :=
  RowFrame.of_none rfl

theorem RowFrame.idleExtend (stream : RecStream) :
    RowFrame.Statement (.idleExtend stream) :=
  RowFrame.of_none rfl

theorem RowFrame.primingEnd :
    RowFrame.Statement .primingEnd :=
  RowFrame.of_none rfl

theorem RowFrame.stageTimeout :
    RowFrame.Statement .stageTimeout :=
  RowFrame.of_none rfl

theorem RowFrame.postfillEnd :
    RowFrame.Statement .postfillEnd :=
  RowFrame.of_none rfl

theorem RowFrame.timeLimit :
    RowFrame.Statement .timeLimit :=
  RowFrame.of_none rfl

theorem RowFrame.lossClose :
    RowFrame.Statement .lossClose :=
  RowFrame.of_none rfl

theorem RowFrame.endLossClose :
    RowFrame.Statement .endLossClose :=
  RowFrame.of_none rfl

theorem RowFrame.tapGapClose :
    RowFrame.Statement .tapGapClose :=
  RowFrame.of_none rfl

theorem RowFrame.writerBurstEnd :
    RowFrame.Statement .writerBurstEnd :=
  RowFrame.of_none rfl

theorem RowFrame.readBurstEnd :
    RowFrame.Statement .readBurstEnd :=
  RowFrame.of_none rfl

theorem RowFrame.refreshDue :
    RowFrame.Statement .refreshDue :=
  RowFrame.of_none rfl

theorem RowFrame.refreshEnd :
    RowFrame.Statement .refreshEnd :=
  RowFrame.of_none rfl

theorem RowFrame.tapEntryConsume (slot : Fin 4) :
    RowFrame.Statement (.tapEntryConsume slot) :=
  RowFrame.of_none rfl

theorem RowFrame.classifyEnd :
    RowFrame.Statement .classifyEnd :=
  RowFrame.of_none rfl

theorem RowFrame.teEvent (rising : Bool) :
    RowFrame.Statement (.teEvent rising) :=
  RowFrame.of_none rfl

theorem RowFrame.liveTimerExpiry :
    RowFrame.Statement .liveTimerExpiry :=
  RowFrame.of_none rfl

theorem RowFrame.teMissingTimeout :
    RowFrame.Statement .teMissingTimeout :=
  RowFrame.of_none rfl

theorem RowFrame.bandWritten :
    RowFrame.Statement .bandWritten :=
  RowFrame.of_none rfl

theorem RowFrame.overlayChunkEnd :
    RowFrame.Statement .overlayChunkEnd :=
  RowFrame.of_none rfl

theorem RowFrame.overlayChangeApply :
    RowFrame.Statement .overlayChangeApply :=
  RowFrame.of_none rfl

theorem RowFrame.initDelayEnd :
    RowFrame.Statement .initDelayEnd :=
  RowFrame.of_none rfl

theorem RowFrame.panelStartDone :
    RowFrame.Statement .panelStartDone :=
  RowFrame.of_none rfl

theorem RowFrame.offSequenceEnd :
    RowFrame.Statement .offSequenceEnd :=
  RowFrame.of_none rfl

theorem RowFrame.sleepInEnd :
    RowFrame.Statement .sleepInEnd :=
  RowFrame.of_none rfl

theorem RowFrame.wakeDelayEnd :
    RowFrame.Statement .wakeDelayEnd :=
  RowFrame.of_none rfl

theorem RowFrame.powerOn :
    RowFrame.Statement .powerOn :=
  RowFrame.of_none rfl

theorem RowFrame.resetPin :
    RowFrame.Statement .resetPin :=
  RowFrame.of_none rfl

theorem RowFrame.pllLock :
    RowFrame.Statement .pllLock :=
  RowFrame.of_none rfl

theorem RowFrame.initWaitEnd :
    RowFrame.Statement .initWaitEnd :=
  RowFrame.of_none rfl

theorem RowFrame.sdramInitDone (inputs : List Int) (batt : Nat) :
    RowFrame.Statement (.sdramInitDone inputs batt) :=
  RowFrame.of_none rfl

theorem RowFrame.selfRefreshEntered (batt : Nat) :
    RowFrame.Statement (.selfRefreshEntered batt) :=
  RowFrame.of_none rfl

theorem RowFrame.selfRefreshExited (inputs : List Int) (now : Nat) :
    RowFrame.Statement (.selfRefreshExited inputs now) :=
  RowFrame.of_none rfl

theorem RowFrame.watchEdge (inputs : List Int) (batt : Nat) :
    RowFrame.Statement (.watchEdge inputs batt) :=
  RowFrame.of_none rfl

theorem RowFrame.wakeTimerExpiry (batt : Nat) :
    RowFrame.Statement (.wakeTimerExpiry batt) :=
  RowFrame.of_none rfl

theorem RowFrame.chargerSenseChange (present : Bool) (batt : Nat) :
    RowFrame.Statement (.chargerSenseChange present batt) :=
  RowFrame.of_none rfl

theorem RowFrame.batterySample (batt : Nat) :
    RowFrame.Statement (.batterySample batt) :=
  RowFrame.of_none rfl

theorem RowFrame.graceExpiry :
    RowFrame.Statement .graceExpiry :=
  RowFrame.of_none rfl

theorem RowFrame.chipSelectAssertion (batt : Nat) :
    RowFrame.Statement (.chipSelectAssertion batt) :=
  RowFrame.of_none rfl

theorem RowFrame.resetRelease (now : Nat) :
    RowFrame.Statement (.resetRelease now) :=
  RowFrame.of_none rfl

end Sys2Proof.Laws
end

