-- ==== Sys2Proof/Laws/Specs.lean ====
section
/-! SUPPORT. One lemma for what each of the steps every statement goes through does: a request row, a change of a table
entry, what a command concludes with, freed segments and pins, the preferred segment, the tap's next entry, the
writer's account, the panel bus. -/

namespace Sys2Proof.Machine

/-! ## Request rows -/

/-- A request that reaches its own rule does what its rule says. -/
theorem receive_ready {s : State} {p : Port} {tag : Tag} {r : Request} (h : s.ready p r) :
    receive p tag r s = perform (asking p (Wire.code r) tag) r s := by
  obtain ⟨h1, h2, h3⟩ := h
  simp only [receive, take, h1, h2, h3, if_true, Bool.false_eq_true, if_false]
  rfl

theorem receiveActive_ready {s : State} {p : Port} {tag : Tag} {r : Request} (h : s.ready p r) :
    receiveActive p tag r s = conclude s (perform (asking p (Wire.code r) tag) r s) := by
  rw [receiveActive, receive_ready h]

/-- Whether a request is ready depends on it only by the claim it needs and on being served always. -/
theorem ready_of_alike {s : State} {p : Port} {r r' : Request} (h : s.ready p r) (a : r.alwaysServed = r'.alwaysServed)
    (b : r.needsClaim = r'.needsClaim) : s.ready p r' := by
  obtain ⟨h1, h2, h3⟩ := h
  refine ⟨h1, ?_, ?_⟩
  · simpa only [State.busy, a] using h2
  · simpa only [claimCheck, b] using h3

/-- A port that receives no request: the row changes nothing. -/
theorem receive_absent {s : State} {p : Port} {tag : Tag} {r : Request} (h : s.receives p = false) :
    receive p tag r s = s := by
  simp [receive, h]

/-- A request row is its request received, followed or not by what such a command ends with. -/
theorem exec_request {c : Instr} {p : Port} {tag : Tag} {r : Request} (s : State) (h : c.request? = some (p, tag, r)) :
    exec c s = .next (receive p tag r s) ∨ exec c s = .next (conclude s (receive p tag r s)) := by
  cases c <;> simp only [Instr.request?, Option.some.injEq, Prod.mk.injEq, reduceCtorEq] at h <;>
    obtain ⟨rfl, rfl, rfl⟩ := h <;> first | exact .inl rfl | exact .inr rfl

/-! ## Table entries -/

theorem getD_set_self {α : Type} (l : List α) (n : Nat) (x d : α) (h : n < l.length) : (l.set n x).getD n d = x := by
  simp [List.getD_eq_getElem?_getD, h]

theorem getD_set_ne {α : Type} (l : List α) {n m : Nat} (x d : α) (h : m ≠ n) : (l.set n x).getD m d = l.getD m d := by
  simp [List.getD_eq_getElem?_getD, Ne.symm h]

theorem seg_setSeg {s : State} {n : Nat} {e : Segment} (h : n < s.store.segs.length) (m : Nat) :
    (s.setSeg n e).seg m = if m = n then e else s.seg m := by
  simp only [State.seg, State.setSeg_segs]
  split
  · subst m; exact getD_set_self _ _ _ _ h
  · exact getD_set_ne _ _ _ (by assumption)

theorem slot_setSlot {s : State} {n : Nat} {x : Slot} (h : n < s.slots.length) (m : Nat) :
    (s.setSlot n x).slot m = if m = n then x else s.slot m := by
  simp only [State.slot, State.setSlot_slots]
  split
  · subst m; exact getD_set_self _ _ _ _ h
  · exact getD_set_ne _ _ _ (by assumption)

theorem seg_congr {s t : State} (h : t.store.segs = s.store.segs) (n : Nat) : t.seg n = s.seg n := by
  simp [State.seg, h]

/-! ## Alerts and the store -/

/-- The STORE_LOW test changes the flag that arms it and raises the alert, nothing else. -/
theorem storeLowTest_eq (s : State) :
    storeLowTest s = s ∨
    storeLowTest s = { s with store := { s.store with armed := true } } ∨
    storeLowTest s = raiseBoth .storeLow s.store.freeCount { s with store := { s.store with armed := false } } := by
  unfold storeLowTest
  split
  · split
    · exact .inr (.inr rfl)
    · exact .inl rfl
  · split
    · exact .inr (.inl rfl)
    · exact .inl rfl

/-! ## What a command ends with -/

/-- A measurement with a tick left to account goes on. -/
theorem finishMeasure_idle {s : State} (h : s.meas.st ≠ .busy ∨ s.meas.acct < s.meas.b) : finishMeasure s = s := by
  unfold finishMeasure
  rw [if_neg]
  rcases h with h | h <;> simp [h]

/-- A measurement with none left completes. -/
theorem finishMeasure_done {s : State} (h1 : s.meas.st = .busy) (h2 : s.meas.b ≤ s.meas.acct) :
    finishMeasure s = completeMeasure s := by
  simp [finishMeasure, h1, h2]

/-- Outside ENTRY, and when the writer does not become urgent, a command ends with the writer's block, the controller's
progress and its grants, and the end of a measurement these leave nothing to account. -/
theorem conclude_quiet {before s : State} (h : s.power.st ≠ .entry) (hu : before.urgent = true ∨ s.urgent = false) :
    conclude before s = finishMeasure (if s.power.pll = .locked then arbitrate (progress (serveWriter s))
      else progress (serveWriter s)) := by
  have he : entryPanel (entryFrame s) = s := by simp [entryPanel, entryFrame, h]
  have hw : (progress (serveWriter s)).urgent = s.urgent := by simp [State.urgent]
  have hc : cutIfUrgent before (progress (serveWriter s)) = progress (serveWriter s) := by
    unfold cutIfUrgent
    rw [hw, if_neg]
    rcases hu with hu | hu <;> simp [hu]
  simp [conclude, he, hc]

/-- A writer that needs no block asks for none. -/
theorem serveWriter_idle {s : State} (h : s.writer.seg = none ∨ s.writer.written < Config.blockRecords ∨
    s.comp.staging = []) : serveWriter s = s := by
  unfold serveWriter
  split
  · rfl
  · rw [if_pos]
    rcases h with h | h | h
    · simp_all
    · exact .inl h
    · simp [h]

/-! ## Freed segments and pins -/

/-- A freed segment's entry is EMPTY; the others stay. -/
theorem freeSegment_seg (n : Nat) (s : State) (m : Nat) :
    (freeSegment n s).seg m = if m = n ∧ n < s.store.segs.length then Segment.empty else s.seg m := by
  have h : (freeSegment n s).store.segs = s.store.segs.set n Segment.empty := by
    simp [freeSegment, forgetSegment, purgeSegment]
  simp only [State.seg, h]
  split
  · rename_i hm; rw [hm.1]; exact getD_set_self _ _ _ _ hm.2
  · rename_i hm
    by_cases e : m = n
    · subst e; rw [List.set_eq_of_length_le (by omega)]
    · exact getD_set_ne _ _ _ e

/-- A dropped pin leaves the other entries; its own is EMPTY when it was RELEASING and no pin is left (R76). -/
theorem dropPin_seg {n : Nat} {s : State} (f : Pins → Pins) (h : n < s.store.segs.length) (m : Nat) :
    (dropPin n f s).seg m = if m = n then
      (if (s.seg n).state = .releasing ∧ (f (s.seg n).pins).any = false then Segment.empty
        else { s.seg n with pins := f (s.seg n).pins }) else s.seg m := by
  have hl : n < (s.setSeg n { s.seg n with pins := f (s.seg n).pins }).store.segs.length := by simpa using h
  unfold dropPin
  by_cases hc : (s.seg n).state = .releasing ∧ (f (s.seg n).pins).any = false
  · rw [if_pos (by simp [hc]), freeSegment_seg, seg_setSeg h, if_pos hc]
    by_cases e : m = n <;> simp [e, h]
  · rw [if_neg (by simpa using hc), seg_setSeg h, if_neg hc]

/-! ## The preferred segment -/

/-- No entry passes the test. -/
theorem bestSegment_none {ok : Segment → Bool} {better : Segment → Segment → Bool} : ∀ {l : List Segment} {n : Nat},
    (∀ e ∈ l, ok e = false) → bestSegment ok better l n = none
  | [], _, _ => rfl
  | e :: r, n, h => by
    rw [bestSegment, bestSegment_none (l := r) fun x hx => h x (by simp [hx])]
    simp [h e (by simp)]

/-- With no preference the first entry that passes the test is the answer. -/
theorem bestSegment_first {ok : Segment → Bool} : ∀ {pre post : List Segment} {e : Segment} {n : Nat},
    (∀ x ∈ pre, ok x = false) → ok e = true →
      (bestSegment ok (fun _ _ => false) (pre ++ e :: post) n).map (·.1) = some (n + pre.length)
  | [], post, e, n, _, h => by
    simp only [List.nil_append, bestSegment]
    split <;> simp [h]
  | x :: pre, post, e, n, hp, h => by
    have ih := bestSegment_first (pre := pre) (post := post) (n := n + 1) (fun y hy => hp y (List.mem_cons_of_mem _ hy)) h
    simp only [List.cons_append, bestSegment, hp x (by simp)]
    split
    · rename_i hn; simp [hn] at ih
    · rename_i hn; simp [hn] at ih; simp [ih]; omega

/-! ## Stops -/

/-- No loss interval is open: there is no held END to queue. -/
theorem closeHeldEnd_closed {s : State} (h : s.comp.lossOpen = false) : closeHeldEnd s = s := by
  unfold closeHeldEnd
  split
  · rw [if_neg]; simp [canCloseLoss, h]
  · rfl

/-! ## The tap -/

/-- The entry a slot consumes next is the first it owes; it leaves the tap with its last ower. -/
theorem takeEntry_first {k : Nat} {pre : List TapEntry} {e : TapEntry} (post : List TapEntry)
    (h : ∀ y ∈ pre, k ∉ y.owed) (h2 : k ∈ e.owed) :
    takeEntry k (pre ++ e :: post) = some (e, pre ++ (if e.owed.filter (· ≠ k) = [] then post
      else { e with owed := e.owed.filter (· ≠ k) } :: post)) := by
  induction pre with
  | nil => simp [takeEntry, h2]
  | cons a l ih =>
    have ha : k ∉ a.owed := h a (by simp)
    rw [List.cons_append, takeEntry, ih fun y hy => h y (by simp [hy])]
    simp [ha]

theorem takeEntry_none {k : Nat} {l : List TapEntry} (h : ∀ y ∈ l, k ∉ y.owed) : takeEntry k l = none := by
  induction l with
  | nil => rfl
  | cons a l ih => simp [takeEntry, h a (by simp), ih fun y hy => h y (by simp [hy])]

/-! ## The writer -/

/-- The writer's time advances by the deltas of the records written. -/
theorem follow_time (rs : List Record) (w : Writer) : (w.follow rs).time = w.time + (rs.map Record.delta).sum := by
  induction rs generalizing w with
  | nil => simp [Writer.follow]
  | cons r rs ih =>
    simp only [Writer.follow, ih, List.map_cons, List.sum_cons]
    rcases r with ⟨b, st⟩ | ⟨d, st⟩ | d | ⟨d, k, a⟩ <;> (try cases k) <;> simp [Record.delta] <;> omega

theorem meaningless_length (f k : Nat) : (meaningless f k).length = k := by
  induction k <;> simp [meaningless, *]

/-! ## The panel bus -/

/-- With no overlay change pending, a boundary is a grant. -/
theorem busBoundary_idle {f : Bool} {s : State} (h : s.panel.bus = .idle) (hc : s.panel.changes = []) :
    busBoundary f s = busGrant (63 + 1) f s := by
  unfold busBoundary
  rw [if_pos h, hc]
  simp only [applyChanges]
  congr 1
  cases s; rename_i p _ _ _ _; cases p; simp at hc; subst hc; rfl

/-- With nothing waiting and nothing emitting there is nothing to grant but a chunk. -/
theorem busGrant_none {f : Bool} {n : Nat} {s : State} (h2 : s.panel.waiting = [])
    (h3 : s.panel.queue = [] ∨ s.panel.st ≠ .showing) (h4 : s.panel.emission = .idle) : busGrant (n + 1) f s = s := by
  rw [busGrant]
  simp [beginEmission, h2, h4]
  intro a b
  rcases h3 with h | h <;> contradiction

end Sys2Proof.Machine
end

