-- ==== Sys2Proof/Tests/Slice0.lean ====
section
/-! SUPPORT. The model's own tests: ill-formed commands, a few results the manual works out, and for every statement
of Certificates/Slice0/Obligations.lean with hypotheses a state and operands that meet them, clause by clause. -/

namespace Sys2Proof.Tests

set_option Elab.async false

open Sys2Proof.Machine

/-! ## Ill-formed commands, one for each check of WellFormed -/

/-- A request field too large for its bytes, of each width and kind (R214). -/
theorem test_wf_fields :
    (Instr.drop .console 0 256).wf = false ∧ (Instr.doze .console 0 65536).wf = false ∧
    (Instr.setClock .console 0 4294967296 0).wf = false ∧ (Instr.readRecords .console 0 0 0 (2 ^ 48)).wf = false ∧
    (Instr.setView .console 0 .follow 0 (2 ^ 64) true).wf = false ∧
    (Instr.setPods .console 0 (some 32768) none).wf = false ∧ (Instr.setPods .console 0 none (some (-32769))).wf = false ∧
    (Instr.setCursors .tether 0 none (some (2 ^ 48))).wf = false ∧
    (Instr.setWatch .console 0 (some (256, 0))).wf = false ∧ (Instr.setWatch .console 0 (some (0, 4))).wf = false ∧
    (Instr.setView .console 0 (.number 256) 0 0 true).wf = false := by decide +kernel

/-- Arm parameters: a stage table of another length, a stage that does not fit (R39). -/
theorem test_wf_params :
    (Instr.loadTrigger .console 0 { ArmParams.reset with stages := [] }).wf = false ∧
    (Instr.loadTrigger .console 0 { ArmParams.reset with wPre := 2 ^ 48 }).wf = false ∧
    ({ Stage.reset with cond := .pattern [] } : Stage).wf = false ∧
    ({ Stage.reset with cond := .decoder 0 256 0 0 } : Stage).wf = false ∧
    ({ Stage.reset with qualifier := .heldLessThan 65536 } : Stage).wf = false ∧
    ({ Stage.reset with next := .stage 4 } : Stage).wf = false ∧
    ({ Stage.reset with timeout := 2 ^ 32 } : Stage).wf = false := by decide +kernel

/-- Protocols, sources, rows, panel setups, palettes, alert pairs. -/
theorem test_wf_lists :
    (Protocol.unknown 9).wf = false ∧ (Protocol.uart ⟨256, true, 8, .none, 1, 9600⟩).wf = false ∧
    (Protocol.spi ⟨0, some 256, false, 1, none, false, true, 8, true, 0⟩).wf = false ∧
    (Protocol.i2c ⟨0, 256⟩).wf = false ∧ (Protocol.strobed ⟨[256], 1, .rise⟩).wf = false ∧
    (Source.offline 256 0 0).wf = false ∧ (Instr.setLayout .console 0 [⟨4, 0, 4, 0⟩]).wf = false ∧
    (Instr.setPalette .console 0 [0, 1]).wf = false ∧ (Instr.alertLevels .console 0 [(1, 4)]).wf = false ∧
    (InitEntry.delay 256).wf = false ∧
    (Instr.panelSetup .console 0 ⟨8, 0, 0, 0, 0, 0, 0, 0, 0, .off, 3, []⟩).wf = false := by decide +kernel

/-- R218: a choice byte equal to the number of values a rule lists passes the checks of the frame, and the request's own
rule refuses it: an edge kind of 3 (R14), a row kind of 3 (R149), an alert level of 3 (R201). -/
theorem test_choice_past_last :
    Wire.tetherFrame [1, 3, 0, 0, 3, 0, 0, 0, 1, 7, 3] = .request 3 0 (.setWatch (some (7, 3))) ∧
    Wire.tetherFrame [1, 3, 0, 0, 3, 0, 0, 0, 1, 7, 4] = .malformed 3 0 ∧
    Wire.tetherFrame [1, 22, 0, 0, 5, 0, 0, 0, 1, 3, 0, 4, 0] = .request 22 0 (.setLayout [⟨3, 0, 4, 0⟩]) ∧
    Wire.tetherFrame [1, 40, 0, 0, 3, 0, 0, 0, 1, 1, 3] = .request 40 0 (.alertLevels [(1, 3)]) ∧
    Wire.tetherFrame [1, 13, 0, 0, 7, 0, 0, 0, 0, 4, 0, 0, 1, 0, 0] = .malformed 13 0 := by decide +kernel

/-- Events: a transaction of the other length, input voltages not one per channel (R187, R189, R7). -/
theorem test_wf_events :
    (Instr.consoleTransaction (List.replicate 263 0) 0).wf = false ∧ (Instr.shortTransaction [] 0).wf = false ∧
    (Instr.shortTransaction (List.replicate 264 0) 0).wf = false ∧ (Instr.sampleTick []).wf = false ∧
    (Instr.sdramInitDone [0] 0).wf = false ∧ (Instr.selfRefreshExited [] 0).wf = false := by decide +kernel

/-! ## Results the manual works out -/

/-- R87's table: place 5,852 of block 509 lies in bank 2, row 8149; place 4,096 of block 200 in bank 0, row 3204. -/
theorem test_record_places :
    (bankOf 5852, rowOf 509 5852, columnOf 5852, placeHalf 509 5852) = (2, 8149, 440, 16690616) ∧
    (bankOf 4096, rowOf 200 4096) = (0, 3204) ∧ (bankOf 16383, rowOf 511 16383) = (3, 8191) := by decide

/-- The words of the record table of R213, written out: a BASE with LOSS_OPEN, a TRANSITION, an EXTEND, an END. -/
theorem test_record_words :
    (Record.base true 0x1234).word = 0x20001234 ∧ (Record.trans 5 0xFFFF).word = 0x4005FFFF ∧
    (Record.extend 1).word = 0x80000001 ∧ (Record.mark 2 .stop 6).word = 0xC002C006 := by decide +kernel

/-- The table gives its rows no bits, so no word spells a command. -/
theorem test_no_table_words : decodeTableWord 8 43 = none ∧ (State.reset.withFetchWord 8 43) = State.reset :=
  ⟨rfl, rfl⟩

/-! ## States to run from -/

/-- In RUN, the SDRAM serving, the console holding the claim, the tether configured. -/
def up : State :=
  { State.reset with
    power := { Power.reset with st := .run, inReset := false, pll := .locked }
    mc := { MemCtl.reset with st := .serving }
    store := { Store.reset with available := true }
    ports := { Ports.reset with claim := some .console, link := .configured, vbus := true } }

/-- `up` with the claim free. -/
def free : State := { up with ports := { up.ports with claim := none } }

/-- A FILLING entry of the console, in block 0. -/
def fillingSeg : Segment := { Segment.empty with state := .filling, owner := some .console, chain := [0], index := 1 }

/-- `up` while segment 0 fills, in acquisition state `a`, at tick 10. -/
def capture (a : AcqState) : State :=
  { up with
    fe := { up.fe with tick := 10 }
    seq := { Sequencer.reset with acq := a, seg := some 0, taken := 1 }
    writer := { Writer.reset with seg := some 0 }
    store := { up.store with freeList := (List.range 511).map (· + 1), segs := up.store.segs.set 0 fillingSeg } }

/-- `up` with entry 0 holding `e`. -/
def withSeg (e : Segment) : State := { up with store := { up.store with segs := up.store.segs.set 0 e } }

/-- A SEALED entry of the console, ticks 0 to 100. -/
def sealedSeg : Segment := { fillingSeg with state := .sealed, stop := 100, reason := some .complete, order := 1 }

/-- `up` with slot 0 holding `x`. -/
def withSlot (x : Slot) : State := { up with slots := up.slots.set 0 x }

/-- A slot of the console port with a strobed bus, in state `st`. -/
def slotIn (st : SlotState) : Slot :=
  { Slot.empty with state := st, starter := some .console, proto := some (.strobed ⟨[0], 1, .rise⟩), source := some .live,
                    quota := 4 }

/-- `up` with panel `f up.panel`. -/
def withPanel (f : Panel → Panel) : State := { up with panel := f up.panel }

/-- `up` in power state `st`. -/
def inPower (st : PowerState) : State := { up with power := { up.power with st := st } }

def setup8 : PanelSetup := ⟨8, 0x2A, 0x2B, 0x2C, 0x10, 0x11, 0x29, 0x28, 120, .on, 0, []⟩

def streamOf (src : StreamSource) : Stream :=
  { source := src, header := [], headerSent := true, pos := 0, place := 0, left := 8, cursor := 0, ended := false,
    want := none, acc := [], buffer := [], endQueued := false, cancelled := false, delivered := 0 }

/-- `up` with a console stream. -/
def withCon (x : Stream) : State :=
  { up with ports := { up.ports with con := { up.ports.con with stream := some x } } }

/-- `up` with a tether stream. -/
def withTeth (x : Stream) : State :=
  { up with ports := { up.ports with teth := { up.ports.teth with stream := some x } } }

/-- What holds of the next state an outcome gives. -/
def after (o : Host.Outcome State Fault Refusal) (p : State → Bool) : Bool :=
  match o with
  | .next t => p t
  | .fault _ => false
  | .refused _ => false

/-! ## Steps run -/

/-- From reset, the start-up events bring the part to RUN with the SDRAM serving (R204). -/
def started : Option State :=
  run 5 { State.reset with pending := [.resetRelease 0, .pllLock, .initWaitEnd,
    .sdramInitDone (List.replicate 16 0) 3700, .nop .console 7] }

theorem test_start_up : started.map (fun s => (s.power.st, s.mc.st, s.store.available,
    s.ports.conReplies.map fun r => (r.status, r.tag))) = some (.run, .serving, true, [(.ok, 7)]) := by decide +kernel

/-- R96: at debt 8 a refresh-due event leaves it at 8, and the refresh in flight stays. -/
theorem test_refresh_debt :
    after (step { up with mc := { up.mc with debt := 8, flight := some .refresh }, pending := [.refreshDue] })
      (fun t => t.mc.debt = 8 && t.mc.flight = some .refresh) = true := by decide +kernel

/-- R67: an arm takes entry 0 and the free-list head, and the arm BASE waits in the staging queue. -/
theorem test_arm : after (exec (.arm .console 1) up) (fun t =>
    (t.seg 0).state = .filling && (t.seg 0).chain = [0] && t.store.freeList.length = 511 && t.seq.acq = .priming)
      = true := by decide +kernel

/-! ### Worked sequences of the manual -/

/-- Slot 1 of the worked UART sequence (chapter 06), hunting on an idle HIGH line, three characters queued, the six
TRANSITIONs in the tap and tick 109,114 compared. -/
def uartRun : State :=
  { capture (.hunting 0) with
    comp := { up.comp with last := 8, lastTick := 109114 }
    slots := up.slots.set 1 { slotIn .running with
      proto := some (.uart ⟨3, true, 8, .even, 1, 115200⟩), quota := 512, tag := some 0, period := some 222222, level := 4
      queue := List.replicate 3 ⟨0, false, true⟩
      walk := { Walk.reset with cur := 8, decoding := true, known := 99999, last := some 99000
                                proto := .uart ⟨.hunt, 0, 0, 0, false, true⟩ } }
    tap := { Tap.reset with entries :=
      [(100000, 0), (100868, 8), (101736, 0), (106076, 8), (106944, 0), (107812, 8)].map fun (e : Nat × Half) =>
        ⟨.trans 868 e.2, e.1, false, [1], some 0, 4⟩ }
    pending := List.replicate 6 (.tapEntryConsume 1) }

/-- Its one annotation: PARITY_ERR over ticks 100,000 to 109,115 with value 0x41 and aux 1; the queue's level rises to 4
and CHARQ_LEVEL is raised with argument 1. -/
theorem test_uart_parity_error : (run 6 uartRun).map (fun t => (t.notesOf 1, (t.slot 1).queue.drop 3,
      t.ports.con.alerts)) =
    some ([⟨1, 0, 3, 100000, 109115, 0x41, some 1, false, false, false⟩], [⟨0x41, true, false⟩],
      [⟨.charqLevel, 1, 1⟩]) := by decide +kernel

/-- The measurement across a loss interval (chapter 07), segment 4 at D = 4: what the engine holds once its records are
read. -/
theorem test_measure_across_loss :
    (measureRecords [.base false 0, .trans 1003 1, .trans 1 0, .trans 4 3, .mark 3 .lossBegin 0, .mark 2 .lossEnd 2,
      .base false 2, .mark 187 .stop 2] true true
      { up with
        store := { up.store with segs := up.store.segs.set 4 { sealedSeg with stop := 1200 } }
        meas := { Measure.reset with
          st := .busy, port := .tether, seg := 4, a := 1000, b := 1016, mask := 3, acct := 1000, pos := some 0 } }).meas.result
    = some ⟨.tether, 4, 1000, 1016, 3, 16, 160000, [⟨0, 3, 4, 2⟩, ⟨1, 1, 6, 2⟩], true⟩ := by decide +kernel

/-! ## Witnesses: states and operands that meet the hypotheses of each statement -/

theorem witness_StepRunsFrontCommand :
    { up with pending := [.refreshDue] }.pending = .refreshDue :: [] ∧ State.reset.pending = [] := ⟨rfl, rfl⟩

theorem witness_StepKeepsMemoryForm :
    { up with store := { up.store with mem := [(0, 1), (33554431, 255)] }, pending := [.initWaitEnd] }.memOk ∧
    after (step { up with store := { up.store with mem := [(0, 1), (33554431, 255)] }, pending := [.initWaitEnd] })
      (fun t => t.pending = []) = true := by unfold State.memOk; decide +kernel

theorem witness_StepKeepsDebtBound :
    { up with mc := { up.mc with debt := 8 }, pending := [.refreshDue] }.debtOk ∧
    after (step { up with mc := { up.mc with debt := 8 }, pending := [.refreshDue] }) (fun t => t.pending = []) = true := by
  unfold State.debtOk; decide +kernel

theorem witness_StepKeepsClaim :
    { capture .postfill with pending := [.refreshDue] }.claimOk ∧
    after (step { capture .postfill with pending := [.refreshDue] }) (fun t => t.pending = []) = true := by
  unfold State.claimOk; decide +kernel

/-- Two alerts in the fixed order, counts 1 and 255, at the console port. -/
def alerting : State :=
  { up with ports := { up.ports with con := { up.ports.con with alerts := [⟨.triggered, 1, 3⟩, ⟨.loss, 255, 0⟩] } } }

theorem witness_StepKeepsAlertOrder :
    { alerting with pending := [.alertFetch .console 0] }.ports.con.alertsOk ∧ alerting.ports.teth.alertsOk ∧
    after (step { alerting with pending := [.alertFetch .console 0] }) (fun t => t.ports.con.alerts.length = 1) = true := by
  unfold PortState.alertsOk; decide +kernel

theorem witness_ConcludeFrame : up.power.st ≠ .entry ∧ (up.urgent = true ∨ up.urgent = false) ∧
    ({ up with comp := { up.comp with staging := List.replicate 256 (.extend 1) } }.urgent = true) := by decide +kernel

theorem witness_RecordWordLayout :
    (Record.base true 0xFFFF).inRange = true ∧ (Record.trans 1 0).inRange = true ∧ (Record.trans 16383 0).inRange = true ∧
    (Record.extend 1).inRange = true ∧ (Record.extend 1073741823).inRange = true ∧
    (Record.mark 0 .lossBegin 0).inRange = true ∧ (Record.mark 16383 .stop 6).inRange = true ∧
    (MarkKind.stop, 3) ∈ [(MarkKind.lossBegin, 0), (MarkKind.lossEnd, 1), (MarkKind.podLost, 2), (MarkKind.stop, 3)] := by
  decide +kernel

theorem witness_RequestFrameRoundTrip :
    (Request.overlayPixels 3 76799 (List.replicate 125 0xFFFF)).wf = true ∧
    (Wire.putPayload (.overlayPixels 3 76799 (List.replicate 125 0xFFFF))).length = 256 ∧
    (Request.loadTrigger ArmParams.reset).wf = true ∧
    (Wire.putPayload (.loadTrigger ArmParams.reset)).length ≤ 256 := by decide +kernel

theorem witness_ExportEntryBytes :
    ∀ h : 3 < (Note.mk 0 0 1 5 9 0x41 none false false true).export.length,
      (Note.mk 0 0 1 5 9 0x41 none false false true).export[3] = 4 := by decide +kernel

theorem witness_RecordPlacesAreSeparate :
    Memory.wf [(0, 1), (7, 2)] = true ∧ (16383 : Nat) < 16384 ∧
    readWord (writeWord [(0, 1), (7, 2)] 0 16383 0xC002C006) 1 0 = 0 := by decide +kernel

theorem witness_ColumnSpans : 256 ≤ 256 ∧ colEnd 0 256 0 = 1 ∧ colEdge 0 255 1 = colEdge 0 255 0 := by decide +kernel

theorem witness_UartPeriod : 0 < 4 ∧ 0 < 115200 ∧ 2 ∣ 4 * 115200 ∧ 0 < 1 * 49 ∧ ¬ 2 ∣ 1 * 49 := by decide

/-- A console request in service. -/
def serving : State := { up with ports := { up.ports with conService := some (asking .console 38 9) } }

theorem witness_RequestsTurnedAway :
    (Instr.arm .console 1).request? = some (.console, 1, .arm) ∧ State.reset.receives .console = false ∧
    serving.receives .console = true ∧ serving.busy .console .arm = true ∧
    (inPower .entry).receives .console = true ∧ (inPower .entry).busy .console .nop = true ∧
    free.receives .console = true ∧ free.busy .console .arm = false ∧ Request.arm.needsClaim = true ∧
    free.ports.claim = none ∧ (Instr.arm .tether 1).request? = some (.tether, 1, .arm) ∧
    up.receives .tether = true ∧ up.busy .tether .arm = false ∧ up.ports.claim = some (other .tether) ∧
    (asking .console 5 1).port = .console ∧ (asking .tether 5 1).port = .tether := by decide +kernel

theorem witness_SetupRequestsResult :
    up.ready .console (.setPods (some 1650) none) ∧ up.seq.acq = .idle ∧
    (capture .postfill).ready .console (.setPods none none) ∧ (capture .postfill).seq.acq ≠ .idle ∧
    up.ready .console (.setClock 1 0xFFFF) ∧ (capture .priming).ready .console (.setClock 1048576 0) ∧
    (capture .priming).seq.acq ≠ .idle ∧
    up.ready .console (.setWatch none) ∧ up.ready .console (.setWatch (some (15, 2))) ∧
    up.ready .console (.setWatch (some (16, 0))) ∧ up.ready .console (.setWatch (some (15, 3))) ∧
    (2, EdgeKind.either) ∈ [(0, EdgeKind.rise), (1, EdgeKind.fall), (2, EdgeKind.either)] := by
  unfold State.ready; decide +kernel

theorem witness_LoadTriggerResult :
    up.ready .console (.loadTrigger { ArmParams.reset with bPre := 511, sequence := 16 }) ∧ up.seq.acq = .idle ∧
    paramsInRange { ArmParams.reset with bPre := 511, sequence := 16 } = true ∧
    up.ready .console (.loadTrigger { ArmParams.reset with bPre := 512 }) ∧
    paramsInRange { ArmParams.reset with bPre := 512 } = false ∧
    (capture .draining).ready .console (.loadTrigger ArmParams.reset) ∧ (capture .draining).seq.acq ≠ .idle := by
  unfold State.ready; decide +kernel

/-- `up` without free blocks, for arms without room. -/
def noBlocks : State := { up with store := { up.store with freeList := [3] } }

theorem witness_ArmResult :
    up.ready .console .arm ∧ up.seq.acq = .idle ∧ up.store.available = true ∧ up.hasRoom = true ∧
    up.lowestEmpty = some 0 ∧ up.store.freeList = 0 :: (List.range 511).map (· + 1) ∧ 0 < up.store.segs.length ∧
    (capture .draining).ready .console .arm ∧ (capture .draining).seq.acq ≠ .idle ∧
    { up with store := { up.store with available := false } }.ready .console .arm ∧
    noBlocks.ready .console .arm ∧ noBlocks.seq.acq = .idle ∧ noBlocks.store.available = true ∧
    noBlocks.hasRoom = false := by unfold State.ready; decide +kernel

theorem witness_ForceResult :
    (capture .priming).ready .console .force ∧ (capture .priming).seq.acq = .priming ∧
    (capture .priming).seq.seg = some 0 ∧ 0 < (capture .priming).store.segs.length ∧
    (capture (.hunting 3)).ready .console .force ∧ (capture (.hunting 3)).seq.acq = .hunting 3 ∧
    max 10 0 + (capture .priming).seq.params.pPost ≤ (capture .priming).fe.tick ∧
    ({ capture .priming with seq := { (capture .priming).seq with params := { ArmParams.reset with pPost := 1 } } }.fe.tick
      < max 10 0 + 1) ∧
    up.ready .console .force ∧ up.seq.acq = .idle ∧ (capture .draining).ready .console .force := by
  unfold State.ready; decide +kernel

theorem witness_HaltResult :
    (capture .postfill).ready .console .halt ∧ (capture .postfill).seq.acq.sampling = true ∧
    (capture .postfill).comp.lossOpen = false ∧ up.ready .console .halt ∧ up.seq.acq = .idle := by
  unfold State.ready; decide +kernel

/-- `up` with `n` free blocks and the low watch `armed`. -/
def lowState (n : Nat) (armed : Bool) : State :=
  { up with store := { up.store with freeList := List.range n, armed := armed } }

theorem witness_SetStoreLowResult :
    (lowState 31 true).ready .console (.setStoreLow 32) ∧ (lowState 31 true).store.armed = true ∧
    (lowState 31 true).store.freeList.length < min 512 32 ∧
    (lowState 32 true).ready .console (.setStoreLow 32) ∧ min 512 32 ≤ (lowState 32 true).store.freeList.length ∧
    (lowState 512 false).ready .console (.setStoreLow 513) ∧ (lowState 512 false).store.armed = false ∧
    min 512 513 ≤ (lowState 512 false).store.freeList.length ∧
    (lowState 511 false).ready .console (.setStoreLow 513) ∧
    (lowState 511 false).store.freeList.length < min 512 513 := by unfold State.ready; decide +kernel

theorem witness_DropKeepResult :
    up.ready .console (.drop 16) ∧ 15 < 16 ∧ up.ready .console (.drop 15) ∧ (up.seg 15).state = .empty ∧
    (withSeg sealedSeg).ready .tether (.drop 0) ∧ ((withSeg sealedSeg).seg 0).owner = some (other .tether) ∧
    ((withSeg sealedSeg).seg 0).state ≠ .empty ∧
    (withSeg fillingSeg).ready .console (.drop 0) ∧ ((withSeg fillingSeg).seg 0).state = .filling ∧
    ((withSeg fillingSeg).seg 0).owner ≠ some (other .console) ∧
    (withSeg sealedSeg).ready .console (.drop 0) ∧ ((withSeg sealedSeg).seg 0).state = .sealed ∧
    ((withSeg sealedSeg).seg 0).pins.any = false ∧
    (withSeg { sealedSeg with pins := { Pins.clear with view := true } }).ready .console (.drop 0) ∧
    ((withSeg { sealedSeg with pins := { Pins.clear with view := true } }).seg 0).pins.any = true ∧
    (withSeg { sealedSeg with state := .releasing }).ready .console (.drop 0) ∧
    ((withSeg { sealedSeg with state := .releasing }).seg 0).state = .releasing ∧
    (withSeg sealedSeg).ready .console (.keep 0) ∧ (withSeg fillingSeg).ready .console (.keep 0) ∧
    up.ready .console (.keep 16) ∧ (withSeg sealedSeg).ready .tether (.keep 0) ∧
    (withSeg { sealedSeg with state := .releasing }).ready .console (.keep 0) ∧
    (Instr.unkeep .console 0 0, 11, false) ∈
      [(Instr.keep .console 0 0, 10, true), (Instr.unkeep .console 0 0, 11, false)] := by
  unfold State.ready; decide +kernel

theorem witness_FreedSegment :
    0 < (withSeg sealedSeg).store.segs.length ∧ (withSeg sealedSeg).notes.length = 4 ∧
    (withSeg sealedSeg).ports.con.level .segmentGone ≠ .off ∧ (withSeg sealedSeg).ports.teth.level .segmentGone ≠ .off := by
  decide +kernel

theorem witness_ReadRecordsResult :
    (withSeg sealedSeg).ready .console (.readRecords 0 100 200) ∧ (withSeg sealedSeg).store.available = true ∧
    ((withSeg sealedSeg).seg 0).state = .sealed ∧ ((withSeg sealedSeg).ports.port .console).stream = none ∧
    max 100 sealedSeg.start ≤ min 200 sealedSeg.stop ∧
    (withSeg sealedSeg).ready .tether (.readRecords 0 0 100) ∧
    up.ready .console (.readRecords 16 0 1) ∧ (up.seg 15).state = .empty ∧
    (withSeg fillingSeg).ready .console (.readRecords 0 0 1) ∧ ((withSeg fillingSeg).seg 0).state = .filling ∧
    { withCon (streamOf (.records 0)) with store := (withSeg sealedSeg).store }.ready .console (.readRecords 0 0 1) ∧
    ((withCon (streamOf (.records 0))).ports.port .console).stream.isSome = true ∧
    min 200 sealedSeg.stop < max 101 sealedSeg.start ∧ (withSeg sealedSeg).ready .console (.readRecords 0 101 200) := by
  unfold State.ready; decide +kernel

/-- A 25 Mbit/s UART slot, whose period at D = 4 is 1024, the least. -/
def fastUart : Protocol := .uart ⟨15, true, 9, .even, 2, 25000000⟩

theorem witness_DecStartResult :
    up.ready .console (.decStart 3 fastUart .live 8192 32) ∧ startCheck 3 fastUart .live 8192 32 up = none ∧
    up.seq.acq = .idle ∧
    (capture .draining).ready .console (.decStart 0 fastUart .live 1 0) ∧
    startCheck 0 fastUart .live 1 0 (capture .draining) = none ∧ (capture .draining).seq.acq = .draining ∧
    (capture .priming).ready .console (.decStart 0 fastUart .live 1 0) ∧
    startCheck 0 fastUart .live 1 0 (capture .priming) = none ∧ (capture .priming).seq.acq.sampling = true ∧
    (withSeg sealedSeg).ready .console (.decStart 0 fastUart (.offline 0 0 100) 1 0) ∧
    startCheck 0 fastUart (.offline 0 0 100) 1 0 (withSeg sealedSeg) = none ∧
    up.ready .console (.decStart 4 fastUart .live 1 0) ∧ startCheck 4 fastUart .live 1 0 up = some .noSuch := by
  unfold State.ready; decide +kernel

theorem witness_DecStartChecks :
    3 < 4 ∧ ((withSlot (slotIn .done)).slot 0).state ≠ .free ∧ (up.slot 3).state = .free ∧
    protocolInRange (.unknown 4) = false ∧ 8192 < 8193 ∧ 32 < 33 ∧ protocolInRange fastUart = true ∧
    1 ≤ 8192 ∧ 8192 < (withSlot (slotIn .done)).quotas + 8192 ∧ ((withSlot (slotIn .done)).slot 1).state = .free ∧
    up.quotas + 8192 ≤ 8192 ∧ sourceCheck up (.offline 16 0 0) = some .noSuch ∧ sourceCheck up .live = none := by
  decide +kernel

theorem witness_DecStopClearResult :
    up.ready .console (.decStop 4) ∧ (up.slot 3).state = .free ∧ up.ready .console (.decStop 3) ∧
    (withSlot (slotIn .done)).ready .tether (.decStop 0) ∧ ((withSlot (slotIn .done)).slot 0).starter ≠ some .tether ∧
    ((withSlot (slotIn .done)).slot 0).state ≠ .free ∧
    (withSlot (slotIn .waiting)).ready .console (.decStop 0) ∧ ((withSlot (slotIn .waiting)).slot 0).state = .waiting ∧
    ((withSlot (slotIn .waiting)).slot 0).starter = some .console ∧
    (withSlot (slotIn .running)).ready .console (.decStop 0) ∧ ((withSlot (slotIn .running)).slot 0).live = true ∧
    (withSlot { slotIn .running with source := some (.offline 0 0 5) }).ready .console (.decStop 0) ∧
    ((withSlot { slotIn .running with source := some (.offline 0 0 5) }).slot 0).offline = true ∧
    0 < (withSlot (slotIn .running)).slots.length ∧ (withSlot (slotIn .stopped)).ready .console (.decStop 0) ∧
    ((withSlot (slotIn .stopped)).slot 0).state = .stopped ∧
    (withSlot (slotIn .running)).ready .console (.decClear 0) ∧ (withSlot (slotIn .running)).slots.length = 4 ∧
    (withSlot (slotIn .running)).notes.length = 4 ∧ ((withSlot (slotIn .running)).slot 0).offline = false ∧
    up.ready .console (.decClear 4) ∧ (withSlot (slotIn .done)).ready .tether (.decClear 0) := by
  unfold State.ready; decide +kernel

theorem witness_CharQueueResult :
    (withSlot { slotIn .done with queue := List.replicate 32 ⟨65, false, true⟩ }).ready .console (.queueTake 0 32) ∧
    ((withSlot { slotIn .done with queue := List.replicate 32 ⟨65, false, true⟩ }).slot 0).starter = some .console ∧
    ((withSlot { slotIn .done with queue := List.replicate 32 ⟨65, false, true⟩ }).slot 0).state ≠ .free ∧
    up.ready .console (.queueTake 4 0) ∧ (up.slot 3).state = .free ∧
    (withSlot (slotIn .done)).ready .tether (.queueTake 0 0) ∧ ((withSlot (slotIn .done)).slot 0).starter ≠ some .tether ∧
    (withSlot (slotIn .done)).ready .console (.queueTake 0 33) ∧
    (withSlot (slotIn .done)).ready .tether (.queuePeek 0) ∧ up.ready .tether (.queuePeek 4) := by
  unfold State.ready; decide +kernel

/-- A DONE slot 0 and segment 0 SEALED. -/
def noted : State := { withSlot (slotIn .done) with store := (withSeg sealedSeg).store }

/-- The same with a console stream running. -/
def notedBusy : State := { noted with ports := (withCon (streamOf (.notes 0 0 0 9))).ports }

theorem witness_ReadNotesResult :
    noted.ready .tether (.readNotes 0 0 5 5 4096) ∧ (noted.slot 0).state ≠ .free ∧ (noted.seg 0).state ≠ .empty ∧
    (noted.ports.port .tether).stream = none ∧ noted.ready .console (.readNotes 0 0 5 5 1) ∧
    noted.ready .console (.readNotes 4 0 0 0 1) ∧ noted.ready .console (.readNotes 0 16 0 0 1) ∧
    noted.ready .console (.readNotes 0 0 0 0 0) ∧ noted.ready .console (.readNotes 0 0 0 0 4097) ∧
    noted.ready .console (.readNotes 0 0 6 5 1) ∧ notedBusy.ready .console (.readNotes 0 0 0 0 1) ∧
    (notedBusy.slot 0).state ≠ .free ∧ (notedBusy.seg 0).state ≠ .empty ∧
    (notedBusy.ports.port .console).stream.isSome = true := by unfold State.ready; decide +kernel

/-- The measurement engine in state `st`. -/
def measuring (st : MeasState) (r : Option MeasResult) : State :=
  { withSeg sealedSeg with meas := { Measure.reset with st := st, b := 16, result := r } }

theorem witness_MeasureRequestsResult :
    (measuring .busy none).ready .tether (.measure 0 1 2 0) ∧ (measuring .busy none).meas.st = .busy ∧
    { up with store := Store.reset }.ready .console (.measure 0 1 2 0) ∧ Store.reset.available = false ∧
    up.ready .console (.measure 16 0 1 0) ∧ up.store.available = true ∧ up.meas.st ≠ .busy ∧
    (up.seg 15).state = .empty ∧ (withSeg { sealedSeg with state := .releasing }).ready .console (.measure 0 0 1 0) ∧
    ((withSeg { sealedSeg with state := .releasing }).seg 0).state = .releasing ∧
    (withSeg sealedSeg).ready .console (.measure 0 9 3 0xFFFF) ∧ ((withSeg sealedSeg).seg 0).state = .sealed ∧
    (withSeg fillingSeg).ready .tether (.measure 0 9 9 0xFFFF) ∧ ((withSeg fillingSeg).seg 0).state = .filling ∧
    (measuring .ready (some ⟨.tether, 0, 1, 2, 0, 1, 10000, [], false⟩)).ready .console .measureResult ∧
    (measuring .ready (some ⟨.tether, 0, 1, 2, 0, 1, 10000, [], false⟩)).meas.result ≠ none ∧
    (measuring .busy none).ready .console .measureResult ∧ up.ready .console .measureResult ∧ up.meas.st = .empty := by
  unfold State.ready; decide +kernel

theorem witness_ViewSettingsResult :
    up.ready .tether (.setCursors none none) ∧ (15 : Nat) ≤ 15 ∧ 15 < 16 ∧
    (layoutOf? (List.replicate 20 ⟨0, 15, 32, 7⟩)).isSome = true ∧ (layoutOf? [⟨1, 3, 4, 0⟩]).isSome = true ∧
    layoutOf? (List.replicate 21 ⟨0, 15, 32, 7⟩) = none ∧ layoutOf? [] = none ∧ layoutOf? [⟨0, 16, 32, 7⟩] = none ∧
    layoutOf? [⟨2, 0, 33, 7⟩] = none ∧ layoutOf? [⟨2, 0, 3, 7⟩] = none ∧ layoutOf? [⟨2, 0, 4, 8⟩] = none ∧
    layoutOf? [⟨1, 4, 4, 0⟩] = none ∧ paletteReset.length = 8 := by unfold State.ready; decide +kernel

theorem witness_FrameRequested :
    up.render.frame = .idle ∧ up.power.st ≠ .entry ∧
    ({ up with render := { up.render with palette := List.replicate 8 0 } }.render.palette ≠ up.render.latch.palette) ∧
    ({ up with render := { up.render with frame := .classifying } }.render.frame ≠ .idle) ∧
    (inPower .entry).power.st = .entry := by decide +kernel

theorem witness_SetLiveDividerResult :
    up.ready .console (.setLiveDivider 1) ∧ up.ready .console (.setLiveDivider 8) ∧ up.ready .tether (.setLiveDivider 0) ∧
    up.ready .tether (.setLiveDivider 9) := by unfold State.ready; decide +kernel

/-- The panel in state `st` with a setup record. -/
def panelIn (st : PanelState) : State := withPanel fun p => { p with st := st, setup := some setup8 }

/-- SHOWING with band 3 on the bus. -/
def bandOn : State := withPanel fun p => { p with st := .showing, setup := some setup8, bus := .band 3, emission := .emitting,
                                                  handOff := [3, 4] }

theorem witness_PanelRequestsResult :
    up.ready .console .panelOn ∧ up.panel.st = .off ∧ up.panel.seqBusy = false ∧ setupInRange setup8 = true ∧
    setupInRange { setup8 with width := 9 } = false ∧ (panelIn .off).panel.setup.isSome = true ∧
    (panelIn .off).ready .console .panelOn ∧ up.panel.setup = none ∧ (panelIn .starting).ready .console .panelOn ∧
    (panelIn .starting).panel.st ≠ .off ∧ (panelIn .showing).ready .tether .panelOn ∧
    (panelIn .showing).panel.st = .showing ∧ (panelIn .sleeping).ready .console .panelOn ∧
    (panelIn .sleeping).panel.st = .sleeping ∧
    bandOn.panel.st = .showing ∧ bandOn.panel.bus = .band 3 ∧ bandOn.panel.emission = .emitting ∧
    bandOn.panel.waiting = [] := by unfold State.ready; decide +kernel

/-- SHOWING with overlay 3 placed and `n` pixels queued. -/
def overlaid (n : Nat) : State :=
  withPanel fun p => { p with st := .showing, setup := some setup8, overlays := [none, none, none, some ⟨0, 0, 320, 240⟩],
                              queue := [⟨3, 0, List.replicate n 0⟩] }

theorem witness_OverlayRequestsResult :
    up.ready .console (.overlaySet 4 0 0 1 1) ∧ up.ready .console (.overlaySet 3 1 0 320 240) ∧ 320 < 1 + 320 ∧
    up.ready .console (.overlaySet 3 0 0 320 240) ∧ 0 + 320 ≤ 320 ∧ 0 + 240 ≤ 240 ∧
    up.panel.overlays.getD 3 none = none ∧ (overlaid 1).ready .console (.overlaySet 3 0 0 1 1) ∧
    (overlaid 1).panel.overlays.getD 3 none = some ⟨0, 0, 320, 240⟩ ∧
    up.ready .tether (.overlayPixels 3 0 [0]) ∧ (overlaid 1).ready .tether (.overlayPixels 3 0 []) ∧
    (overlaid 1).ready .console (.overlayPixels 3 76800 [0]) ∧ 320 * 240 < 76800 + 1 ∧
    (overlaid 2048).ready .console (.overlayPixels 3 76799 [0]) ∧
    ((overlaid 2048).panel.queue.map fun q => q.pixels.length).sum = 2048 ∧
    (overlaid 2047).ready .console (.overlayPixels 3 76799 [0]) ∧ 76799 + 1 ≤ 320 * 240 ∧
    ((overlaid 2047).panel.queue.map fun q => q.pixels.length).sum + 1 ≤ 2048 := by unfold State.ready; decide +kernel

theorem witness_IdentifyNopPortStatus :
    up.ready .console .identify ∧ up.ready .tether .nop ∧ up.receives .console = true ∧ up.receives .tether = true := by
  unfold State.ready; decide +kernel

theorem witness_StatusQueriesAnswered :
    up.receives .console = true ∧ (inPower .entry).receives .console = true ∧ serving.receives .tether = true ∧
    up.power.grace = none ∧ { up with power := { up.power with grace := some 2000 } }.receives .console = true := by
  decide +kernel

/-- The claim held by the tether port, acquisition in state `a`. -/
def tetherHolds (a : AcqState) : State := { capture a with ports := { up.ports with claim := some .tether } }

theorem witness_ClaimReleaseResult :
    free.ready .tether .release ∧ free.ports.claim = none ∧ up.ready .console .release ∧
    up.ports.claim = some .console ∧ up.ready .tether .release ∧ up.ports.claim = some (other .tether) ∧
    (tetherHolds .idle).ready .console .release ∧ (tetherHolds .idle).ports.claim = some .tether ∧
    (tetherHolds .idle).seq.acq = .idle ∧ (tetherHolds .draining).ready .console .release ∧
    (tetherHolds .draining).seq.acq ≠ .idle ∧ (tetherHolds .draining).ready .tether .release := by
  unfold State.ready; decide +kernel

theorem witness_AlertRaised :
    alerting.ports.con.alertsOk ∧ alerting.ports.con.level .loss ≠ .off ∧
    (alerting.ports.con.alerts.find? fun a => a.kind = .loss).map (·.count) = some 255 ∧
    (alerting.ports.con.alerts.find? fun a => a.kind = .sealed) = none ∧
    PortState.level { alerting.ports.con with levels := List.replicate 15 .off } .loss = .off := by
  unfold PortState.alertsOk; decide +kernel

/-! ### Streams, alerts, power requests, ports -/

theorem witness_StreamRequestsResult :
    up.ready .console .readNext ∧ up.ports.con.stream = none ∧
    (withCon { streamOf (.records 0) with headerSent := false }).ready .console .readNext ∧
    (withCon (streamOf (.records 0))).ready .console .readNext ∧
    { streamOf (.records 0) with acc := List.replicate 255 0 }.acc.length < 256 ∧
    (withCon (streamOf (.notes 0 0 0 9))).ready .console .readNext ∧ 1 ≤ (streamOf (.notes 0 0 0 9)).left ∧
    (streamOf (.notes 0 0 0 9)).acc = [] ∧ up.ready .tether .readNext ∧ up.ready .tether .streamCancel ∧
    (up.ports.port .tether).stream = none ∧ (withCon (streamOf (.records 0))).ready .console .streamCancel ∧
    (streamOf (.records 0)).reading = some 0 ∧ (withCon (streamOf (.notes 0 0 0 9))).ready .console .streamCancel ∧
    (streamOf (.notes 0 0 0 9)).reading = none ∧ (streamOf (.notes 0 0 0 9)).want = none ∧
    (withTeth { streamOf (.notes 0 0 0 9) with buffer := [[1]] }).ready .tether .streamCancel ∧
    { streamOf (.notes 0 0 0 9) with buffer := [[1]] }.buffer.length < 2 ∧
    (streamOf (.notes 0 0 0 9)).cancelled = false := by unfold State.ready; decide +kernel

/-- `up` with a ROUTINE kind before an URGENT one in the tether set, by levels of its own. -/
def mixed : State :=
  { up with ports := { up.ports with teth := { up.ports.teth with
      alerts := [⟨.triggered, 1, 0⟩, ⟨.loss, 2, 0⟩], levels := (levelsDefault.set 0 .routine).set 6 .urgent } } }

theorem witness_AlertRequestsResult :
    up.ready .tether (.alertLevels [(1, 0), (15, 2), (1, 1)]) ∧
    (∀ x ∈ [(1, 0), (15, 2), (1, 1)], 1 ≤ x.1 ∧ x.1 ≤ 15 ∧ x.2 ≤ 2) ∧ (up.ports.port .tether).levels.length = 15 ∧
    [(1, 0), (15, 2), (1, 1)] = [(1, 0), (15, 2)] ++ (1, 1) :: [] ∧
    (1, AlertLevel.routine) ∈ [(0, AlertLevel.off), (1, AlertLevel.routine), (2, AlertLevel.urgent)] ∧
    (∀ x ∈ [(1, 0), (15, 2), (1, 1)], x.1 ≠ 2) ∧
    up.ready .console (.alertLevels []) ∧ up.ready .console (.alertLevels (List.replicate 16 (1, 0))) ∧
    15 < (List.replicate 16 (1, 0)).length ∧ up.ready .console (.alertLevels [(16, 0)]) ∧
    up.ready .console (.alertLevels [(0, 0)]) ∧ up.ready .console (.alertLevels [(1, 3)]) ∧
    up.ready .console .alertFetch ∧ (up.ports.port .console).alertsOk ∧ (up.ports.port .console).alerts = [] ∧
    mixed.ready .tether .alertFetch ∧ (mixed.ports.port .tether).alertsOk ∧
    (mixed.ports.port .tether).alerts = [⟨.triggered, 1, 0⟩] ++ ⟨.loss, 2, 0⟩ :: [] ∧
    (mixed.ports.port .tether).level .loss = .urgent ∧ (mixed.ports.port .tether).level .triggered ≠ .urgent ∧
    { alerting with ports := { alerting.ports with con := { alerting.ports.con with
      alerts := [⟨.loss, 1, 0⟩] } } }.ready .console .alertFetch ∧
    alerting.ports.con.level .loss = .routine := by
  unfold State.ready PortState.alertsOk; decide +kernel

theorem witness_PowerRequestsResult :
    up.ready .console (.doze 65535) ∧ up.seq.acq = .idle ∧ (∀ k ∈ up.slots, k.state ≠ .running) ∧
    up.ports.con.stream = none ∧ up.ports.teth.stream = none ∧ up.meas.st ≠ .busy ∧ up.power.grace = none ∧
    (capture .draining).ready .console (.doze 0) ∧ (capture .draining).seq.acq ≠ .idle ∧
    (withSlot (slotIn .running)).ready .console (.doze 0) ∧
    (∃ k ∈ (withSlot (slotIn .running)).slots, k.state = .running) ∧
    (withCon (streamOf (.records 0))).ready .console (.doze 0) ∧ (withTeth (streamOf (.records 0))).ready .tether (.doze 0) ∧
    (measuring .busy none).ready .console (.doze 0) ∧
    { up with power := { up.power with grace := some 2000 } }.ready .console (.doze 0) ∧
    up.ready .tether .wakeCausesClear ∧ up.ready .console (.setBattery 3100 4200) ∧
    min (max 3000 (min 4200 4200)) (3100 - 100) = 3000 := by unfold State.ready; decide +kernel

/-- A NOP frame of the console, with its padding (R214). -/
def nopFrame : List Byte := [0x01, 43, 0x34, 0x12, 0, 0, 0, 0] ++ List.replicate 256 0

/-- A reply that waits at the console port. -/
def waiting (kind : Byte) (body : ReplyBody) : State :=
  { up with ports := { up.ports with conReplies := [⟨kind, 1, .ok, body, false⟩] } }

theorem witness_ConsoleTransactions :
    (inPower .wakeup).power.st ≠ .shutdown ∧ (inPower .wakeup).power.st ≠ .dormant ∧
    (inPower .wakeup).power.inReset = false ∧ (inPower .wakeup).ports.outFrame = none ∧ (inPower .wakeup).awake = false ∧
    up.awake = true ∧ (waiting 43 .none).ports.conReplies = ⟨43, 1, .ok, .none, false⟩ :: [] ∧
    (waiting 43 .none).awake = true ∧ up.ports.conReplies = [] ∧ up.ports.outFrame = none ∧ up.power.inReset = false ∧
    264 ≤ nopFrame.length ∧ Wire.consoleFrame nopFrame = .request 43 0x1234 .nop ∧
    (Instr.nop .console 0x1234).request? = some (.console, 0x1234, .nop) ∧
    Wire.consoleFrame (2 :: nopFrame) = .malformed 1 (0x342B : Tag) ∧ Wire.consoleFrame (0 :: nopFrame) = .none ∧
    (43 : Byte) ≠ 37 ∧ (43 : Byte) ≠ 48 ∧ 1 ≤ ([1] : List Byte).length ∧ (List.replicate 263 (1 : Byte)).length < 264 ∧
    (∀ r ∈ up.ports.conReplies, r.body = .none) ∧
    (waiting 37 (.badForm 255)).ports.conReplies = [] ++ ⟨37, 1, .ok, .badForm 255, false⟩ :: [] := by decide +kernel

/-- A reply that waits at the tether port. -/
def tetherWaits (kind : Byte) : State :=
  { up with ports := { up.ports with tethReplies := [⟨kind, 1, .ok, .none, false⟩] } }

theorem witness_TetherTransfers :
    (inPower .dormant).receives .tether = false ∧ up.receives .tether = true ∧
    Wire.tetherFrame [0x01, 43, 0x34, 0x12, 0, 0, 0, 0] = .request 43 0x1234 .nop ∧
    (Instr.nop .tether 0x1234).request? = some (.tether, 0x1234, .nop) ∧
    Wire.tetherFrame [] = .malformed 0 0 ∧ (tetherWaits 48).awake = true ∧
    (tetherWaits 48).ports.link = .configured ∧ (tetherWaits 48).ports.tethReplies ≠ [] ∧
    (withTeth { streamOf (.records 0) with buffer := [[1]], endQueued := true }).ports.link = .configured ∧
    { streamOf (.records 0) with buffer := [[1], [2]], acc := List.replicate 512 0 }.buffer = [1] :: [[2]] ∧
    512 ≤ { streamOf (.records 0) with buffer := [[1], [2]], acc := List.replicate 512 0 }.acc.length ∧
    { streamOf (.records 0) with acc := List.replicate 511 0 }.acc.length < 512 := by decide +kernel

theorem witness_LinkEvents :
    up.connected = true ∧ up.ports.link = .configured ∧ up.power.st = .run ∧ up.slots.length = 4 ∧ up.ports.vbus = true ∧
    { up with ports := { up.ports with link := .detached } }.connected = true ∧
    { up with ports := { up.ports with link := .suspended } }.ports.teth.stream = none ∧
    (Instr.vbusLoss = .vbusLoss) := by decide +kernel

/-! ### Pods, ticks, capture -/

/-- `s` with pod 1 of sense `a`, presence `b` and window `w`. -/
def podState (a b : Bool) (w : Option Nat) (s : State) : State :=
  { s with fe := { s.fe with pod1 := { s.fe.pod1 with sense := a, present := b, window := w } } }

theorem witness_PodEvents :
    up.debouncing = true ∧ (podState true true none up).debouncing = true ∧
    ((podState true true none up).fe.pod 1).window = none ∧ false ≠ ((podState true true none up).fe.pod 1).sense ∧
    ((podState true false (some 7) up).fe.pod 1).window = some 7 ∧ 50006 < 7 + 50000 ∧ 7 + 50000 ≤ 50007 ∧
    (podState false true (some 7) (capture .priming)).debouncing = true ∧
    (podState false true (some 7) (capture .priming)).seq.acq.sampling = true ∧
    ((podState false true (some 7) (capture .priming)).fe.pod 1).sense = false ∧
    ((podState false true (some 7) (capture .priming)).fe.pod 1).blanked = false ∧
    (podState true false (some 7) up).seq.acq.sampling = false := by decide +kernel

/-- PRIMING at tick 10 up to tick 100, pods powered, all inputs at 5 V. -/
def priming : State :=
  { capture .priming with
    fe := { up.fe with tick := 10, pod0 := { up.fe.pod0 with powered := true, present := true }
                       pod1 := { up.fe.pod1 with powered := true, present := true } }
    seq := { (capture .priming).seq with primingEnd := 100 } }

theorem witness_SampleTickResult :
    (priming.fe.pod 0).powered = true ∧ (up.fe.pod 1).powered = false ∧ priming.fe.levels.getLsbD 15 = false ∧
    { priming.fe with levels := 0xFFFF }.levels.getLsbD 0 = true ∧
    State.reset.clocked = false ∧ up.clocked = true ∧ (settle up).seq.acq = .idle ∧
    (capture .draining).clocked = true ∧ (settle (capture .draining)).seq.acq = .draining ∧
    priming.clocked = true ∧ (settle priming).seq.acq = .priming ∧ (settle priming).seq.acq.sampling = true ∧
    (settle priming).fe.tick + 1 < 140737488355328 ∧ (settle priming).seq.seg = some 0 ∧
    (settle priming).comp.lossOpen = false ∧ (settle priming).fe.lost = [] ∧
    (settle priming).comp.staging.length ≤ 1021 ∧ (settle priming).fe.tick + 1 - (settle priming).comp.stagingTime ≤ 16383 ∧
    ((settle priming).fe.compare (List.replicate 16 5000)).levels = 0xFFFF ∧ (settle priming).comp.last = 0 := by
  decide +kernel

/-- The effect on that state: the change to all HIGH is queued as a TRANSITION of delta 11 (R18, R22). -/
theorem test_sample_tick : after (exec (.sampleTick (List.replicate 16 5000)) priming)
    (fun t => t.comp.staging = [.trans 11 0xFFFF] && t.fe.tick = 11) = true := by decide +kernel

/-- HUNTING in stage 2 with its timeout at tick 10. -/
def hunting (tgt : Target) : State :=
  { capture (.hunting 2) with seq := { (capture (.hunting 2)).seq with
      expiry := some 10, params := { ArmParams.reset with
        pPost := 5, stages := List.replicate 4 { Stage.reset with timeoutTarget := tgt, timeout := 9 } } } }

/-- POSTFILL at tick 10 with the trigger at tick 8 and `p` ticks to follow it. -/
def postfill (p : Nat) : State :=
  { capture .postfill with
    seq := { (capture .postfill).seq with params := { ArmParams.reset with pPost := p } }
    store := { (capture .postfill).store with
      segs := up.store.segs.set 0 { fillingSeg with trigger := some ⟨8, false, false⟩ } } }

/-- Sampling at the tick whose full idle extends are due, slot 0 live. -/
def idleLong : State :=
  { capture .priming with
    fe := { up.fe with tick := 1073741823 }
    slots := up.slots.set 0 (slotIn .running)
    seq := { (capture .priming).seq with primingEnd := 1073741823 } }

theorem witness_TickEventsResult :
    idleLong.stagingExtendDue = true ∧ idleLong.comp.staging.length ≤ 1021 ∧ up.stagingExtendDue = false ∧
    idleLong.tapExtendDue = true ∧ idleLong.tap.gapOpen = false ∧ idleLong.tap.entries.length ≤ 255 ∧
    idleLong.owers ≠ [] ∧ idleLong.seq.seg = some 0 ∧ up.tapExtendDue = false ∧
    idleLong.seq.acq = .priming ∧ idleLong.seq.primingEnd ≤ idleLong.fe.tick ∧ priming.fe.tick < priming.seq.primingEnd ∧
    (hunting (.stage 3)).seq.acq = .hunting 2 ∧ (hunting (.stage 3)).seq.expiry = some 10 ∧
    10 ≤ (hunting (.stage 3)).fe.tick ∧ ((hunting (.stage 3)).stageAt 2).timeoutTarget = .stage 3 ∧
    { hunting .final with fe := { up.fe with tick := 9 } }.fe.tick < 10 ∧
    ((hunting .final).stageAt 2).timeoutTarget = .final ∧ 0 < (hunting .final).store.segs.length ∧
    1032 ≤ (hunting .final).freePlaces 0 ∧ (hunting .final).fe.tick < 10 + (hunting .final).seq.params.pPost ∧
    (postfill 2).seq.acq = .postfill ∧ (postfill 2).trigger = some ⟨8, false, false⟩ ∧
    8 + (postfill 2).seq.params.pPost ≤ (postfill 2).fe.tick ∧ (postfill 2).comp.lossOpen = false ∧
    (postfill 2).tapActive = false ∧ (postfill 2).fe.tick + 1 - (postfill 2).comp.stagingTime ≤ 16383 ∧
    (postfill 3).fe.tick < 8 + (postfill 3).seq.params.pPost ∧
    priming.clocked = true ∧ (settle priming).fe.tick + 1 < 140737488355328 ∧
    { priming with fe := { priming.fe with tick := 140737488355327 } }.clocked = true ∧
    140737488355328 ≤ (settle { priming with fe := { priming.fe with tick := 140737488355327 } }).fe.tick + 1 ∧
    (settle { priming with fe := { priming.fe with tick := 140737488355327 } }).seq.acq.sampling = true := by
  decide +kernel

/-- A loss interval open since tick 4, the staging queue at `n`, acquisition in state `a`. -/
def losing (a : AcqState) (n : Nat) : State :=
  { capture a with
    comp := { Compressor.reset with lossOpen := true, stagingTime := 4, lostCount := 3, tickBefore := 2,
                                    staging := List.replicate n (.extend 1), heldEnd := a = .draining }
    seq := { (capture a).seq with
      stopTick := if a = .draining then some 11 else none, reason := if a = .draining then some .halted else none } }

/-- A tap gap open with `n` entries, slot 0 live. -/
def gapped (n : Nat) : State :=
  { capture .priming with
    slots := up.slots.set 0 (slotIn .running)
    tap := { Tap.reset with gapOpen := true, entries := List.replicate n ⟨.extend 1, 1, false, [0], some 0, 4⟩ } }

theorem witness_LossAndGapClose :
    (losing .priming 512).comp.lossOpen = true ∧ (losing .priming 512).comp.staging.length ≤ 512 ∧
    (losing .priming 512).seq.seg = some 0 ∧ (losing .priming 512).seq.acq.sampling = true ∧
    (losing .priming 512).comp.stagingTime < (losing .priming 512).fe.tick ∧
    (losing .priming 512).comp.tickLost = [] ∧
    (losing .draining 512).comp.lossOpen = true ∧ (losing .draining 512).seq.stopTick = some 11 ∧
    (losing .draining 512).seq.reason = some .halted ∧ (losing .draining 512).comp.heldEnd = true ∧
    11 - (losing .draining 512).comp.stagingTime ≤ 16383 ∧ 512 < (losing .priming 513).comp.staging.length ∧
    up.comp.lossOpen = false ∧ (gapped 128).tap.gapOpen = true ∧ (gapped 128).tap.entries.length ≤ 128 ∧
    (gapped 128).seq.acq.sampling = true ∧ (gapped 128).seq.seg = some 0 ∧ (gapped 128).tap.heldEnd = none ∧
    (gapped 128).liveSlots ≠ [] ∧ (gapped 128).allOwers = (gapped 128).liveSlots ∧
    128 < (gapped 129).tap.entries.length ∧ up.tap.gapOpen = false := by decide +kernel

/-- A writer burst of the staging queue `rs`, acquisition in state `a`. -/
def writing (a : AcqState) (rs : List Record) : State :=
  { capture a with
    comp := { Compressor.reset with staging := rs }
    mc := { up.mc with flight := some (.write rs.length) }
    seq := { (capture a).seq with stopTick := some 11, reason := some .halted, seqEnd := true } }

theorem witness_WriterBurstResult :
    (writing .draining [.base false 0, .trans 5 1, .trans 5 0, .mark 1 .stop 2]).memOk ∧
    (writing .draining [.base false 0, .trans 5 1, .trans 5 0, .mark 1 .stop 2]).mc.flight = some (.write 4) ∧
    (writing .draining [.base false 0]).power.pll = .locked ∧ (writing .draining [.base false 0]).writer.seg = some 0 ∧
    (writing .draining [.base false 0]).seq.seg = some 0 ∧
    (writing .draining [.base false 0]).writer.group.length + 4 ≤ 4 ∧
    (writing .draining [.base false 0]).writer.written = 0 + 0 ∧
    (writing .draining [.base false 0]).writer.block < (writing .draining [.base false 0]).store.blocks.length ∧
    (∃ r ∈ [Record.base false 0, .trans 5 1, .trans 5 0, .mark 1 .stop 2], r.isEnd = true) ∧
    (∀ r ∈ [Record.base false 0, .trans 5 1], r.isEnd = false) ∧
    (writing .postfill [.base false 0, .trans 5 1]).store.freeList ≠ [] ∧
    (writing .priming [.base false 0, .trans 5 1]).memOk := by unfold State.memOk; decide +kernel

/-- R32, R72: that burst seals segment 0 at the stop tick 11, and the acquisition is IDLE. -/
theorem test_writer_seals : after (exec .writerBurstEnd
    (writing .draining [.base false 0, .trans 5 1, .trans 5 0, .mark 1 .stop 2])) (fun t =>
      (t.seg 0).state = .sealed && (t.seg 0).stop = 11 && t.seq.acq = .idle && readWord t.store.mem 0 1 = 0x40050001)
    = true := by decide +kernel

/-- A measurement's read burst of the first group of block 0, with all four places used. -/
def reading : State :=
  { measuring .busy none with
    mc := { up.mc with flight := some (.read ⟨.measure, 0, 0, 0, 0, 0, 4, true, [],
      groupHalves up.store.mem 0 0 0, false, false, 0⟩) } }

theorem witness_ControllerEvents :
    up.power.pll = .locked ∧ up.mc.st = .serving ∧ State.reset.mc.st ≠ .serving ∧ State.reset.mc.st ≠ .entering ∧
    { up with mc := { up.mc with flight := some .refresh, debt := 8 } }.mc.flight = some .refresh ∧
    reading.mc.flight = some (.read ⟨.measure, 0, 0, 0, 0, 0, 4, true, [], groupHalves up.store.mem 0 0 0, false, false, 0⟩) ∧
    reading.readPlace .measure 0 = 4 * 0 ∧ 4 * 0 + 4 ≤ 4 ∧
    up.mc.flight = none ∧ 8 ≤ { up with mc := { up.mc with debt := 8 } }.mc.debt ∧
    { up with mc := { up.mc with debt := 7 } }.mc.debt < 8 ∧ (∀ q ∈ circle, up.wants q = false) ∧
    { capture .priming with comp := { up.comp with staging := List.replicate 256 (.extend 1) } }.writerWants = true ∧
    circleAfter up.mc.last = [.writer, .renderer, .decoder] ++ .measure :: [.console, .tether] ∧
    (measuring .busy none).wants .measure = true ∧ (measuring .busy none).wants .decoder = false ∧
    (grant .measure { measuring .busy none with
      store := { (withSeg sealedSeg).store with blocks := up.store.blocks.set 0 ⟨none, 0, 4⟩ } }).mc.flight.isSome = true := by
  decide +kernel

/-- Slot 0 live, owing two tap entries, an unflagged BASE and an EXTEND. -/
def owing (dec : Bool) : State :=
  { capture .priming with
    slots := up.slots.set 0 { slotIn .running with
      tag := if dec then some 0 else none, walk := { Walk.reset with decoding := dec, proto := .strobed } }
    tap := { Tap.reset with entries :=
      (if dec then [] else [⟨.base false 5, 0, false, [0], some 0, 4⟩]) ++
        [⟨.extend 7, 7, false, [0], some 0, 4⟩, ⟨.extend 7, 14, false, [0], some 0, 4⟩] } }

theorem witness_TapEntryConsumed :
    (owing false).awake = true ∧ (owing false).seq.acq ≠ .idle ∧ (owing false).slots.length = 4 ∧
    ((owing false).slot 0).live = true ∧
    (owing false).tap.entries = [] ++ ⟨.base false 5, 0, false, [0], some 0, 4⟩ ::
      [⟨.extend 7, 7, false, [0], some 0, 4⟩, ⟨.extend 7, 14, false, [0], some 0, 4⟩] ∧
    (∃ y ∈ [(⟨.extend 7, 7, false, [0], some 0, 4⟩ : TapEntry)], 0 ∈ y.owed) ∧
    ((owing true).slot 0).walk.decoding = true ∧ ((owing true).slot 0).proto = some (.strobed ⟨[0], 1, .rise⟩) ∧
    ((owing true).slot 0).walk.proto = .strobed ∧ 1 ≤ 7 ∧ (∀ y ∈ up.tap.entries, 0 ∉ y.owed) ∧
    ((owing true).slot 0).tag = some 0 ∧ (Formed.plain 1 3 5 0).feeds = none ∧ (owing true).seq.acq = .priming ∧
    ((owing true).notesOf 0).length < ((owing true).slot 0).quota ∧
    (((owing true).setSlot 0 { (owing true).slot 0 with quota := 0 }).slot 0).quota ≤
      (((owing true).setSlot 0 { (owing true).slot 0 with quota := 0 }).notesOf 0).length := by decide +kernel

/-! ### The display -/

/-- A frame in CLASSIFYING, whose reading is `done`. -/
def classifying (done : Bool) : State :=
  { up with render := { up.render with frame := .classifying, reader := { Reader.reset with done := done } } }

/-- SHOWING with the bus busy and the TE watch running, emission `e`. -/
def watching (e : Emission) : State :=
  withPanel fun p => { p with st := .showing, setup := some setup8, bus := .chunk 1, teTimer := true, emission := e }

theorem witness_RendererEvents :
    (classifying false).awake = true ∧ (classifying false).render.frame = .classifying ∧
    (classifying false).render.reader.done = false ∧ (classifying true).render.reader.done = true ∧
    (classifying true).panel.st ≠ .showing ∧ (classifying true).render.again = false ∧
    (watching (.waiting false)).panel.st = .showing ∧ (watching .emitting).panel.bus ≠ .idle ∧
    (watching .emitting).render.liveCount + 1 < { (watching .emitting).render with divider := 3 }.divider ∧
    (watching .emitting).render.liveCount + 1 < (watching .emitting).render.divider ∧ setup8.teUsed = .on ∧
    (true = true ↔ setup8.tePolarity = 0) ∧ ¬(false = true ↔ setup8.tePolarity = 0) ∧
    (watching .idle).panel.teTimer = true ∧ (watching (.waiting true)).panel.emission = .waiting true ∧
    (withPanel fun p => { p with st := .showing }).panel.teUsed = false ∧ bandOn.panel.teTimer = false ∧
    bandOn.panel.bus ≠ .idle ∧
    { watching .idle with render := { up.render with liveCount := 1 } }.render.divider ≤ 1 + 1 ∧
    up.liveCondition = false ∧
    { capture .priming with seq := { (capture .priming).seq with seg := some 0 } }.liveCondition = true := by decide +kernel

/-- The bus at `b` while the panel is in `st`. -/
def busAt (st : PanelState) (b : BusOp) : State :=
  withPanel fun p => { p with st := st, setup := some setup8, bus := b }

theorem witness_PanelBusEvents :
    bandOn.awake = true ∧ bandOn.panel.bus = .band 3 ∧ bandOn.panel.emission = .emitting ∧ bandOn.panel.leaving = false ∧
    bandOn.panel.changes = [] ∧ bandOn.panel.queue = [] ∧ bandOn.panel.handOff.filter (· ≠ 3) = 4 :: [] ∧
    bandWindows bandOn.panel.overlays 4 ≠ [] ∧ [3].filter (· ≠ 3) = ([] : List Nat) ∧ bandOn.render.again = false ∧
    (withPanel fun p => { p with st := .showing, bus := .chunk 5, queue := [⟨0, 0, List.replicate 5 0⟩] }).panel.queue =
      ⟨0, 0, List.replicate 5 0⟩ :: [] ∧
    (withPanel fun p => { p with changes := [⟨3, none, some (asking .console 31 1)⟩] }).panel.changes ≠ [] ∧
    up.panel.bus = .idle ∧ up.panel.queue = [] ∧
    (busAt .starting (.start [.command 1 [2], .delay 5, .command 3 []])).panel.bus =
      .start (([(1, [2])].map fun c => .command c.1 c.2) ++ .delay 5 :: [.command 3 []]) ∧
    (busAt .starting (.start [.command 3 []])).panel.bus = .start ([(3, [])].map fun c => .command c.1 c.2) ∧
    (busAt .starting (.start [])).awake = true ∧ (busAt .starting (.start [])).panel.bus = .start [] ∧
    (busAt .starting (.start [])).render.frame = .idle ∧ (busAt .off .off).panel.bus = .off ∧
    (busAt .sleeping .sleepIn).panel.bus = .sleepIn ∧ (busAt .waking .wakeDelay).panel.bus = .wakeDelay ∧
    (busAt .waking .wakeDelay).panel.emission = .idle ∧ (busAt .waking .wakeDelay).panel.waiting = [] := by decide +kernel

/-! ### Power -/

theorem witness_StartUp :
    up.power.st ≠ .shutdown ∧ (inPower .shutdown).power.st = .shutdown ∧ State.reset.power.inReset = true ∧
    State.reset.power.st = .startup ∧
    { up with power := { up.power with pll := .starting, st := .wakeup } }.power.pll = .starting ∧
    up.power.pll ≠ .starting ∧ State.reset.mc.st = .initialising ∧
    { State.reset with mc := { MemCtl.reset with init := .wait } }.mc.init = .wait ∧
    { State.reset with mc := { MemCtl.reset with init := .commands } }.power.low ≤ 3500 ∧
    State.reset.power.cutoff ≤ 3500 ∧ State.reset.power.lowArmed = true := by decide +kernel

/-- In DORMANT with the watch on channel 15 for a rising edge, the timer running. -/
def dormant : State :=
  { inPower .dormant with
    fe := { up.fe with watch := some (15, .rise), detector := some false
                       pod1 := { up.fe.pod1 with present := true, powered := true } }
    power := { up.power with st := .dormant, pll := .stopped, timerOn := true } }

theorem witness_SelfRefreshPassages :
    { inPower .entry with mc := { up.mc with st := .entering } }.power.st = .entry ∧ up.mc.flight = none ∧
    up.mc.debt = 0 ∧ up.power.wake = WakeSet.empty ∧
    { up.power with wake := { WakeSet.empty with tether := true } }.wake ≠ WakeSet.empty ∧
    up.fe.watch = none ∧ { up.fe with watch := some (7, .either), pod0 := { up.fe.pod0 with present := true } }.pod0.present
      = true ∧ 7 < 8 ∧ { up with mc := { up.mc with debt := 1 } }.mc.debt ≠ 0 ∧
    { inPower .wakeup with mc := { up.mc with st := .exiting } }.power.st = .wakeup ∧
    (inPower .wakeup).power.tetherReset = false ∧ (inPower .wakeup).ports.con.level .woken ≠ .off := by decide +kernel

theorem witness_WakeCauses :
    dormant.power.st = .dormant ∧ dormant.power.cutoff ≤ 3300 ∧ 3299 < dormant.power.cutoff ∧
    dormant.power.charger = false ∧ dormant.fe.detector = some false ∧ dormant.fe.watch = some (15, .rise) ∧
    effectiveThreshold (dormant.fe.pod 1).code + 50 < 1701 ∧ ¬ (effectiveThreshold (dormant.fe.pod 1).code + 50 < 1700) ∧
    dormant.power.timerOn = true ∧ (inPower .dormant).power.timerOn = false ∧ dormant.ports.outFrame = none ∧
    dormant.fe.pod1.powered = true ∧ dormant.fe.pod0.powered = false ∧ (inPower .dormant).fe.detector = none ∧
    dormant.power.inReset = false ∧ dormant.ports.vbus = true ∧ dormant.ports.link ≠ .suspended ∧
    up.power.charger = false ∧ up.power.st = .run := by decide +kernel

/-- R207: that edge wakes the part for the watch. -/
theorem test_watch_wakes : after (exec (.watchEdge (List.replicate 15 5000 ++ [1701]) 3300) dormant)
    (fun t => t.power.st = .wakeup && t.power.wake.watch && t.power.pll = .starting && t.fe.levels = 0xFF00) = true := by
  decide +kernel

theorem witness_BatteryAndGrace :
    up.power.st = .run ∧ up.power.grace = none ∧ up.power.cutoff ≤ 3499 ∧ 3499 < up.power.low ∧ up.power.low ≤ 3500 ∧
    up.power.lowArmed = true ∧ { up.power with lowArmed := false }.lowArmed = false ∧ 3299 < up.power.cutoff ∧
    up.power.charger = false ∧ up.slots.length = 4 ∧ up.ports.con.level .batteryCutoff ≠ .off ∧
    { up with power := { up.power with grace := some 2000 } }.power.grace ≠ none := by decide +kernel

/-! ### Further clauses of the statements -/

/-- The writer's block is full with a record left, the blocks `l` free. -/
def blockFull (l : List Nat) : State :=
  { capture .postfill with
    writer := { Writer.reset with seg := some 0, written := 16384 }
    comp := { Compressor.reset with staging := [.extend 1] }
    store := { (capture .postfill).store with freeList := l } }

theorem witness_ConcludeFrame_block :
    (blockFull []).writer.seg = some 0 ∧ 16384 ≤ (blockFull []).writer.written ∧ (blockFull []).comp.staging ≠ [] ∧
    (blockFull []).memOk ∧ (blockFull []).urgent = false ∧ (requestBlock 0 0 (blockFull [])).2 = none ∧
    (requestBlock 0 0 (blockFull [511])).2 = some 511 ∧ (capture .priming).writer.written < 16384 := by
  unfold State.memOk; decide +kernel

/-- An even-parity UART on channel 15, 9 data bits, 2 stop bits. -/
def wideUart : UartCfg := ⟨15, true, 9, .even, 2, 25000000⟩

theorem witness_UartPeriod_frames :
    UartRx.hunt.phase = .hunt ∧ (0x8000 : Half).getLsbD wideUart.rx = wideUart.idleHigh ∧
    (0x7FFF : Half).getLsbD wideUart.rx = !wideUart.idleHigh ∧ 5 ≤ wideUart.dataBits ∧ wideUart.dataBits ≤ 9 ∧
    (List.replicate 9 true).length = wideUart.dataBits ∧ ([true] : List Bool).length = 1 ∧
    ((List.replicate 9 true).count true + [true].count true) % 2 = 0 ∧
    ((([0, 10, 20, 30, 40, 50, 60, 70, 80, 90, 100, 110, 120].zip
      (false :: List.replicate 12 true)).map (·.2)) = false :: List.replicate 9 true ++ [true] ++ List.replicate 2 true) ∧
    ([0, 10, 20, 30, 40, 50, 60, 70, 80, 90, 100, 110, 120].zip (false :: List.replicate 12 true)).getLast? =
      some (120, true) ∧
    samplePoint 1024 7 2 ≤ 17 ∧ 16 < samplePoint 1024 7 2 := by decide +kernel

/-- R39's table at its bounds: every field at its last legal value, and each one value past it. -/
theorem witness_LoadTriggerResult_ranges :
    paramsInRange { ArmParams.reset with wPre := 2 ^ 46 - 1, pPost := 2 ^ 46 - 1, bPre := 511, sequence := 16 } = true ∧
    ([{ ArmParams.reset with wPre := 2 ^ 46 }, { ArmParams.reset with pPost := 2 ^ 46 }, { ArmParams.reset with bPre := 0 },
      { ArmParams.reset with sequence := 0 }, { ArmParams.reset with sequence := 17 },
      { ArmParams.reset with reclaim := .unknown }].all fun a => !paramsInRange a) = true ∧
    stageInRange { Stage.reset with cond := .decoder 3 0 65535 65535 } = true ∧
    stageInRange { Stage.reset with cond := .decoder 4 2 0 0 } = false ∧
    stageInRange { Stage.reset with cond := .decoder 0 2 0 0, qualifier := .heldAtLeast 1 } = false ∧
    stageInRange { Stage.reset with qualifier := .heldLessThan 65535, count := 65535, next := .stage 3 } = true ∧
    stageInRange { Stage.reset with qualifier := .heldAtLeast 0 } = false ∧
    stageInRange { Stage.reset with count := 0 } = false ∧ stageInRange { Stage.reset with next := .stage 4 } = false := by
  decide +kernel

/-- Every entry SEALED with one block of its own, nothing free, RECLAIM on; slot 0 live and waiting. -/
def allSealed : State :=
  { up with
    seq := { Sequencer.reset with params := { ArmParams.reset with reclaim := .on } }
    slots := up.slots.set 0 (slotIn .waiting)
    store := { up.store with freeList := [], segs := (List.range 16).map fun n => { sealedSeg with chain := [n], order := n } } }

theorem witness_ArmResult_reclaim :
    allSealed.ready .console .arm ∧ allSealed.hasRoom = true ∧ allSealed.store.segs.length = 16 ∧
    allSealed.seq.params.reclaim = .on ∧ (reclaimForArm 16 allSealed).lowestEmpty = some 0 ∧
    (reclaimForArm 16 allSealed).store.freeList = [0, 1] ∧
    ((reclaimForArm 16 allSealed).slot 0).source = some .live ∧
    ((reclaimForArm 16 allSealed).slot 0).state = .waiting ∧ (reclaimForArm 16 allSealed).tap.gapOpen = false ∧
    (reclaimForArm 16 allSealed).tap.entries.length ≤ 255 ∧ (withSlot (slotIn .running)).liveSlots = [0] ∧
    up.liveSlots = [] ∧ ((withSlot (slotIn .done)).slot 0).state ≠ .waiting := by unfold State.ready; decide +kernel

theorem witness_ForceResult_alerts :
    (capture .priming).ports.con.level .triggered ≠ .off ∧ (capture .priming).ports.teth.level .triggered ≠ .off := by
  decide +kernel

/-- A RELEASING entry whose only pin is the VIEW pin. -/
def releasing : State := withSeg { sealedSeg with state := .releasing, pins := { Pins.clear with view := true } }

theorem witness_FreedSegment_pins :
    (releasing.seg 0).state = .releasing ∧ { (releasing.seg 0).pins with view := false }.any = false ∧
    ((withSeg sealedSeg).seg 0).state ≠ .releasing ∧
    reading.mc.flight = some (.read ⟨.measure, 0, 0, 0, 0, 0, 4, true, [], groupHalves up.store.mem 0 0 0, false, false, 0⟩) ∧
    Requester.measure ≠ .renderer := by decide +kernel

/-- A chain of two blocks, the second with base tick 1000. -/
def twoBlocks : State :=
  { withSeg { sealedSeg with chain := [0, 1], trimmed := 3, start := 0, stop := 2000 } with
    store := { (withSeg { sealedSeg with chain := [0, 1], trimmed := 3, stop := 2000 }).store with
      blocks := up.store.blocks.set 1 ⟨none, 1000, 5⟩ } }

theorem witness_DecStartResult_first :
    (twoBlocks.seg 0).chain = [0, 1] ∧ twoBlocks.firstPos 0 999 = 3 ∧ twoBlocks.firstPos 0 1000 = 4 := by decide +kernel

theorem witness_DecStartChecks_sources :
    protocolInRange (.uart ⟨15, true, 9, .even, 2, 50⟩) = true ∧ protocolInRange (.uart ⟨15, true, 9, .even, 2, 49⟩) = false ∧
    protocolInRange (.uart ⟨16, true, 9, .even, 2, 50⟩) = false ∧
    protocolInRange (.spi ⟨0, none, false, 1, none, false, true, 16, true, 2 ^ 32 - 1⟩) = true ∧
    protocolInRange (.spi ⟨0, none, false, 1, none, false, true, 3, true, 0⟩) = false ∧
    protocolInRange (.i2c ⟨15, 15⟩) = false ∧ protocolInRange (.strobed ⟨[0, 1, 2, 3, 4, 5, 6, 7], 15, .rise⟩) = true ∧
    protocolInRange (.strobed ⟨[], 15, .rise⟩) = false ∧ protocolInRange (.strobed ⟨[3, 3], 15, .rise⟩) = false ∧
    State.reset.store.available = false ∧ up.store.available = true ∧ (up.seg 15).state = .empty ∧
    ((withSeg fillingSeg).seg 0).state = .filling ∧ ((withSeg sealedSeg).seg 0).state = .sealed ∧
    min 200 sealedSeg.stop < max 101 sealedSeg.start ∧ max 100 sealedSeg.start ≤ min 100 sealedSeg.stop ∧
    up.seq.seg = none ∧ (capture .priming).seq.seg = some 0 ∧ uartPeriod 4 25000000 = 1024 ∧
    uartPeriod 5 25000000 < 1024 := by decide +kernel

/-- Slot 0 with `n` queued characters, queue level `l`, the full notice as given. -/
def queued (n l : Nat) (full : Bool) : Slot :=
  { slotIn .done with queue := List.replicate n ⟨65, false, true⟩, level := l, fullNotice := full, drops := 255 }

theorem witness_CharQueueResult_offers :
    ((withSlot (queued 31 32 false)).slot 0).queue.length < 32 ∧
    ((withSlot (queued 31 32 false)).slot 0).level = 31 + 1 ∧ ((withSlot (queued 31 0 false)).slot 0).level = 0 ∧
    32 ≤ ((withSlot (queued 32 0 false)).slot 0).queue.length ∧ ((withSlot (queued 32 0 false)).slot 0).drops ≤ 255 ∧
    ((withSlot (queued 32 0 false)).slot 0).fullNotice = false ∧
    ((withSlot (queued 32 0 true)).slot 0).fullNotice = true ∧
    ((withSlot (queued 32 0 true)).slot 0).starter = some .console := by decide +kernel

/-- The engine busy on ticks 1,000 to 1,016 in state `st`, at tick 1,003. -/
def engine (st : Option Half) : Measure :=
  { Measure.reset with st := .busy, a := 1000, b := 1016, mask := 3, cur := st, acct := 1000, time := 1003 }

theorem witness_MeasureRequestsResult_records :
    min 1003 (engine none).b = 1003 ∧ (engine none).acct < 1003 ∧ (engine (some 5)).cur = some 5 ∧ (engine none).cur = none ∧
    min 999 (engine none).b ≤ (engine none).acct ∧ (engine none).b ≤ (engine none).time + (Record.trans 13 1).delta ∧
    (engine none).time + (Record.trans 12 1).delta < (engine none).b ∧
    (engine none).a < (engine none).time + (Record.trans 1 1).delta ∧
    { engine none with time := 999 }.time + (Record.trans 1 1).delta ≤ (engine none).a ∧
    Measure.read [.extend 1] (engine none) = ({ engine none with time := 1004, place := 1, acct := 1004, unknown := 4 }, false) ∧
    (Measure.read [.mark 1 .stop 1] (engine none)).2 = true ∧ ((withSeg fillingSeg).seg 0).state = .filling := by
  decide +kernel

/-- Segments `a` and `b` as entries 0 and 1, the view as given. -/
def viewing (v : ViewSeg) (a b : Segment) : State :=
  { up with
    store := { up.store with segs := (up.store.segs.set 0 a).set 1 b }
    render := { up.render with view := { up.render.view with seg := v, follow := true, scale := 2560 } } }

theorem witness_FrameRequested_latch :
    (viewing (.number 0) sealedSeg sealedSeg).render.frame = .idle ∧
    (viewing (.number 0) sealedSeg sealedSeg).render.view.seg = .number 0 ∧
    ((viewing .follow fillingSeg sealedSeg).seg 0).state = .filling ∧
    (∀ n, n < 16 → n ≠ 1 → ((viewing .follow { sealedSeg with order := 1 } { sealedSeg with order := 2 }).seg n).order <
      ((viewing .follow { sealedSeg with order := 1 } { sealedSeg with order := 2 }).seg 1).order) ∧
    ((viewing (.number 0) { sealedSeg with state := .releasing, pins := { Pins.clear with view := true } } sealedSeg).seg
      0).pins.view = true ∧
    ((viewing (.number 0) { sealedSeg with state := .releasing } sealedSeg).seg 0).pins.view = false ∧
    (∀ n, n < 16 → ((viewing (.number 0) sealedSeg { sealedSeg with pins := { Pins.clear with view := true } }).seg n).pins.view
      = true → n = 1) ∧
    ((requestFrame (viewing .follow fillingSeg { sealedSeg with
      state := .releasing, pins := { Pins.clear with view := true } })).seg 1 = Segment.empty) ∧
    (viewing .follow Segment.empty Segment.empty).render.view.follow = true := by decide +kernel

/-- A start sequence on the bus with one command, then `rest`. -/
def startingAt (rest : List InitEntry) : State :=
  withPanel fun p => { p with st := .starting, setup := some setup8, bus := .start (.command 1 [2] :: rest) }

theorem witness_PanelRequestsResult_abandoned :
    (startingAt []).ready .console .panelOff ∧ (startingAt []).panel.st ≠ .off ∧ (startingAt []).panel.setup = some setup8 ∧
    (startingAt []).panel.waiting = [] ∧ (startingAt []).panel.changes = [] ∧ (startingAt []).panel.emission = .idle ∧
    (startingAt []).panel.bus = .start (([((1 : Byte), [(2 : Byte)])].map fun c => .command c.1 c.2) ++ []) ∧
    (startingAt [.delay 5, .command 3 []]).panel.bus =
      .start (([((1 : Byte), [(2 : Byte)])].map fun c => .command c.1 c.2) ++ [.delay 5, .command 3 []]) ∧
    setupInRange { setup8 with wakeDelay := 255, init := List.replicate 32 (.delay 255) } = true ∧
    setupInRange { setup8 with init := List.replicate 33 (.delay 1) } = false ∧
    setupInRange { setup8 with init := [.delay 0] } = false ∧ setupInRange { setup8 with tePolarity := 2 } = false ∧
    setupInRange { setup8 with init := [.command 1 [0, 0, 0, 0, 0]] } = false := by unfold State.ready; decide +kernel

/-- A records stream with `left` records owed and `acc` bytes formed, a chunk wanted. -/
def recordsOwed (left acc : Nat) : Stream :=
  { streamOf (.records 0) with left := left, acc := List.replicate acc 0, want := some (asking .console 38 1, 256) }

theorem witness_StreamRequestsResult_words :
    (withCon (recordsOwed 9 0)).ports.con.stream = some (recordsOwed 9 0) ∧ (recordsOwed 9 0).source = .records 0 ∧
    (recordsOwed 9 0).want = some (asking .console 38 1, 256) ∧ ([0, 0, 0, 0] : List Word).length < (recordsOwed 9 0).left ∧
    240 + 16 ≤ (recordsOwed 9 240).acc.length + 16 ∧ (recordsOwed 4 240).left ≤ ([0, 0, 0, 0] : List Word).length ∧
    256 < (recordsOwed 4 241).acc.length + 16 ∧ (withTeth (recordsOwed 9 496)).ports.link = .configured ∧
    (recordsOwed 9 496).headerSent = true ∧ (recordsOwed 9 496).endQueued = false ∧
    512 ≤ (recordsOwed 9 496).acc.length + 16 ∧ (recordsOwed 4 495).acc.length + 16 < 512 ∧
    { recordsOwed 9 496 with buffer := [[1]] }.buffer.length = 1 ∧ ((withTeth (recordsOwed 4 0)).seg 0).state ≠ .releasing ∧
    1 ≤ (streamOf (.notes 0 0 0 9)).left := by decide +kernel

theorem witness_ConsoleTransactions_frames :
    (inPower .shutdown).power.st = .shutdown ∧ (inPower .startup).power.st = .startup ∧
    { inPower .dormant with ports := { up.ports with outFrame := some (.none true false 0) } }.ports.outFrame =
      some (.none true false 0) ∧
    { waiting 48 .none with ports := { (waiting 48 .none).ports with
      outFrame := some (.reply ⟨48, 1, .ok, .none, false⟩) } }.ports.outFrame =
      some (.reply ⟨48, 1, .ok, .none, false⟩) ∧
    (waiting 43 .none).outgoing = .reply ⟨43, 1, .ok, .none, false⟩ ∧ up.receives .console = true ∧
    (inPower .dormant).power.cutoff ≤ 3300 ∧ (inPower .dormant).ports.outFrame = none ∧
    (inPower .wakeup).outgoing = .none true false 0 ∧ (∀ r ∈ up.ports.conReplies, r.body = .none) ∧
    nopFrame ≠ [] := by decide +kernel

theorem witness_TetherTransfers_dormant :
    (inPower .dormant).power.st ≠ .startup ∧ (inPower .dormant).power.st ≠ .shutdown ∧
    (inPower .dormant).ports.link = .configured ∧ (tetherWaits 37).ports.tethReplies = ⟨37, 1, .ok, .none, false⟩ :: [] := by
  decide +kernel

theorem witness_LinkEvents_console :
    (capture .priming).slots.length = 4 ∧ (capture .priming).ports.claim = some .console ∧
    (capture .priming).seq.acq.sampling = true ∧ (measuring .busy none).meas.port = .console ∧
    ((withSlot (slotIn .running)).slot 0).starter = some .console ∧ (tetherHolds .priming).ports.claim ≠ some .console := by
  decide +kernel

/-- PRIMING with the lost pods `l`, the staging queue at `n`, the last state `st`. -/
def staged (l : List Nat) (n : Nat) (st : Half) : State :=
  { priming with
    fe := { priming.fe with lost := l }
    comp := { priming.comp with staging := List.replicate n (.extend 1), last := st } }

theorem witness_SampleTickResult_staging :
    (settle (staged [1] 1020 0)).fe.lost = [1] ∧ (settle (staged [1] 1020 0)).comp.staging.length = 1020 ∧
    (settle (staged [1] 1020 0)).seq.acq = .priming ∧ (settle (staged [0, 1] 1022 0)).comp.staging.length = 1022 ∧
    (settle (staged [0, 1] 1022 0)).fe.lost.length ≤ 2 ∧ (settle (staged [] 1021 0xFFFF)).comp.last = 0xFFFF ∧
    ((settle (staged [] 0 0)).fe.compare (List.replicate 16 5000)).levels &&& ((settle (staged [] 0 0)).seg 0).latched.mask
      = ((settle (staged [] 0 0)).seg 0).latched.mask ∧
    (losing .priming 512).clocked = true ∧
    (settle { losing .priming 512 with seq := { (losing .priming 512).seq with primingEnd := 99 } }).seq.acq = .priming ∧
    (settle { losing .priming 513 with seq := { (losing .priming 513).seq with primingEnd := 99 } }).comp.lossOpen = true ∧
    (losing .priming 512).comp.stagingTime ≤ (losing .priming 512).fe.tick ∧ (losing .priming 512).comp.lostCount ≤ 4095 ∧
    (losing .priming 512).ports.con.level .loss ≠ .off ∧ 0 < (losing .priming 512).store.segs.length := by decide +kernel

/-- PRIMING with slot 0 live, `n` tap entries, the slots `j` awaiting a joining BASE, a gap open or not. -/
def tapped (n : Nat) (j : List Nat) (gap : Bool) : State :=
  { priming with
    slots := up.slots.set 0 (slotIn .running)
    tap := { Tap.reset with gapOpen := gap, joining := j
                            entries := List.replicate n ⟨.extend 1, 1, false, [0], some 0, 4⟩ } }

theorem witness_SampleTickResult_tap :
    (settle (tapped 255 [] false)).seq.acq = .priming ∧ (settle (tapped 255 [] false)).liveSlots ≠ [] ∧
    (settle (tapped 255 [] false)).fe.lost = [] ∧ (settle (tapped 255 [] false)).comp.tapTime ≤ 10 ∧
    (settle (tapped 255 [] false)).tap.heldEnd = none ∧ (settle (tapped 255 [] false)).owers ≠ [] ∧
    (settle (tapped 255 [] false)).tap.entries.length = 255 ∧ (settle (tapped 256 [] false)).tap.entries.length = 256 ∧
    (settle (tapped 255 [0] false)).tap.joining = [0] ∧ (settle (tapped 255 [0] false)).tap.gapOpen = false ∧
    (settle (tapped 128 [] true)).tap.gapOpen = true ∧ (settle (tapped 128 [] true)).allOwers ≠ [] ∧
    (settle (tapped 128 [] true)).tap.entries.length = 128 ∧ (settle (tapped 129 [0] true)).tap.entries.length = 129 := by
  decide +kernel

/-- HUNTING in stage 1, whose pattern wants channel 0 high, `n` matches wanted, then `tgt`. -/
def patternHunt (n : Nat) (tgt : Target) : State :=
  { capture (.hunting 1) with seq := { (capture (.hunting 1)).seq with params := { ArmParams.reset with
      pPost := 0, stages := List.replicate 4 { Stage.reset with
        cond := .pattern (.high :: List.replicate 15 .ignore), count := n, next := tgt } } } }

/-- The same with a DECODER condition: a CHAR of slot 2, value 0x41 under mask 0xFF. -/
def decoderHunt (n : Nat) (tgt : Target) : State :=
  { capture (.hunting 1) with seq := { (capture (.hunting 1)).seq with params := { ArmParams.reset with
      stages := List.replicate 4 { Stage.reset with cond := .decoder 2 2 0x41 0xFF, count := n, next := tgt } } } }

theorem witness_SampleTickResult_hunting :
    (settle (patternHunt 2 .final)).seq.acq = .hunting 1 ∧ (patternHunt 2 .final).clocked = true ∧
    (settle (patternHunt 2 .final)).liveSlots = [] ∧ ((settle (patternHunt 2 .final)).stageAt 1).count = 2 ∧
    patternHolds (.high :: List.replicate 15 .ignore) 0 0 1 = true ∧
    qualify .none false true 0 = (0, true) ∧ qualify .none true true 0 = (0, false) ∧
    ((settle (patternHunt 1 (.stage 3))).stageAt 1).next = .stage 3 ∧
    ((settle (patternHunt 1 .final)).stageAt 1).next = .final ∧ 1032 ≤ (settle (patternHunt 1 .final)).freePlaces 0 ∧
    0 < (settle (patternHunt 1 .final)).store.segs.length ∧ (settle (patternHunt 1 .final)).seq.params.pPost = 0 ∧
    (decoderHunt 1 .final).seq.acq = .hunting 1 ∧ ((decoderHunt 1 .final).stageAt 1).cond = .decoder 2 2 0x41 0xFF ∧
    (decoderHunt 1 .final).seq.seg = some 0 ∧ 0x141 &&& 0xFF = 0x41 &&& 0xFF ∧ 0x42 &&& 0xFF ≠ 0x41 &&& 0xFF ∧
    (decoderHunt 1 .final).seq.matchCount + 1 = ((decoderHunt 1 .final).stageAt 1).count ∧
    (65535 : Nat) ≤ 65535 := by decide +kernel

/-- R44, R48, R50: a rise of channel 0 at its first matching tick, with P_post 0, takes the trigger and drains. -/
theorem test_pattern_trigger :
    after (exec (.sampleTick (5000 :: List.replicate 15 0))
      { patternHunt 1 .final with
        fe := { (patternHunt 1 .final).fe with pod0 := { up.fe.pod0 with powered := true } }
        store := { (patternHunt 1 .final).store with segs := up.store.segs.set 0 { fillingSeg with
          latched := { Latched.reset with mask := 0xFFFF } } } })
      (fun t => t.seq.acq = .draining && t.seq.stopTick = some 12 && (t.seg 0).trigger = some ⟨11, false, false⟩) = true := by
  decide +kernel

/-- A writer burst that carries the END of a COMPLETE segment, its sequence to go on, the blocks `l` free. -/
def sealing (l : List Nat) : State :=
  { capture .draining with
    comp := { Compressor.reset with staging := [.mark 1 .stop 1] }
    mc := { up.mc with flight := some (.write 1) }
    seq := { (capture .draining).seq with
      stopTick := some 11, reason := some .complete, params := { ArmParams.reset with sequence := 2 } }
    store := { (capture .draining).store with freeList := l } }

/-- A burst of one record into the last block of a POSTFILL segment whose place count is then `n`. -/
def tight (n : Nat) : State :=
  { capture .postfill with
    comp := { Compressor.reset with staging := [.extend 1] }
    mc := { up.mc with flight := some (.write 1) }
    writer := { Writer.reset with seg := some 0, written := n - 1 }
    store := { (capture .postfill).store with freeList := [] } }

theorem witness_WriterBurstResult_after :
    (sealing [5, 6]).memOk ∧ (sealing [5, 6]).mc.flight = some (.write 1) ∧ (sealing [5, 6]).seq.stopTick = some 11 ∧
    (sealing [5, 6]).seq.reason = some .complete ∧ (sealing [5, 6]).seq.seqEnd = false ∧
    (sealing [5, 6]).seq.taken < (sealing [5, 6]).seq.params.sequence ∧ (sealing [5, 6]).fe.tick < 140737488355328 ∧
    (sealing [5, 6]).seq.params.reclaim ≠ .on ∧ ((sealing [5, 6]).seg 0).state = .filling ∧
    (sealing [5, 6]).lowestEmpty = some 1 ∧ (sealing [5, 6]).store.freeList = 5 :: 6 :: [] ∧
    (sealing [5]).store.freeList.length ≤ 1 ∧ (sealing [5]).ports.con.level .storeLow ≠ .off ∧
    (∃ r ∈ (sealing []).comp.staging.take 1, r.isEnd = true) ∧
    (tight 15353).mc.flight = some (.write 1) ∧ (tight 15353).seq.acq = .postfill ∧ (tight 15353).store.freeList = [] ∧
    ((tight 15353).seg 0).chain.getLast? = some (tight 15353).writer.block ∧ 15352 < (tight 15353).writer.written + 1 ∧
    (tight 15353).memOk ∧ (∀ r ∈ (tight 15353).comp.staging.take 1, r.isEnd = false) := by
  unfold State.memOk; decide +kernel

/-- R57: the sequence re-arms at the seal: entry 1 fills from block 5 at the tick of the seal. -/
theorem test_rearm : after (exec .writerBurstEnd (sealing [5, 6])) (fun t =>
    t.seq.acq = .priming && (t.seg 0).state = .sealed && (t.seg 1).chain = [5] && (t.seg 1).start = 10 &&
      (t.seg 1).index = 2) = true := by decide +kernel

/-- A FILLING entry with chain `c`, before its trigger, B_pre `b`, the blocks `l` free. -/
def chained (c l : List Nat) (b : Nat) : State :=
  { capture .priming with
    seq := { (capture .priming).seq with params := { ArmParams.reset with bPre := b } }
    store := { (capture .priming).store with freeList := l, segs := up.store.segs.set 0 { fillingSeg with chain := c } } }

theorem witness_WriterBurstResult_blocks :
    ((chained [0, 1] [7] 1).seg 0).chain = 0 :: 1 :: [] ∧ ((chained [0, 1] [7] 1).seg 0).trigger = none ∧
    (chained [0, 1] [7] 1).seq.params.bPre + 1 ≤ 2 ∧ (chained [0, 1] [7] 1).store.freeList ++ [0] = 7 :: [0] ∧
    (chained [0, 1] [] 9).store.freeList = [] ∧ (7 : Nat) < (chained [0, 1] [7] 1).store.blocks.length ∧
    ((chained [0] [] 1).seg 0).chain.length ≤ 1 ∧ ((chained [0] [7] 1).seg 0).chain.length ≤
      (chained [0] [7] 1).seq.params.bPre ∧
    (tight 15353).freePlaces 0 = 16384 ∧
    { tight 0 with store := { (tight 0).store with blocks := up.store.blocks.set 0 ⟨none, 0, 15353⟩ } }.freePlaces 0 = 1031 ∧
    allSealed.oldestEligible = some 0 ∧ (tight 0).oldestEligible = none ∧
    (lowState 31 true).store.armed = true ∧ (lowState 512 false).store.armed = false := by decide +kernel

/-- A measurement's read burst `k` halfwords on, in transfer or not. -/
def cutting (moving : Bool) (k : Nat) : State :=
  { measuring .busy none with
    mc := { up.mc with
      flight := some (.read ⟨.measure, 0, 0, 0, 0, 64, 4, true, [], List.replicate 8 0, false, moving, k⟩)
      banks := [.idle, .opening 3, .opened 5, .closing] } }

theorem witness_ControllerEvents_cut :
    (cutting true 7).mc.flight =
      some (.read ⟨.measure, 0, 0, 0, 0, 64, 4, true, [], List.replicate 8 0, false, true, 7⟩) ∧
    (64 : Nat) / 64 % 4 = 1 ∧ (List.replicate 8 (0 : Half)).length ≤ 7 + 1 ∧ 6 + 1 < (List.replicate 8 (0 : Half)).length ∧
    (cutting false 0).mc.banks.getD 1 .idle = .opening 3 ∧ up.urgent = false ∧
    256 ≤ { up with comp := { up.comp with staging := List.replicate 256 (.extend 1) } }.comp.staging.length ∧
    up.mc.st = .serving ∧ up.power.pll = .locked ∧ up.writer.seg = none ∧
    { up with mc := { up.mc with remainders := [⟨.console, 0, 0, 0, 0, 4, true, [1, 2, 3]⟩] } }.remainder .console =
      some ⟨.console, 0, 0, 0, 0, 4, true, [1, 2, 3]⟩ ∧ (up.seg 0).trimmed ≤ 0 ∧
    { up with mc := { up.mc with st := .entering } }.mc.flight = none ∧ State.reset.mc.st = .initialising ∧
    Requester.console = readRequester .console ∧ reading.readPlace .measure 0 = 4 * 0 := by decide +kernel

/-- Slot 0 OFFLINE on segment 0, running at tick 0. -/
def offlineAt : State :=
  { withSlot { slotIn .running with source := some (.offline 0 0 5), reading := some ⟨0, 0, 0⟩ } with
    store := (withSeg { sealedSeg with pins := { Pins.clear with decode := 1 } }).store }

theorem witness_TapEntryConsumed_offline :
    (offlineAt.slot 0).state = .running ∧ (offlineAt.slot 0).source = some (.offline 0 0 5) ∧ 0 < offlineAt.slots.length ∧
    offlineAt.render.frame ≠ .classifying ∧ (offlineAt.notesOf 0).length < (offlineAt.slot 0).quota ∧
    (offlineAt.slot 0).starter = some .console ∧ (offlineAt.slot 0).proto = some (.strobed ⟨[0], 1, .rise⟩) ∧
    (Record.mark 2 .stop 1).isEnd = true ∧ 5 < (offlineAt.slot 0).reached + (Record.trans 6 1).delta ∧
    (Record.trans 6 1).isLossEnd = false ∧ (Formed.plain 2 3 5 0x41).feeds.isSome = true ∧
    ((withSlot { slotIn .running with tag := none }).slot 0).live = true := by decide +kernel

/-- An SPI slot: clock 0, MOSI 1, MISO 2, words of 4, leading edges from LOW; with select channel 3 active LOW or
none. -/
def spiOf (select : Option Nat) (gap : Nat) : SpiCfg := ⟨0, select, false, 1, some 2, false, true, 4, true, gap⟩

theorem witness_TapEntryConsumed_forms :
    (0 : Half).getLsbD (spiOf none 0).clock ≠ (1 : Half).getLsbD (spiOf none 0).clock ∧
    ((0 : Half).getLsbD 0 = (spiOf none 0).idleHigh ↔ (spiOf none 0).leading = true) ∧ (spiOf none 9).gapTimeout < 20 - 10 ∧
    (spiOf (some 3) 0).select = some 3 ∧ (0 : Half).getLsbD 3 = (spiOf (some 3) 0).selectHigh ∧
    (8 : Half).getLsbD 3 ≠ (spiOf (some 3) 0).selectHigh ∧
    (3 : Half).getLsbD 0 = true ∧ (3 : Half).getLsbD 1 = true ∧ (1 : Half).getLsbD 1 = false ∧
    (⟨true, List.replicate 8 true, 5, true, false⟩ : I2cRx).bits.length = 8 ∧
    (⟨true, List.replicate 7 true, 5, false, false⟩ : I2cRx).bits.length < 8 ∧ I2cRx.idle.active = false := by
  decide +kernel

/-- R125: a START, the address byte 0x55 with READ and its acknowledge. -/
theorem test_i2c_address :
    let c : I2cCfg := ⟨0, 1⟩
    let byte := [true, false, true, false, true, false, true, true].flatMap fun b =>
      [((if b then 2 else 0 : Half), (if b then 3 else 1 : Half)), (if b then 3 else 1, if b then 2 else 0)]
    let edges := ((3 : Half), (1 : Half)) :: (1, 0) :: byte ++ [((0 : Half), (1 : Half))]
    ((edges.zipIdx.foldl (fun (x : I2cRx × List Formed) e =>
      let y := i2cEdge c x.1 e.1.1 e.1.2 (10 * e.2)
      (y.1, x.2 ++ y.2)) (I2cRx.idle, [])).2.map fun f => (f.kind, f.value, f.read, f.ack)) =
      [(8, 0, false, false), (10, 0x55, true, true)] := by decide +kernel

theorem witness_RendererEvents_records :
    (5 : Nat) ≤ 0 + (Record.trans 5 1).delta ∧ 0 + (Record.trans 4 1).delta < 5 ∧ (Record.mark 1 .stop 1).isEnd = true ∧
    (Record.extend 1).isEnd = false ∧ (classifying false).render.reader.done = false ∧
    (Record.base false 3).state?.isSome = true ∧ (Record.mark 1 .lossEnd 0).isLossEnd = true ∧
    min 9 5 ≤ max 5 0 ∧ max 1 0 < min 9 5 ∧
    colData [⟨0, .base false 1⟩, ⟨3, .mark 3 .lossBegin 0⟩, ⟨6, .mark 3 .lossEnd 2⟩] 0 9 0 3 = .known 0 1 ∧
    colData [⟨0, .base false 1⟩, ⟨3, .mark 3 .lossBegin 0⟩, ⟨6, .mark 3 .lossEnd 2⟩] 0 9 0 4 = .unknown ∧
    colData [⟨0, .base false 1⟩, ⟨3, .trans 3 3⟩] 0 9 3 6 = .known 0 3 ∧
    colData [⟨0, .base false 1⟩, ⟨3, .trans 3 3⟩] 0 9 2 6 = .known 2 1 := by decide +kernel

/-- A latched frame of segment 0 with one ANNOTATION row of slot 0, one tick a column, entries `es`. -/
def annotated (es : List Note) : State :=
  { up with
    notes := up.notes.set 0 es
    render := { up.render with latch := { up.render.latch with
      seg := some 0, start := 0, stop := 300, t0 := 0, scale := 256, layout := [⟨.annotation 0, 16, 1⟩] } } }

theorem witness_RendererEvents_rows :
    (annotated []).render.latch.layout[0]? = some ⟨.annotation 0, 16, 1⟩ ∧ (annotated []).walkOf 0 = NoteWalk.head ∧
    (annotated []).render.reader.frozen = [] ∧
    ((newTrace (annotated [⟨0, 0, 2, 3, 5, 0x41, none, false, false, true⟩, ⟨0, 0, 1, 4, 6, 0, none, false, false,
      false⟩])).getD 0 []).take 7 = [.none, .none, .none, .bar false none, .bar true none, .bar true none, .none] := by
  decide +kernel

theorem witness_PanelBusEvents_start :
    (withPanel fun p => { p with st := .starting, setup := some setup8, waiting := [.start] }).panel.waiting = .start :: [] ∧
    (busAt .starting (.start [.command 3 [], .delay 5])).panel.bus =
      .start (([((3 : Byte), ([] : List Byte))].map fun c => .command c.1 c.2) ++ .delay 5 :: []) ∧
    (busAt .starting (.start [])).panel.setup = some setup8 := by decide +kernel

theorem witness_StartUp_levels :
    (up.fe.pod 0).powered = false ∧ (priming.fe.pod 1).powered = true ∧
    ((priming.fe.powerUp (List.replicate 16 5000)).levels.getLsbD 15 = true) := by decide +kernel

theorem witness_SelfRefreshPassages_watch :
    { up.fe with watch := some (8, .fall) }.watch = some (8, .fall) ∧
    ({ up.fe with watch := some (8, .fall) }.pod 1).present = false ∧
    { up.fe with watch := some (8, .fall), pod1 := { up.fe.pod1 with present := true, sense := false } }.sleep.detector =
      none ∧
    { up.fe with watch := some (15, .fall), pod1 := { up.fe.pod1 with present := true, sense := true } }.sleep.detector =
      some false := by decide +kernel

theorem witness_WakeCauses_suspended :
    { dormant with ports := { dormant.ports with link := .suspended } }.ports.link = .suspended ∧
    after (exec (.usbResume 3700) { dormant with ports := { dormant.ports with link := .suspended } })
      (fun t => t.ports.link = .configured && t.power.st = .wakeup && t.power.wake.tether) = true := by decide +kernel

/-- A measurement of ticks 1,000 to 1,016 whose next block was trimmed: the first block retained begins at tick 2,000. -/
def trimmedAhead : State :=
  { withSeg { fillingSeg with chain := [3, 4], trimmed := 1, start := 2000, pins := { Pins.clear with measure := true } } with
    meas := { engine (some 5) with pos := some 0 } }

theorem witness_MeasureRequestsResult_trimmed :
    trimmedAhead.meas.st = .busy ∧ trimmedAhead.meas.b ≤ (trimmedAhead.seg 0).start ∧
    trimmedAhead.meas.acct < trimmedAhead.meas.b := by decide +kernel

/-- R143 to R145: the burst is answered TRIMMED, and with every tick unknown the measurement completes at once. -/
theorem test_trimmed_completes :
    after (exec .refreshDue trimmedAhead) (fun t => t.meas.st = .ready &&
      (t.meas.result.map fun r => (r.ticks, r.incomplete, r.chans.map (·.unknown))) = some (16, true, [16, 16]) &&
      (t.seg 0).pins.measure = false) = true := by decide +kernel

/-- R85: a block taken since the last writer burst ended does not show in the store status. -/
theorem test_status_chain :
    (SegReport.of { fillingSeg with chain := [3, 4], burstChain := 1 }).chainLength = 1 ∧
    (SegReport.of { sealedSeg with chain := [3, 4], burstChain := 1 }).chainLength = 2 := by decide +kernel

theorem witness_PanelBusEvents_wake :
    (withPanel fun p => { p with setup := some setup8, waiting := [.sleepOut, .off] }).panel.waiting =
      .sleepOut :: .off :: [] ∧
    (withPanel fun p => { p with setup := some setup8, waiting := [.sleepOut, .sleepIn] }).panel.bus = .idle ∧
    (withPanel fun p => { p with setup := some setup8, waiting := [.sleepOut, .sleepIn] }).panel.changes = [] := by
  decide +kernel

/-- Slot 0 decodes SPI with an active-LOW select from a writer BASE of state 0. -/
def closingAt : State :=
  withSlot { offlineAt.slot 0 with
    proto := some (.spi (spiOf (some 3) 0)), walk := { Walk.reset with decoding := true, proto := .spi ⟨false, [], [], 0, none⟩ } }

theorem witness_TapEntryConsumed_closing :
    (closingAt.slot 0).state = .running ∧ (closingAt.slot 0).source = some (.offline 0 0 5) ∧ 0 < closingAt.slots.length ∧
    (closingAt.slot 0).proto = some (.spi (spiOf (some 3) 0)) ∧ (spiOf (some 3) 0).select = some 3 ∧
    (closingAt.slot 0).reached ≤ 5 ∧ (closingAt.slot 0).walk.decoding = true ∧ (8 : Half) ≠ (closingAt.slot 0).walk.cur ∧
    (closingAt.slot 0).walk.proto = .spi ⟨false, [], [], 0, none⟩ := by decide +kernel

/-- R34, R35: a slot that makes the tap active long after the arm gets its joining BASE, and no gap opens. -/
theorem test_late_join :
    let s := { capture .priming with
      fe := { up.fe with tick := 2 ^ 40 }
      comp := { up.comp with stagingTime := 2 ^ 40, last := 1 }
      seq := { (capture .priming).seq with primingEnd := 2 ^ 41 } }
    after (exec (.decStart .console 1 0 (.strobed ⟨[0], 1, .rise⟩) .live 1 0) s) (fun t => t.comp.tapTime = 2 ^ 40 &&
      after (exec (.sampleTick []) t) (fun u => !u.tap.gapOpen && u.tap.entries.length = 1)) = true := by decide +kernel

theorem witness_TickEventsResult_due :
    idleLong.seq.acq.sampling = true ∧ idleLong.comp.lossOpen = false ∧ idleLong.tapActive = true ∧
    idleLong.fe.tick = idleLong.comp.stagingTime + 1073741823 ∧ idleLong.fe.tick = idleLong.comp.tapTime + 1073741823 ∧
    1021 < { idleLong.comp with staging := List.replicate 1022 (.extend 1) }.staging.length ∧
    { idleLong.tap with gapOpen := true }.gapOpen = true ∧ up.seq.acq.sampling = false ∧
    { idleLong.fe with tick := 1073741822 }.tick ≠ idleLong.comp.stagingTime + 1073741823 := by decide +kernel

theorem witness_ControllerEvents_order : ([.writer, .renderer, .decoder, .measure, .console, .tether] : List Requester)[5]? =
    some .tether := by decide

/-- An active-LOW select on channel 3: held over the clock's rise, asserted with it, released before it. -/
theorem witness_TapEntryConsumed_select :
    (spiOf (some 3) 0).select = some 3 ∧ (0 : Half).getLsbD 3 = (spiOf (some 3) 0).selectHigh ∧
    (1 : Half).getLsbD 3 = (spiOf (some 3) 0).selectHigh ∧ (8 : Half).getLsbD 3 ≠ (spiOf (some 3) 0).selectHigh ∧
    (9 : Half).getLsbD 3 ≠ (spiOf (some 3) 0).selectHigh ∧
    ((0 : Half).getLsbD 0 = (spiOf (some 3) 0).idleHigh ↔ (spiOf (some 3) 0).leading = true) ∧
    ([true, false, true] ++ [true]).length = (spiOf (some 3) 0).wordLength ∧ 2 ≤ (spiOf (some 3) 0).wordLength := by
  decide +kernel

/-- R122, R123: the fourth bit of a selected word forms WORD 0b1011; an assertion empties the word in progress. -/
theorem test_spi_select :
    let r : SpiRx := ⟨true, [true, false, true], [false, false, false], 10, some 14⟩
    (spiEdge (spiOf (some 3) 0) r 2 3 16).2.map (fun f => (f.kind, f.start, f.stop, f.value, f.aux)) =
      [(6, 10, 17, 11, some 0)] ∧
    (spiEdge (spiOf (some 3) 0) r 10 2 16).1.mosi = [] ∧ (spiEdge (spiOf (some 3) 0) r 10 3 16).1.mosi = [true] := by
  decide +kernel

theorem witness_ReadRecordsResult_header :
    ((withSeg sealedSeg).seg 0).reason = some .complete ∧ ((withSeg sealedSeg).seg 0).trigger = none ∧
    { sealedSeg with trigger := some ⟨9, true, false⟩ }.trigger = some ⟨9, true, false⟩ := by decide +kernel

/-- R216: bytes 24 to 27 are the record count, 40 to 46 the trigger tick and its flags, 47 the seal reason. -/
theorem test_records_header :
    let h := recordsHeader 3 0x010203040506 7 8 9 0x0A0B0C0D
      { sealedSeg with trigger := some ⟨0x111213141516, true, true⟩, reason := some .power, index := 5 }
    (h.take 8, (h.drop 24).take 4, (h.drop 40).take 8, h[52]?) =
      ([1, 3, 6, 5, 4, 3, 2, 1], [0x0D, 0x0C, 0x0B, 0x0A], [0x16, 0x15, 0x14, 0x13, 0x12, 0x11, 7, 5], some 5) := by
  decide +kernel

/-- R212, R214: the payloads of FORCE, READ_RECORDS and ALERT_LEVELS. -/
theorem test_reply_payloads :
    (ReplyBody.tick 0x010203040506).bytes = [6, 5, 4, 3, 2, 1] ∧
    (ReplyBody.recordsStream 1 2 0x0304).bytes = [1, 0, 0, 0, 0, 0, 2, 0, 0, 0, 0, 0, 4, 3, 0, 0] ∧
    (ReplyBody.levels [.off, .routine, .urgent]).bytes = [0, 1, 2] := by decide +kernel

/-- `n` entries of segment 0 and then one of segment 1, read by a console stream of 20. -/
def noteChunk (n : Nat) : State :=
  { noted with
    notes := noted.notes.set 0 (List.replicate n ⟨0, 0, 2, 5, 6, 0, none, false, false, false⟩ ++
      [⟨0, 1, 2, 5, 6, 0, none, false, false, false⟩])
    ports := (withCon { streamOf (.notes 0 0 0 9) with left := 20 }).ports }

/-- R140, R197: the twelfth entry is the stream's last item when only an entry not selected follows, and not when a
thirteenth does. -/
theorem test_last_chunk :
    (after (exec (.readNext .console 1) (noteChunk 12)) fun t => t.ports.con.stream = none &&
      t.ports.conReplies.map (·.last) = [true]) = true ∧
    (after (exec (.readNext .console 1) (noteChunk 13)) fun t => t.ports.con.stream.isSome &&
      t.ports.conReplies.map (·.last) = [false]) = true := by decide +kernel

/-- CLASSIFY is over on a SHOWING panel, band 3 dirty; the bus idle, TE used or not. -/
def handingOff (te : Switch) : State :=
  { classifying true with
    render := { (classifying true).render with dirty := [3], drawnA := [], drawnB := [] }
    panel := { up.panel with st := .showing, setup := some { setup8 with teUsed := te } } }

theorem witness_RendererEvents_handOff :
    (handingOff .on).awake = true ∧ (handingOff .on).render.frame = .classifying ∧
    (handingOff .on).render.reader.done = true ∧ (handingOff .on).render.trace.length = 20 ∧
    (handingOff .on).render.latch.layout.length ≤ 20 ∧ (handingOff .on).panel.st = .showing ∧
    (handingOff .on).panel.bus = .idle ∧ (handingOff .on).panel.teUsed = true ∧ (handingOff .on).panel.teMissing = false ∧
    (handingOff .on).panel.waiting = [] ∧ (handingOff .on).panel.queue = [] ∧ (handingOff .off).panel.teUsed = false ∧
    (handingOff .off).panel.setup = some { setup8 with teUsed := .off } ∧ (handingOff .off).panel.changes = [] ∧
    bandWindows (handingOff .off).panel.overlays 3 ≠ [] ∧ (classifying true).panel.st ≠ .showing ∧
    (watching .idle).panel.bus ≠ .idle ∧ { up.render with again := true }.again = true ∧
    up.power.st ≠ .entry := by decide +kernel

/-- R157, R178: with TE used the hand-off of band 3 waits for a TE event; without TE the band is written at once. -/
theorem test_hand_off :
    (after (exec .classifyEnd (handingOff .on)) fun t => t.render.frame = .emitting && t.panel.emission = .waiting false &&
      3 ∈ t.panel.handOff) = true ∧
    (after (exec .classifyEnd (handingOff .off)) fun t => t.panel.emission = .emitting &&
      t.panel.handOff.head?.isSome && t.panel.bus ≠ .idle) = true := by decide +kernel

/-- A label: 14 columns for a value of two digits, row of 9 lines. -/
theorem witness_RendererEvents_label :
    6 * 2 + 2 ≤ ((List.range 300).filter fun x => colEdge 0 256 x < 24 ∧ 10 < colEnd 0 256 x).length ∧
    ((List.range 300).filter fun x => colEdge 0 256 x < 24 ∧ 10 < colEnd 0 256 x).headD 0 + (14 - 6 * 2) / 2 = 11 ∧
    ¬ (6 * 2 + 2 ≤ ((List.range 300).filter fun x => colEdge 0 256 x < 23 ∧ 10 < colEnd 0 256 x).length) := by
  decide +kernel

/-- One channel row of 16 lines in colour 2 whose first cells are HIGH, LOW, EDGE, UNKNOWN. -/
def drawing : State :=
  { up with render := { up.render with
    latch := { up.render.latch with layout := [⟨.channel 0, 16, 2⟩], palette := [0, 1, 2, 3, 4, 5, 6, 7] }
    trace := [.high, .low, .edge, .unknown] :: up.render.trace.drop 1
    drawnA := [9], drawnB := [] } }

theorem witness_ColumnSpans_pixels :
    drawing.render.latch.layout[0]? = some ⟨.channel 0, 16, 2⟩ ∧ (1 ∉ drawing.render.drawnA ∧ 1 ∉ drawing.render.drawnB) ∧
    drawing.render.trace[0]? = some [.high, .low, .edge, .unknown] ∧ 9 ∈ drawing.render.drawnA ∧
    (drawing.render.latch.layout.map (·.height)).sum = 16 ∧ up.panel.overlays = [none, none, none, none] ∧
    ((20 : Nat) + 1) / 16 = 20 / 16 := by decide +kernel

/-- R162, R163: the margin line, a top line, a connector, a hatch, the cursor, and the line below the layout. -/
theorem test_pixels :
    [(20, 0), (20, 1), (20, 2), (21, 5), (23, 1), (23, 2), (29, 15), (29, 16)].map (fun p => drawing.pixel p.1 p.2) =
      [0, 2, 0, 2, 1, 0, 6, 0] := by decide +kernel

/-- R184: three pixels of a rectangle 2 wide from its second pixel go out as one pixel of its first line and two of its
second. -/
theorem test_chunk_windows :
    chunkTransfers setup8 ⟨5, 7, 2, 3⟩ 256 1 [0x0102, 0x0304, 0x0506] =
      [.command 0x2A, .data 0, .data 6, .data 0, .data 6, .command 0x2B, .data 0, .data 7, .data 0, .data 7, .command 0x2C,
       .data 1, .data 2,
       .command 0x2A, .data 0, .data 5, .data 0, .data 6, .command 0x2B, .data 0, .data 8, .data 0, .data 8, .command 0x2C,
       .data 3, .data 4, .data 5, .data 6] := by decide +kernel

/-- Overlay 0 covers plot columns 200 to 279 of lines 100 to 139 while a frame is in flight. -/
def uncovering : State :=
  { up with
    render := { up.render with frame := .classifying }
    panel := { up.panel with overlays := [some ⟨200, 100, 80, 40⟩, none, none, none], changes := [⟨0, none, none⟩] } }

theorem witness_PanelBusEvents_uncovers :
    uncovering.render.frame ≠ .idle ∧ (∀ b ∈ uncovering.render.dirty, b < 15) ∧ uncovering.panel.bus = .idle ∧
    uncovering.panel.changes = ⟨0, none, none⟩ :: [] ∧ uncovering.panel.queue = [] ∧
    uncovering.panel.overlays.getD 0 none = some ⟨200, 100, 80, 40⟩ ∧ bandOn.panel.setup = some setup8 := by
  decide +kernel

/-- R182 and the worked sequence of chapter 9: clearing it uncovers bands 6, 7 and 8. -/
theorem test_uncovered :
    after (exec .overlayChangeApply uncovering) (fun t => t.render.dirty = [6, 7, 8] && t.render.again) = true := by
  decide +kernel

end Sys2Proof.Tests
end

section
/-! PROOFS. Character queues (R129 to R131): what the slot check answers, what QUEUE_TAKE and QUEUE_PEEK do in each
case, what an offered entry does below 32 entries and at 32. -/

namespace Sys2Proof.Machine

/-! ## The slot check of R111, steps 1 and 2 -/

theorem slotCheck_noSuch {q : Asker} {k : Nat} {s : State} (h : 3 < k ∨ (s.slot k).state = .free) :
    slotCheck q k s = some .noSuch := if_pos h

theorem slotCheck_foreign {q : Asker} {k : Nat} {s : State} (hk : k ≤ 3) (hf : (s.slot k).state ≠ .free)
    (ho : (s.slot k).starter ≠ some q.port) : slotCheck q k s = some .foreign := by
  simp [slotCheck, Nat.not_lt.mpr hk, hf, ho]

theorem slotCheck_passed {q : Asker} {k : Nat} {s : State} (hk : k ≤ 3) (hf : (s.slot k).state ≠ .free)
    (ho : (s.slot k).starter = some q.port) : slotCheck q k s = none := by
  simp [slotCheck, Nat.not_lt.mpr hk, hf, ho]

/-! ## QUEUE_TAKE (R130) -/

theorem exec_queueTake_ready {p : Port} {tag : Tag} {k n : Nat} {s : State} (h : s.ready p (.queueTake k n)) :
    exec (.queueTake p tag k n) s = .next (doQueueTake (asking p 16 tag) k n s) :=
  congrArg Host.Outcome.next (receive_ready h)

/-- A slot after a take of `n` entries. -/
def Slot.afterTake (x : Slot) (n : Nat) : Slot :=
  { x with
    queue := x.queue.drop n
    drops := 0
    fullNotice := if x.queue.length - n < 32 then false else x.fullNotice }

theorem doQueueTake_refused {q : Asker} {k n : Nat} {s : State} {st : Status} (h : slotCheck q k s = some st) :
    doQueueTake q k n s = refuse q st s := by
  rw [doQueueTake, h]

theorem doQueueTake_outOfRange {q : Asker} {k n : Nat} {s : State} (h : slotCheck q k s = none) (hn : 32 < n) :
    doQueueTake q k n s = refuse q .outOfRange s := by
  simp only [doQueueTake, h, if_pos hn]

theorem doQueueTake_taken {q : Asker} {k n : Nat} {s : State} (h : slotCheck q k s = none) (hn : n ≤ 32) :
    doQueueTake q k n s = answer q .ok
      (.taken ((s.slot k).queue.take n) (s.slot k).queue.length ((s.slot k).queue.length = 32) (s.slot k).drops)
      (s.setSlot k ((s.slot k).afterTake n)) := by
  simp only [doQueueTake, h, if_neg (Nat.not_lt.mpr hn), List.length_drop, Slot.afterTake]

/-! ## QUEUE_PEEK (R131) -/

theorem exec_queuePeek_ready {p : Port} {tag : Tag} {k : Nat} {s : State} (h : s.ready p (.queuePeek k)) :
    exec (.queuePeek p tag k) s = .next (doQueuePeek (asking p 17 tag) k s) :=
  congrArg Host.Outcome.next (receive_ready h)

theorem doQueuePeek_noSuch {q : Asker} {k : Nat} {s : State} (h : 3 < k ∨ (s.slot k).state = .free) :
    doQueuePeek q k s = refuse q .noSuch s := if_pos h

theorem doQueuePeek_peeked {q : Asker} {k : Nat} {s : State} (hk : k ≤ 3) (hf : (s.slot k).state ≠ .free) :
    doQueuePeek q k s =
      answer q .ok (.peeked (s.slot k).queue.head? (s.slot k).queue.length (s.slot k).drops) s :=
  if_neg (not_or.mpr ⟨Nat.not_lt.mpr hk, hf⟩)

/-! ## What joins the queue (R129) -/

theorem satSucc_eq_min {limit n : Nat} : satSucc limit n = min limit (n + 1) := by
  unfold satSucc
  split <;> omega

/-- A kind raised to the starter of a slot just written goes to the port the new slot record names. -/
theorem raiseStarter_setSlot {k : Nat} {x : Slot} {s : State} {p : Port} (hk : k < s.slots.length)
    (hp : x.starter = some p) (a : AlertKind) :
    raiseStarter k a (s.setSlot k x) = raiseTo p a k (s.setSlot k x) := by
  have written : (s.setSlot k x).slot k = x := by rw [slot_setSlot hk, if_pos rfl]
  simp only [raiseStarter, written, hp]

/-- A slot with entry `e` at the tail of its queue. -/
def Slot.withEntry (x : Slot) (e : CharEntry) : Slot := { x with queue := x.queue ++ [e] }

/-- A slot that has dropped one entry more, its full notice set. -/
def Slot.withDrop (x : Slot) : Slot := { x with drops := min 255 (x.drops + 1), fullNotice := true }

section
variable {k : Nat} {e : CharEntry} {s : State}

theorem queueEntry_joins_atLevel {p : Port} (hk : k < s.slots.length) (hp : (s.slot k).starter = some p)
    (room : (s.slot k).queue.length < 32) (hl : (s.slot k).level ≠ 0)
    (hc : (s.slot k).level = (s.slot k).queue.length + 1) :
    queueEntry k e s = raiseTo p .charqLevel k (s.setSlot k ((s.slot k).withEntry e)) := by
  rw [← raiseStarter_setSlot (x := (s.slot k).withEntry e) hk hp]
  simp only [queueEntry, if_pos room]
  exact if_pos ⟨hl, hc.symm⟩

theorem queueEntry_joins_offLevel (room : (s.slot k).queue.length < 32)
    (hc : (s.slot k).level = 0 ∨ (s.slot k).level ≠ (s.slot k).queue.length + 1) :
    queueEntry k e s = s.setSlot k ((s.slot k).withEntry e) := by
  simp only [queueEntry, if_pos room]
  exact if_neg fun ⟨hl, hn⟩ => hc.elim hl fun h => h hn.symm

theorem queueEntry_drops_first {p : Port} (hk : k < s.slots.length) (hp : (s.slot k).starter = some p)
    (full : 32 ≤ (s.slot k).queue.length) (hn : (s.slot k).fullNotice = false) :
    queueEntry k e s = raiseTo p .charqFull k (s.setSlot k (s.slot k).withDrop) := by
  rw [← raiseStarter_setSlot (x := (s.slot k).withDrop) hk hp]
  simp only [queueEntry, if_neg (Nat.not_lt.mpr full), hn, satSucc_eq_min]
  rfl

theorem queueEntry_drops_again (full : 32 ≤ (s.slot k).queue.length) (hn : (s.slot k).fullNotice = true) :
    queueEntry k e s = s.setSlot k (s.slot k).withDrop := by
  simp only [queueEntry, if_neg (Nat.not_lt.mpr full), hn, satSucc_eq_min]
  rfl

end

/-- Settles O30: each request goes through the slot check to its own case; an offered entry, by room in the queue and
by the threshold or the full notice. -/
theorem charQueueResult : Obligations.CharQueueResult := by
  refine ⟨fun p tag k n s hr => ?take, fun p tag k s hr => ?peek, fun k e s u p x hx hp hk => ?join⟩
  case take =>
    rw [exec_queueTake_ready hr]
    refine ⟨fun h3 hf ho hn => ?_, fun hf => ?_, fun h3 hf ho => ?_, fun h3 hf ho hn => ?_⟩
    · rw [doQueueTake_taken (slotCheck_passed h3 hf ho) hn]; rfl
    · rw [doQueueTake_refused (slotCheck_noSuch hf)]
    · rw [doQueueTake_refused (slotCheck_foreign h3 hf ho)]
    · rw [doQueueTake_outOfRange (slotCheck_passed h3 hf ho) hn]
  case peek =>
    rw [exec_queuePeek_ready hr]
    refine ⟨fun hf => ?_, fun h3 hf => ?_⟩
    · rw [doQueuePeek_noSuch hf]
    · rw [doQueuePeek_peeked h3 hf]
  case join =>
    subst hx
    refine ⟨fun room hu => ?room, fun full hu => ?full⟩ <;> subst hu
    case room => exact ⟨queueEntry_joins_atLevel hk hp room, queueEntry_joins_offLevel room⟩
    case full => exact ⟨fun _ => queueEntry_drops_first hk hp full, fun _ => queueEntry_drops_again full⟩

end Sys2Proof.Machine
end

section
/-! PROOFS. The live divider (R152): what SET_LIVE_DIVIDER does inside its range and outside it. -/

namespace Sys2Proof.Machine

theorem exec_setLiveDivider_ready {p : Port} {tag : Tag} {n : Nat} {s : State} (h : s.ready p (.setLiveDivider n)) :
    exec (.setLiveDivider p tag n) s = .next (doSetLiveDivider (asking p 25 tag) n s) :=
  congrArg Host.Outcome.next (receive_ready h)

theorem doSetLiveDivider_inRange {q : Asker} {n : Nat} {s : State} (low : 1 ≤ n) (high : n ≤ 8) :
    doSetLiveDivider q n s = answer q .ok .none
      { s with render := { s.render with divider := n, liveCount := min n s.render.liveCount } } :=
  if_pos ⟨low, high⟩

theorem doSetLiveDivider_outOfRange {q : Asker} {n : Nat} {s : State} (out : n = 0 ∨ 8 < n) :
    doSetLiveDivider q n s = refuse q .outOfRange s :=
  if_neg (by omega)

/-- Settles O35: the reset value, then a request taken, by whether its value lies in 1 to 8. -/
theorem setLiveDividerResult : Obligations.SetLiveDividerResult := by
  refine ⟨rfl, fun p tag n s ready => ?_⟩
  rw [exec_setLiveDivider_ready ready]
  refine ⟨fun low high => ?inRange, fun out => ?outOfRange⟩
  case inRange => rw [doSetLiveDivider_inRange low high]
  case outOfRange => rw [doSetLiveDivider_outOfRange out]

end Sys2Proof.Machine
end

section
/-! PROOFS. IDENTIFY, NOP and STATUS with selector PORT (R194): what each answers once its port receives it. -/

namespace Sys2Proof.Machine

/-- A port that receives requests serves every status query: R188 and R207 except them, and none needs the claim. -/
theorem ready_status {p : Port} {s : State} (h : s.receives p = true) (sel : StatusSel) : s.ready p (.status sel) :=
  ⟨h, rfl, rfl⟩

theorem exec_identify_ready {p : Port} {tag : Tag} {s : State} (h : s.ready p .identify) :
    exec (.identify p tag) s = .next (doIdentify (asking p 42 tag) s) :=
  congrArg Host.Outcome.next (receive_ready h)

theorem exec_nop_ready {p : Port} {tag : Tag} {s : State} (h : s.ready p .nop) :
    exec (.nop p tag) s = .next (doNop (asking p 43 tag) s) :=
  congrArg Host.Outcome.next (receive_ready h)

theorem exec_statusPort_received {p : Port} {tag : Tag} {s : State} (h : s.receives p = true) :
    exec (.statusPort p tag) s = .next (answer (asking p 44 tag) .ok (portStatus p s) s) :=
  congrArg Host.Outcome.next (receive_ready (ready_status h .port))

theorem portStatus_console (s : State) :
    portStatus .console s = .consolePort s.ports.claim s.ports.con.alerts.length
      (s.ports.con.stream.map fun x => (x.source, x.delivered)) s.ports.conReplies.length
      s.ports.conService.isSome := rfl

theorem portStatus_tether (s : State) :
    portStatus .tether s = .tetherPort s.ports.claim s.ports.teth.alerts.length
      (s.ports.teth.stream.map fun x => (x.source, x.delivered)) s.ports.link s.ports.remoteWake
      (s.ports.tethReplies.length + s.ports.tethService) := rfl

/-- Settles O38: IDENTIFY and NOP, taken, do what their rules say; STATUS, received, carries the status of its own
port. -/
theorem identifyNopPortStatus : Obligations.IdentifyNopPortStatus := by
  intro p tag s
  refine ⟨fun ready => ?identify, fun ready => ?nop, fun received isConsole => ?console,
    fun received isTether => ?tether⟩
  case identify => rw [exec_identify_ready ready, doIdentify]
  case nop => rw [exec_nop_ready ready, doNop]
  case console =>
    subst isConsole
    rw [exec_statusPort_received received, portStatus_console]
  case tether =>
    subst isTether
    rw [exec_statusPort_received received, portStatus_tether]

end Sys2Proof.Machine
end

section
/-! PROOFS. Record words (R213): the fields of the word of each kind of record, and the record a word gives back. -/

namespace Sys2Proof.Machine

/-! ## The fields of a word -/

theorem toNat_extractLsb'_eq_div_mod {w : Word} {lo len : Nat} :
    (w.extractLsb' lo len).toNat = w.toNat / 2 ^ lo % 2 ^ len := by
  rw [BitVec.extractLsb'_toNat, Nat.shiftRight_eq_div_pow]

theorem extractLsb'_eq_of_div_mod {w : Word} {lo len : Nat} {v : BitVec len}
    (h : w.toNat / 2 ^ lo % 2 ^ len = v.toNat) : w.extractLsb' lo len = v :=
  BitVec.eq_of_toNat_eq (toNat_extractLsb'_eq_div_mod.trans h)

theorem getLsbD_eq_decide_div_mod {w : Word} {i : Nat} : w.getLsbD i = decide (w.toNat / 2 ^ i % 2 = 1) :=
  Nat.testBit_eq_decide_div_mod_eq

theorem MarkKind.code_lt (sub : MarkKind) : sub.code < 4 := by cases sub <;> decide

/-- The subkind codes of R213. -/
theorem MarkKind.code_eq_of_mem {sub : MarkKind} {code : Nat}
    (h : (sub, code) ∈ [(MarkKind.lossBegin, 0), (.lossEnd, 1), (.podLost, 2), (.stop, 3)]) : sub.code = code := by
  cases sub <;> simpa [MarkKind.code, eq_comm] using h

theorem MarkKind.ofCode_code (sub : MarkKind) : MarkKind.ofCode sub.code = sub := by cases sub <;> rfl

/-! ## What a record's word is as a number, and the ranges of R17 -/

theorem Record.trans_inRange_iff {d : Nat} {st : Half} : (Record.trans d st).inRange = true ↔ 1 ≤ d ∧ d ≤ 16383 := by
  rw [Record.inRange, Bool.and_eq_true, decide_eq_true_iff, decide_eq_true_iff]; rfl

theorem Record.extend_inRange_iff {d : Nat} : (Record.extend d).inRange = true ↔ 1 ≤ d ∧ d ≤ 1073741823 := by
  rw [Record.inRange, Bool.and_eq_true, decide_eq_true_iff, decide_eq_true_iff]; rfl

theorem Record.mark_inRange_iff {d arg : Nat} {sub : MarkKind} :
    (Record.mark d sub arg).inRange = true ↔ d ≤ 16383 ∧ arg ≤ 4095 := by
  rw [Record.inRange, Bool.and_eq_true, decide_eq_true_iff, decide_eq_true_iff]; rfl

theorem Record.base_word_toNat (b : Bool) (st : Half) :
    (Record.base b st).word.toNat = b.toNat * 536870912 + st.toNat := by
  have := st.isLt
  cases b <;> simp [Record.word] <;> omega

theorem Record.trans_word_toNat {d : Nat} {st : Half} (h : (Record.trans d st).inRange = true) :
    (Record.trans d st).word.toNat = 1073741824 + d * 65536 + st.toNat := by
  obtain ⟨_, _⟩ := Record.trans_inRange_iff.mp h
  have := st.isLt
  simp only [Record.word, BitVec.toNat_ofNat]
  omega

theorem Record.extend_word_toNat {d : Nat} (h : (Record.extend d).inRange = true) :
    (Record.extend d).word.toNat = 2147483648 + d := by
  obtain ⟨_, _⟩ := Record.extend_inRange_iff.mp h
  simp only [Record.word, BitVec.toNat_ofNat]
  omega

theorem Record.mark_word_toNat {d arg : Nat} {sub : MarkKind} (h : (Record.mark d sub arg).inRange = true) :
    (Record.mark d sub arg).word.toNat = 3221225472 + d * 65536 + sub.code * 16384 + arg := by
  obtain ⟨_, _⟩ := Record.mark_inRange_iff.mp h
  have := sub.code_lt
  simp only [Record.word, BitVec.toNat_ofNat]
  omega

/-! ## The fields of each kind's word -/

theorem Record.base_word_fields (b : Bool) (st : Half) :
    (Record.base b st).word.extractLsb' 30 2 = 0 ∧ (Record.base b st).word.getLsbD 29 = b ∧
    (Record.base b st).word.extractLsb' 16 13 = 0 ∧ (Record.base b st).word.extractLsb' 0 16 = st := by
  have hw := Record.base_word_toNat b st
  have hst := st.isLt
  refine ⟨extractLsb'_eq_of_div_mod ?kind, ?lossOpen, extractLsb'_eq_of_div_mod ?reserved,
    extractLsb'_eq_of_div_mod ?state⟩
  case lossOpen =>
    rw [getLsbD_eq_decide_div_mod, hw]
    cases b <;> simp <;> omega
  all_goals rw [hw]; cases b <;> bv_omega

theorem Record.trans_word_fields {d : Nat} {st : Half} (h : (Record.trans d st).inRange = true) :
    (Record.trans d st).word.extractLsb' 30 2 = 1 ∧ ((Record.trans d st).word.extractLsb' 16 14).toNat = d ∧
    (Record.trans d st).word.extractLsb' 0 16 = st := by
  have hw := Record.trans_word_toNat h
  obtain ⟨_, _⟩ := Record.trans_inRange_iff.mp h
  have hst := st.isLt
  refine ⟨extractLsb'_eq_of_div_mod ?kind, toNat_extractLsb'_eq_div_mod.trans ?delta, extractLsb'_eq_of_div_mod ?state⟩
  all_goals rw [hw]; bv_omega

theorem Record.extend_word_fields {d : Nat} (h : (Record.extend d).inRange = true) :
    (Record.extend d).word.extractLsb' 30 2 = 2 ∧ ((Record.extend d).word.extractLsb' 0 30).toNat = d := by
  have hw := Record.extend_word_toNat h
  obtain ⟨_, _⟩ := Record.extend_inRange_iff.mp h
  refine ⟨extractLsb'_eq_of_div_mod ?kind, toNat_extractLsb'_eq_div_mod.trans ?delta⟩
  all_goals rw [hw]; bv_omega

theorem Record.mark_word_fields {d arg : Nat} {sub : MarkKind} (h : (Record.mark d sub arg).inRange = true) :
    (Record.mark d sub arg).word.extractLsb' 30 2 = 3 ∧ ((Record.mark d sub arg).word.extractLsb' 16 14).toNat = d ∧
    ((Record.mark d sub arg).word.extractLsb' 14 2).toNat = sub.code ∧
    (Record.mark d sub arg).word.extractLsb' 12 2 = 0 ∧ ((Record.mark d sub arg).word.extractLsb' 0 12).toNat = arg := by
  have hw := Record.mark_word_toNat h
  obtain ⟨_, _⟩ := Record.mark_inRange_iff.mp h
  have hs := sub.code_lt
  refine ⟨extractLsb'_eq_of_div_mod ?kind, toNat_extractLsb'_eq_div_mod.trans ?delta,
    toNat_extractLsb'_eq_div_mod.trans ?subkind, extractLsb'_eq_of_div_mod ?reserved,
    toNat_extractLsb'_eq_div_mod.trans ?argument⟩
  all_goals rw [hw]; bv_omega

/-! ## The record a word gives back -/

section
variable {w : Word}

theorem word_kind_eq_iff {k : BitVec 2} : w.extractLsb' 30 2 = k ↔ w.toNat / 1073741824 = k.toNat := by
  have hw := w.isLt
  rw [← BitVec.toNat_inj, toNat_extractLsb'_eq_div_mod]
  simp only [Nat.reducePow]
  omega

theorem word_state_eq : w.extractLsb' 0 16 = BitVec.ofNat 16 w.toNat :=
  extractLsb'_eq_of_div_mod (by simp)

theorem Record.ofWord_base (kind : w.extractLsb' 30 2 = 0) :
    Record.ofWord w = .base (w.getLsbD 29) (w.extractLsb' 0 16) := by
  rw [getLsbD_eq_decide_div_mod, word_state_eq]
  exact if_pos (word_kind_eq_iff.mp kind)

theorem Record.ofWord_trans (kind : w.extractLsb' 30 2 = 1) :
    Record.ofWord w = .trans (w.extractLsb' 16 14).toNat (w.extractLsb' 0 16) := by
  have code : w.toNat / 1073741824 = 1 := word_kind_eq_iff.mp kind
  simp [Record.ofWord, code, Nat.shiftRight_eq_div_pow, word_state_eq]

theorem Record.ofWord_extend (kind : w.extractLsb' 30 2 = 2) :
    Record.ofWord w = .extend (w.extractLsb' 0 30).toNat := by
  have code : w.toNat / 1073741824 = 2 := word_kind_eq_iff.mp kind
  simp [Record.ofWord, code]

theorem Record.ofWord_mark (kind : w.extractLsb' 30 2 = 3) :
    Record.ofWord w = .mark (w.extractLsb' 16 14).toNat (MarkKind.ofCode (w.extractLsb' 14 2).toNat)
      (w.extractLsb' 0 12).toNat := by
  have code : w.toNat / 1073741824 = 3 := word_kind_eq_iff.mp kind
  simp [Record.ofWord, code, Nat.shiftRight_eq_div_pow]

end

theorem Record.ofWord_word {r : Record} (h : r.inRange = true) : Record.ofWord r.word = r := by
  cases r with
  | base b st =>
    obtain ⟨kind, lossOpen, _, state⟩ := Record.base_word_fields b st
    rw [Record.ofWord_base kind, lossOpen, state]
  | trans d st =>
    obtain ⟨kind, delta, state⟩ := Record.trans_word_fields h
    rw [Record.ofWord_trans kind, delta, state]
  | extend d =>
    obtain ⟨kind, delta⟩ := Record.extend_word_fields h
    rw [Record.ofWord_extend kind, delta]
  | mark d sub arg =>
    obtain ⟨kind, delta, subkind, _, argument⟩ := Record.mark_word_fields h
    rw [Record.ofWord_mark kind, delta, subkind, argument, MarkKind.ofCode_code]

end Sys2Proof.Machine
end

section
/-! PROOFS. The gap arithmetic (R18): how the gap to a record is split into EXTENDs and the record's own delta. -/

namespace Sys2Proof.Machine

/-- R18: the deltas of the EXTENDs that gap `g` needs, and what is left for the record after them. -/
inductive SplitsGap : Nat → List Nat → Nat → Prop
  | fits {g : Nat} (h : g ≤ 16383) : SplitsGap g [] g
  | last {g : Nat} (long : 16383 < g) (h : g ≤ 1073741824) : SplitsGap g [g - 1] 1
  | full {g d : Nat} {es : List Nat} (h : 1073741824 < g) (rest : SplitsGap (g - 1073741823) es d) :
      SplitsGap g (1073741823 :: es) d

/-! ## The arithmetic splits every gap that its fuel reaches -/

theorem gapExtends_fits {fuel g : Nat} (h : g ≤ 16383) : gapExtends fuel g = ([], g) := by
  cases fuel with
  | zero => rfl
  | succ fuel => exact if_pos h

/-- A gap past the record's own range takes an EXTEND first, of all but 1 tick or of the full delta. -/
theorem gapExtends_long {fuel g : Nat} (long : 16383 < g) :
    gapExtends (fuel + 1) g = (.extend (min (g - 1) 1073741823) :: (gapExtends fuel (g - min (g - 1) 1073741823)).1,
      (gapExtends fuel (g - min (g - 1) 1073741823)).2) :=
  if_neg (Nat.not_le.mpr long)

/-- `fuel` EXTENDs reach every gap below `fuel` full deltas. -/
theorem gapExtends_splitsGap {fuel g : Nat} (reach : g ≤ 16383 ∨ g < fuel * 1073741823) :
    ∃ es, (gapExtends fuel g).1 = es.map Record.extend ∧ SplitsGap g es (gapExtends fuel g).2 := by
  induction fuel generalizing g with
  | zero =>
    have short : g ≤ 16383 := by omega
    exact ⟨[], rfl, .fits short⟩
  | succ fuel ih =>
    obtain short | long := (Nat.lt_or_ge 16383 g).symm
    · rw [gapExtends_fits short]
      exact ⟨[], rfl, .fits short⟩
    rw [gapExtends_long long]
    obtain near | far := (Nat.lt_or_ge 1073741824 g).symm
    · have extend : min (g - 1) 1073741823 = g - 1 := by omega
      have left : g - (g - 1) = 1 := by omega
      rw [extend, left, gapExtends_fits (by decide)]
      exact ⟨[g - 1], rfl, .last long near⟩
    · have extend : min (g - 1) 1073741823 = 1073741823 := by omega
      have reach' : g - 1073741823 < fuel * 1073741823 := by omega
      obtain ⟨es, deltas, rest⟩ := ih (.inr reach')
      rw [extend, deltas]
      exact ⟨1073741823 :: es, rfl, .full far rest⟩

/-- The records of an event are those of a split of its gap. -/
theorem placeRecord_splitsGap (g : Nat) (mk : Nat → Record) :
    ∃ es d, placeRecord g mk = es.map Record.extend ++ [mk d] ∧ SplitsGap g es d := by
  have reach : g < (g / Config.maxExtend + 2) * 1073741823 := by
    simp only [Config.maxExtend]
    omega
  obtain ⟨es, deltas, split⟩ := gapExtends_splitsGap (.inr reach)
  exact ⟨es, _, by rw [placeRecord, deltas], split⟩

/-! ## What a split carries -/

namespace SplitsGap

variable {g d : Nat} {es : List Nat}

theorem sum_add (h : SplitsGap g es d) : es.sum + d = g := by
  induction h with
  | fits => simp
  | last => simp; omega
  | full _ _ ih => simp; omega

theorem delta_le (h : SplitsGap g es d) : d ≤ 16383 := by
  induction h with
  | fits short => exact short
  | last => decide
  | full _ _ ih => exact ih

theorem delta_pos (h : SplitsGap g es d) (pos : 1 ≤ g) : 1 ≤ d := by
  induction h with
  | fits => exact pos
  | last => exact Nat.le_refl 1
  | full far _ ih => exact ih (by omega)

theorem eq_nil (h : SplitsGap g es d) (short : g ≤ 16383) : es = [] := by
  cases h with
  | fits => rfl
  | last | full => omega

theorem extend_inRange (h : SplitsGap g es d) : ∀ e ∈ es, 1 ≤ e ∧ e ≤ 1073741823 := by
  induction h with
  | fits => simp
  | last => simp; omega
  | full _ _ ih => simpa using ih

/-- Only the last EXTEND of a split may be short of the full delta. -/
theorem full_of_mem_dropLast (h : SplitsGap g es d) : ∀ e ∈ es.dropLast, e = 1073741823 := by
  induction h with
  | fits | last => simp
  | @full _ _ es _ _ ih =>
    cases es with
    | nil => simp
    | cons e es => simpa using ih

/-- A last EXTEND that is short of the full delta leaves the record 1 tick. -/
theorem getLast?_full_or (h : SplitsGap g es d) : ∀ e, es.getLast? = some e → e = 1073741823 ∨ d = 1 := by
  induction h with
  | fits => simp
  | last => exact fun _ _ => .inr rfl
  | @full _ _ es _ _ ih =>
    cases es with
    | nil => simp
    | cons e es => simpa using ih

end SplitsGap

/-- Settles O9: each kind's word by its fields, which `Record.ofWord` reads back; each gap by the split that the gap
arithmetic makes of it. -/
theorem recordWordLayout : Obligations.RecordWordLayout := by
  refine ⟨fun r => Record.ofWord_word, Record.base_word_fields, fun d st => Record.trans_word_fields,
    fun d => Record.extend_word_fields, ?mark, fun _ _ => rfl, rfl, ?split, fun mk => ⟨rfl, rfl, rfl, rfl, rfl⟩⟩
  case mark =>
    intro d sub arg code ranges hcode
    obtain rfl : sub.code = code := MarkKind.code_eq_of_mem hcode
    exact Record.mark_word_fields ranges
  case split =>
    intro g mk
    obtain ⟨es, d, placed, split⟩ := placeRecord_splitsGap g mk
    exact ⟨es, d, placed, split.sum_add, split.delta_le, split.delta_pos, split.eq_nil, split.extend_inRange,
      split.full_of_mem_dropLast, split.getLast?_full_or⟩

end Sys2Proof.Machine
end

section
/-! PROOFS. What the steps keep, part 1: the relation `Keeps` between a state and one reached from it, what claims and
alert sets need for it, and the operations of the blocks that cannot touch what the invariants speak of. -/

namespace Sys2Proof.Machine

/-! ## Alert sets (R200) -/

theorem recordAlert_kind {k : AlertKind} {arg : Nat} {l : List Alert} {x : Alert} (h : x ∈ recordAlert k arg l) :
    x.kind = k ∨ x ∈ l := by
  induction l with
  | nil => simp_all [recordAlert]
  | cons b l ih =>
    unfold recordAlert at h
    split at h
    · rcases List.mem_cons.mp h with rfl | h <;> simp [*]
    · split at h
      · rcases List.mem_cons.mp h with rfl | h <;> simp [*]
      · rcases List.mem_cons.mp h with rfl | h
        · simp
        · rcases ih h with e | h <;> simp [*]

theorem recordAlert_count {k : AlertKind} {arg : Nat} {l : List Alert} (h : ∀ x ∈ l, 1 ≤ x.count ∧ x.count ≤ 255) :
    ∀ x ∈ recordAlert k arg l, 1 ≤ x.count ∧ x.count ≤ 255 := by
  induction l with
  | nil => simp [recordAlert]
  | cons b l ih =>
    have hb := h b (by simp)
    have hl : ∀ x ∈ l, 1 ≤ x.count ∧ x.count ≤ 255 := fun x hx => h x (List.mem_cons_of_mem _ hx)
    unfold recordAlert
    split
    · refine List.forall_mem_cons.mpr ⟨?_, hl⟩
      simp only [satSucc]
      split <;> omega
    · split
      · exact List.forall_mem_cons.mpr ⟨by simp, h⟩
      · exact List.forall_mem_cons.mpr ⟨hb, ih hl⟩

/-- Kinds at the same place are the same. -/
theorem AlertKind.eq_of_place {j k : AlertKind} (h : j.place = k.place) : j = k := by
  cases j <;> cases k <;> cases h <;> rfl

theorem recordAlert_pairwise {k : AlertKind} {arg : Nat} {l : List Alert}
    (h : l.Pairwise fun a b => a.kind.place < b.kind.place) :
    (recordAlert k arg l).Pairwise fun a b => a.kind.place < b.kind.place := by
  induction l with
  | nil => simp [recordAlert]
  | cons b l ih =>
    obtain ⟨hb, hl⟩ := List.pairwise_cons.mp h
    unfold recordAlert
    split
    · rename_i e
      exact List.pairwise_cons.mpr ⟨fun x hx => e ▸ hb x hx, hl⟩
    · rename_i ne
      split
      · rename_i lt
        have lt : k.place < b.kind.place := by simpa [AlertKind.before] using lt
        refine List.pairwise_cons.mpr ⟨List.forall_mem_cons.mpr ⟨lt, fun x hx => Nat.lt_trans lt (hb x hx)⟩, h⟩
      · rename_i ge
        have ge : b.kind.place ≤ k.place := by simpa [AlertKind.before] using ge
        have lt : b.kind.place < k.place := Nat.lt_of_le_of_ne ge fun e => ne (AlertKind.eq_of_place e)
        refine List.pairwise_cons.mpr ⟨fun x hx => ?_, ih hl⟩
        rcases recordAlert_kind hx with e | hx
        · exact e ▸ lt
        · exact hb x hx

theorem PortState.raised_alertsOk {q : PortState} (k : AlertKind) (arg : Nat) (h : q.alertsOk) :
    (q.raised k arg).alertsOk := by
  unfold PortState.raised
  split
  · exact h
  · exact ⟨recordAlert_pairwise h.1, recordAlert_count h.2⟩

/-- A set from which kinds are taken keeps its order. -/
theorem PortState.alertsOk_of_sublist {q r : PortState} (h : q.alertsOk) (e : r.alerts.Sublist q.alerts) : r.alertsOk :=
  ⟨h.1.sublist e, fun x hx => h.2 x (e.subset hx)⟩

/-- No alert waits after a reset. -/
theorem PortState.reset_alertsOk : PortState.reset.alertsOk := ⟨List.Pairwise.nil, fun _ h => absurd h List.not_mem_nil⟩

/-! ## The claim (R195) -/

theorem State.claimOk.claim_ne {s : State} (h : s.claimOk) (hs : s.seq.acq.sampling = true) : s.ports.claim ≠ none :=
  h.1 (.inl hs)

theorem State.claimOk.stopTick_eq {s : State} (h : s.claimOk) (hs : s.seq.acq ≠ .draining) : s.seq.stopTick = none :=
  Classical.byContradiction fun e => hs (h.2 e)

theorem State.claimOk_of_held {s : State} (hc : s.ports.claim ≠ none)
    (hs : s.seq.stopTick = none ∨ s.seq.acq = .draining) :
    s.claimOk :=
  ⟨fun _ => hc, fun e => hs.resolve_left e⟩

theorem State.claimOk_of_idle {s : State} (hs : s.seq.acq = .idle) (ht : s.seq.stopTick = none) : s.claimOk := by
  simp [State.claimOk, hs, ht, AcqState.sampling]

theorem State.claimOk_of_ended {s : State} (hs : s.seq.acq = .draining) (he : s.seq.seqEnd = true) : s.claimOk := by
  simp [State.claimOk, hs, he, AcqState.sampling]

/-! ## The relation -/

/-- State `t`, reached from `a`, keeps the commands that wait and each invariant that held of `a`. -/
structure Keeps (a t : State) : Prop where
  pending : t.pending = a.pending
  mem : a.memOk → t.memOk
  debt : a.debtOk → t.debtOk
  claim : a.claimOk → t.claimOk
  con : a.ports.con.alertsOk → t.ports.con.alertsOk
  teth : a.ports.teth.alertsOk → t.ports.teth.alertsOk

/-- All of a state that the invariants speak of. -/
def State.judged (s : State) :
    List Instr × Memory × Nat × (AcqState × Bool × Option Nat) × Option Port × List Alert × List Alert :=
  (s.pending, s.store.mem, s.mc.debt, (s.seq.acq, s.seq.seqEnd, s.seq.stopTick), s.ports.claim, s.ports.con.alerts,
    s.ports.teth.alerts)

namespace Keeps

theorem refl (a : State) : Keeps a a := ⟨rfl, id, id, id, id, id⟩

section
variable {a s t : State}

/-- A state that agrees with `s` on all the invariants speak of. -/
theorem same (h : Keeps a s) (e : t.judged = s.judged) : Keeps a t := by
  simp only [State.judged, Prod.mk.injEq] at e
  obtain ⟨hp, hm, hd, ⟨hq, he, ht⟩, hl, hc, hx⟩ := e
  exact {
    pending := hp.trans h.pending
    mem := by simpa [State.memOk, hm] using h.mem
    debt := by simpa [State.debtOk, hd] using h.debt
    claim := by simpa [State.claimOk, hq, he, ht, hl] using h.claim
    con := by simpa [PortState.alertsOk, hc] using h.con
    teth := by simpa [PortState.alertsOk, hx] using h.teth }

theorem ite {c : Prop} [Decidable c] {x y : State} (hx : c → Keeps a x) (hy : ¬c → Keeps a y) :
    Keeps a (if c then x else y) := by
  split
  · exact hx ‹_›
  · exact hy ‹_›

/-! ## Alerts and replies -/

theorem raiseConsole {k : AlertKind} {arg : Nat} (h : Keeps a s) : Keeps a (raiseConsole k arg s) where
  pending := h.pending
  mem := h.mem
  debt := h.debt
  claim := h.claim
  con := fun hq => PortState.raised_alertsOk k arg (h.con hq)
  teth := h.teth

theorem raiseTether {k : AlertKind} {arg : Nat} (h : Keeps a s) : Keeps a (raiseTether k arg s) where
  pending := h.pending
  mem := h.mem
  debt := h.debt
  claim := h.claim
  con := h.con
  teth := fun hq => PortState.raised_alertsOk k arg (h.teth hq)

theorem raiseTo {p : Port} {k : AlertKind} {arg : Nat} (h : Keeps a s) : Keeps a (raiseTo p k arg s) := by
  cases p
  · exact h.raiseConsole
  · exact h.raiseTether

theorem raiseBoth {k : AlertKind} {arg : Nat} (h : Keeps a s) : Keeps a (raiseBoth k arg s) :=
    h.raiseConsole.raiseTether

theorem raiseStarter {slot : Nat} {k : AlertKind} (h : Keeps a s) : Keeps a (raiseStarter slot k s) := by
  unfold Machine.raiseStarter
  split
  · exact h.raiseTo
  · exact h

theorem answer {q : Asker} {st : Status} {b : ReplyBody} (h : Keeps a s) : Keeps a (answer q st b s) :=
  h.same (by simp [State.judged])

theorem refuse {q : Asker} {st : Status} (h : Keeps a s) : Keeps a (refuse q st s) := h.answer

theorem pushReply {p : Port} {r : Reply} (h : Keeps a s) : Keeps a (pushReply p r s) := by
  cases p <;> exact h.same rfl

theorem defer {q : Asker} (h : Keeps a s) : Keeps a (defer q s) := h.same (by simp [State.judged])

theorem answerDeferred {q : Asker} {st : Status} {b : ReplyBody} {last : Bool} (h : Keeps a s) :
    Keeps a (answerDeferred q st b last s) :=
  h.same (by simp [State.judged])

theorem setStream {p : Port} {x : Option Stream} (h : Keeps a s) : Keeps a (setStream p x s) := by
  cases p <;> exact h.same rfl

theorem pumpTether (h : Keeps a s) : Keeps a (pumpTether s) := h.same (by simp [State.judged])

/-! ## The capture store -/

theorem setSeg {n : Nat} {e : Segment} (h : Keeps a s) : Keeps a (s.setSeg n e) := h.same rfl

theorem setSlot {n : Nat} {x : Slot} (h : Keeps a s) : Keeps a (s.setSlot n x) := h.same rfl

theorem addPin {n : Nat} {f : Pins → Pins} (h : Keeps a s) : Keeps a (addPin n f s) := h.same (by simp [State.judged])

theorem withdraw {q : Requester} {k : Nat} (h : Keeps a s) : Keeps a (withdraw q k s) := h.same (by simp [State.judged])

theorem storeLowTest (h : Keeps a s) : Keeps a (storeLowTest s) := by
  unfold Machine.storeLowTest
  exact .ite (fun _ => .ite (fun _ => .raiseBoth (h.same rfl)) fun _ => h) fun _ =>
    .ite (fun _ => h.same rfl) fun _ => h

theorem purgeSegment {n : Nat} (h : Keeps a s) : Keeps a (purgeSegment n s) := h.same (by simp [State.judged])

theorem purgeSlot {k : Nat} (h : Keeps a s) : Keeps a (purgeSlot k s) := h.same (by simp [State.judged])

theorem forgetSegment {n : Nat} (h : Keeps a s) : Keeps a (forgetSegment n s) := h.same (by simp [State.judged])

theorem freeSegment {n : Nat} (h : Keeps a s) : Keeps a (freeSegment n s) :=
  .storeLowTest (.raiseBoth (.forgetSegment (.purgeSegment (h.same rfl))))

theorem dropPin {n : Nat} {f : Pins → Pins} (h : Keeps a s) : Keeps a (dropPin n f s) :=
  .ite (fun _ => .freeSegment h.setSeg) fun _ => h.setSeg

theorem reclaimForArm {n : Nat} (h : Keeps a s) : Keeps a (reclaimForArm n s) := by
  induction n generalizing s with
  | zero => exact h
  | succ n ih =>
    unfold Machine.reclaimForArm
    refine .ite (fun _ => h) fun _ => ?_
    split
    · exact ih h.freeSegment
    · exact h

theorem trimSegment {n : Nat} (h : Keeps a s) : Keeps a (trimSegment n s) := h.same (by simp [State.judged])

theorem takeBlock {n base : Nat} (h : Keeps a s) : Keeps a (takeBlock n base s).1 := h.same (by simp [State.judged])

theorem requestBlock {n base : Nat} (h : Keeps a s) : Keeps a (requestBlock n base s).1 :=
  .storeLowTest (.takeBlock (.ite (fun _ => h.trimSegment) fun _ => h))

/-! ## The capture path -/

theorem noteLoss (h : Keeps a s) : Keeps a (noteLoss s) := by
  unfold Machine.noteLoss
  split
  · exact h.setSeg.raiseBoth
  · exact h

theorem stageTick {t : Nat} {st : Half} {pods : List Nat} (h : Keeps a s) : Keeps a (stageTick t st pods s) :=
  .ite (fun _ => .noteLoss (h.same rfl)) fun _ => h.same rfl

theorem closeLossNow (h : Keeps a s) : Keeps a (closeLossNow s) :=
  .ite (fun _ => .noteLoss (h.same rfl)) fun _ => h

theorem closeHeldEnd (h : Keeps a s) : Keeps a (closeHeldEnd s) := by
  unfold Machine.closeHeldEnd
  split
  · exact .ite (fun _ => .noteLoss (h.same rfl)) fun _ => h
  · exact h

theorem tapTick {t : Nat} {st was : Half} {pods : List Nat} (h : Keeps a s) : Keeps a (tapTick t st was pods s) :=
  h.same (by simp [State.judged])

theorem closeTapGap {t : Nat} {st : Half} {pods : List Nat} (h : Keeps a s) : Keeps a (closeTapGap t st pods s) :=
  h.same (by simp [State.judged])

theorem endTap {t : Nat} {reason : SealReason} (h : Keeps a s) : Keeps a (endTap t reason s) :=
  h.same (by simp [State.judged])

theorem leaveTap {k : Nat} (h : Keeps a s) : Keeps a (leaveTap k s) := h.same (by simp [State.judged])

theorem closeIdleGap (h : Keeps a s) : Keeps a (closeIdleGap s) := h.same (by simp [State.judged])

theorem returnSlots (h : Keeps a s) : Keeps a (returnSlots s) := h.same (by simp [State.judged])

theorem extendStaging (h : Keeps a s) : Keeps a (extendStaging s) := h.same (by simp [State.judged])

theorem extendTap (h : Keeps a s) : Keeps a (extendTap s) := h.same (by simp [State.judged])

theorem startStream {n b t : Nat} (h : Keeps a s) : Keeps a (startStream n b t s) := h.same (by simp [State.judged])

theorem sealEntry {n t : Nat} {reason : SealReason} (h : Keeps a s) : Keeps a (sealEntry n t reason s) := h.same rfl

/-- A writer BASE goes into the SDRAM with the canonical form kept. -/
theorem writeMem {m : Memory} (h : Keeps a s) (hm : s.memOk → m.wf = true)
    (e : t.judged = { s with store := { s.store with mem := m } }.judged) : Keeps a t :=
  have written : Keeps a { s with store := { s.store with mem := m } } :=
    ⟨h.pending, fun ha => hm (h.mem ha), h.debt, h.claim, h.con, h.teth⟩
  written.same e

theorem serveWriter (h : Keeps a s) : Keeps a (serveWriter s) := by
  unfold Machine.serveWriter
  split
  · exact h
  · refine .ite (fun _ => h) fun _ => ?_
    dsimp only
    split
    · exact h.requestBlock
    · exact h.requestBlock.writeMem (writeWord_wf _ _ _) rfl

end
end Keeps
end Sys2Proof.Machine
end

section
/-! PROOFS. What the steps keep, part 2: stops, stages, the trigger, arms and the seal, each with what it needs of the
claim; then the decoder slots, the measurement engine, the streams. -/

namespace Sys2Proof.Machine.Keeps

section
variable {a s t : State}

/-! ## Facts about the claim at hand -/

theorem claim_ne (h : Keeps a s) (hs : s.seq.acq.sampling = true) (ha : a.claimOk) : s.ports.claim ≠ none :=
  (h.claim ha).claim_ne hs

/-- A hunting sequencer is under a claim, with no stop tick. -/
theorem hunting {k : Nat} (h : Keeps a s) (hs : s.seq.acq = .hunting k) (ha : a.claimOk) :
    s.ports.claim ≠ none ∧ s.seq.stopTick = none :=
  ⟨h.claim_ne (by rw [hs]; rfl) ha, (h.claim ha).stopTick_eq (by simp [hs])⟩

/-- A change of the sequencer that its claim allows. -/
theorem setSeq {q : Sequencer} (h : Keeps a s) (hq : a.claimOk → { s with seq := q }.claimOk) :
    Keeps a { s with seq := q } :=
  ⟨h.pending, h.mem, h.debt, hq, h.con, h.teth⟩

theorem setSeqEnd (h : Keeps a s) : Keeps a { s with seq := { s.seq with seqEnd := true } } :=
  h.setSeq fun ha => by
    obtain ⟨held, stop⟩ := h.claim ha
    exact ⟨fun e => held (e.imp_right fun e => absurd e.2 (by simp)), stop⟩

/-! ## Stops -/

theorem stopSegment {n : Nat} {reason : SealReason} (h : Keeps a s)
    (hc : a.claimOk → s.ports.claim ≠ none ∨ s.seq.seqEnd = true) : Keeps a (stopSegment n reason s) := by
  have drained : Keeps a { Machine.endTap n reason s with seq := { (Machine.endTap n reason s).seq with
      acq := .draining, stopTick := some n, reason := some reason } } := h.endTap.setSeq fun ha => ?_
  · unfold Machine.stopSegment
    exact .closeHeldEnd (drained.same rfl)
  rcases hc ha with hc | he
  · exact State.claimOk_of_held (by simpa using hc) (.inr rfl)
  · exact State.claimOk_of_ended rfl (by simpa using he)

theorem stopCondition {n : Nat} {reason : SealReason} (h : Keeps a s) : Keeps a (stopCondition n reason s) :=
  .ite (fun _ => h) fun _ => .ite (fun _ => h.setSeqEnd.stopSegment fun _ => .inr rfl) fun _ => h.setSeqEnd

theorem stopNow {reason : SealReason} (h : Keeps a s) : Keeps a (stopNow reason s) := h.stopCondition

theorem postfillTest (h : Keeps a s) : Keeps a (postfillTest s) := by
  unfold Machine.postfillTest
  split
  · rename_i hs _
    exact .ite (fun _ => h.stopSegment fun ha => .inl (h.claim_ne (by rw [hs]; rfl) ha)) fun _ => h
  · exact h

theorem reserveTest {b : Bool} (h : Keeps a s) : Keeps a (reserveTest b s) := by
  unfold Machine.reserveTest
  split
  · exact h
  · refine .ite (fun _ => h) fun _ => ?_
    split
    · exact h.freeSegment
    · exact .ite (fun _ => h.trimSegment.storeLowTest) fun _ => h.stopNow

/-- At the trigger the reserve test leaves the sequencer alone. -/
theorem reserveTest_seq (s : State) : (Machine.reserveTest true s).seq = s.seq := by
  unfold Machine.reserveTest
  split
  · rfl
  · split
    · rfl
    · split <;> simp

theorem takeTrigger {n : Nat} {forced : Bool} (h : Keeps a s)
    (hc : a.claimOk → s.ports.claim ≠ none ∧ s.seq.stopTick = none) : Keeps a (takeTrigger n forced s) := by
  unfold Machine.takeTrigger
  dsimp only
  split
  · exact h.reserveTest
  · refine .postfillTest (h.reserveTest.setSeg.raiseBoth.setSeq fun ha => ?_)
    obtain ⟨held, stop⟩ := hc ha
    exact State.claimOk_of_held (by simpa using held) (.inl (by simpa [reserveTest_seq] using stop))

/-! ## Stages -/

theorem enterStage {k e : Nat} (h : Keeps a s) (hc : a.claimOk → s.ports.claim ≠ none ∧ s.seq.stopTick = none) :
    Keeps a (enterStage k e s) :=
  h.setSeq fun ha => State.claimOk_of_held (hc ha).1 (.inl (hc ha).2)

theorem actOn {g : Target} {e n : Nat} (h : Keeps a s)
    (hc : a.claimOk → s.ports.claim ≠ none ∧ s.seq.stopTick = none) : Keeps a (actOn g e n s) := by
  cases g
  · exact h.enterStage hc
  · exact h.takeTrigger hc

theorem stageMatch {k e n : Nat} (h : Keeps a s) (hc : a.claimOk → s.ports.claim ≠ none ∧ s.seq.stopTick = none) :
    Keeps a (stageMatch k e n s) :=
  .ite (fun _ => h.actOn hc) fun _ => h.same rfl

theorem evaluatePattern {n : Nat} {st : Half} (h : Keeps a s) : Keeps a (evaluatePattern n st s) := by
  unfold Machine.evaluatePattern
  split
  · rename_i hs
    split
    · exact .ite (fun _ => .stageMatch (h.same rfl) (h.hunting hs)) fun _ => h.same rfl
    · exact h.same rfl
  · exact h

theorem offerNote {k n kind stop value : Nat} (h : Keeps a s) : Keeps a (offerNote k n kind stop value s) := by
  unfold Machine.offerNote
  split
  · rename_i hs
    split
    · exact .ite (fun _ => h.stageMatch (h.hunting hs)) fun _ => h
    · exact h
  · exact h

theorem endPriming (h : Keeps a s) : Keeps a (endPriming s) :=
  .ite (fun e => h.enterStage fun ha =>
    ⟨h.claim_ne (by rw [e.1]; rfl) ha, (h.claim ha).stopTick_eq (by simp [e.1])⟩) fun _ => h

theorem timeoutStage (h : Keeps a s) : Keeps a (timeoutStage s) := by
  unfold Machine.timeoutStage
  split
  · rename_i hs _
    exact .ite (fun _ => h.actOn (h.hunting hs)) fun _ => h
  · exact h

theorem timeLimitTest (h : Keeps a s) : Keeps a (timeLimitTest s) :=
  .ite (fun _ => .stopCondition (h.same rfl)) fun _ => h

theorem settle (h : Keeps a s) : Keeps a (settle s) := h.extendStaging.extendTap.endPriming.timeoutStage.postfillTest

/-! ## Arms and the seal -/

theorem armSegment {p : Option Port} {i n : Nat} (h : Keeps a s) (hc : a.claimOk → s.ports.claim ≠ none) :
    Keeps a (armSegment p i n s) := by
  unfold Machine.armSegment
  split
  · refine .startStream (setSeq (.storeLowTest (h.same rfl)) fun ha => ?_)
    exact State.claimOk_of_held (by simpa using hc ha) (.inl rfl)
  · exact h

theorem endSequence (h : Keeps a s) (hc : a.claimOk → s.seq.stopTick = none) : Keeps a (endSequence s) :=
  .returnSlots (.closeIdleGap (h.setSeq fun ha => State.claimOk_of_idle rfl (hc ha)))

theorem rearm (h : Keeps a s) (hc : a.claimOk → s.ports.claim ≠ none) (ht : a.claimOk → s.seq.stopTick = none) :
    Keeps a (rearm s) := by
  unfold Machine.rearm
  refine .ite (fun _ => ?_) fun _ => (h.endSequence ht).raiseBoth
  refine .armSegment (.ite (fun _ => h.reclaimForArm) fun _ => h) fun ha => ?_
  split
  · simpa using hc ha
  · exact hc ha

theorem sealSegment (h : Keeps a s) : Keeps a (sealSegment s) := by
  unfold Machine.sealSegment
  split
  · rename_i n stop reason _ hstop _
    have draining : a.claimOk → s.seq.acq = .draining := fun ha => (h.claim ha).2 (by simp [hstop])
    have sealed : Keeps a (Machine.raiseBoth .sealed n
        (Machine.sealEntry n stop reason { s with writer := { s.writer with seg := none, group := [] } })) :=
      .raiseBoth (.sealEntry (h.same rfl))
    have cleared := sealed.setSeq (q := { s.seq with stopTick := none, reason := none }) fun ha => by
      obtain ⟨held, -⟩ := h.claim ha
      exact ⟨fun e => by simpa [Machine.sealEntry] using held e, fun e => absurd rfl e⟩
    have seq : (Machine.raiseBoth .sealed n (Machine.sealEntry n stop reason
        { s with writer := { s.writer with seg := none, group := [] } })).seq = s.seq := rfl
    dsimp only
    refine .ite (fun e => ?_) fun _ => cleared.endSequence fun _ => rfl
    refine cleared.rearm (fun ha => ?_) fun _ => rfl
    have held : s.ports.claim ≠ none := (h.claim ha).1 (.inr ⟨draining ha, e.2.1⟩)
    simpa [Machine.sealEntry] using held
  · exact h

/-! ## Decoder slots -/

theorem finishOffline {k : Nat} {st : SlotState} (h : Keeps a s) : Keeps a (finishOffline k st s) := by
  unfold Machine.finishOffline
  exact .dropPin (.withdraw h.setSlot)

theorem stopLive {k : Nat} {cause : StopCause} (h : Keeps a s) : Keeps a (stopLive k cause s) := h.setSlot.leaveTap

theorem stopSlot {k : Nat} {cause : StopCause} (h : Keeps a s) : Keeps a (stopSlot k cause s) :=
  .ite (fun _ => h.stopLive) fun _ => .ite (fun _ => h.setSlot.finishOffline) fun _ =>
    .ite (fun _ => h.setSlot) fun _ => h

theorem freeSlot {k : Nat} (h : Keeps a s) : Keeps a (freeSlot k s) := h.stopSlot.setSlot.purgeSlot

theorem queueEntry {k : Nat} {e : CharEntry} (h : Keeps a s) : Keeps a (queueEntry k e s) :=
  .ite (fun _ => .ite (fun _ => h.setSlot.raiseStarter) fun _ => h.setSlot) fun _ =>
    .ite (fun _ => h.setSlot) fun _ => h.setSlot.raiseStarter

theorem feedQueue {k : Nat} {f : Formed} (h : Keeps a s) : Keeps a (feedQueue k f s) := by
  unfold Machine.feedQueue
  split
  · exact h.queueEntry
  · exact h

theorem appendNote {k : Nat} {e : Note} (h : Keeps a s) : Keeps a (appendNote k e s) := h.same (by simp [State.judged])

theorem ringNote {k : Nat} {e : Note} (h : Keeps a s) : Keeps a (ringNote k e s) := h.same (by simp [State.judged])

theorem handOffline {k n : Nat} {f : Formed} (h : Keeps a s) : Keeps a (handOffline k n f s) :=
  .ite (fun _ => h.appendNote.feedQueue) fun _ => h.setSlot.finishOffline.raiseStarter

theorem handLive {k : Nat} {f : Formed} (h : Keeps a s) : Keeps a (handLive k f s) := by
  unfold Machine.handLive
  dsimp only
  split
  · exact h.feedQueue
  · exact .feedQueue (.ite (fun _ => h.offerNote.appendNote) fun _ => h.offerNote.ringNote)

theorem handOn {k : Nat} {f : Formed} (h : Keeps a s) : Keeps a (handOn k f s) :=
  .ite (fun _ => h.handLive) fun _ => .ite (fun _ => h.handOffline) fun _ => h

theorem handAll {k : Nat} {fs : List Formed} (h : Keeps a s) : Keeps a (handAll k fs s) := by
  induction fs generalizing s with
  | nil => exact h
  | cons f fs ih => exact ih h.handOn

theorem setWalk {k : Nat} {w : Walk} (h : Keeps a s) : Keeps a (setWalk k w s) := h.setSlot

theorem takeSamples {k n : Nat} (h : Keeps a s) : Keeps a (takeSamples k n s) := by
  unfold Machine.takeSamples
  dsimp only
  split
  · exact .ite (fun _ => h.setWalk.handAll) fun _ => h
  · exact h

theorem samplesBefore {k n : Nat} (h : Keeps a s) : Keeps a (samplesBefore k n s) :=
  .ite (fun _ => h) fun _ => h.takeSamples

theorem applyEdge {k n : Nat} {st : Half} (h : Keeps a s) : Keeps a (applyEdge k n st s) := by
  unfold Machine.applyEdge
  dsimp only
  split
  · exact .ite (fun _ => h.setWalk.handAll) fun _ => h.setWalk
  · exact h.setWalk

theorem beginAt {k lo n : Nat} (h : Keeps a s) : Keeps a (beginAt k lo n s) := .ite (fun _ => h.setWalk) fun _ => h

theorem applyOffline {k lo hi n : Nat} {r : Record} (h : Keeps a s) : Keeps a (applyOffline k lo hi n r s) := by
  unfold Machine.applyOffline
  dsimp only
  split
  · exact .ite (fun _ => h.setWalk) fun _ => h.setWalk.beginAt
  · exact h.setWalk
  · exact h.applyEdge
  · exact h
  · exact h.setWalk
  · exact h.handAll
  · exact h
  · exact h

theorem knowThrough {k n : Nat} (h : Keeps a s) : Keeps a (knowThrough k n s) := .ite (fun _ => h.setWalk) fun _ => h

theorem offlineDone {k : Nat} (h : Keeps a s) : Keeps a (offlineDone k s) :=
  .ite (fun _ => h.finishOffline.raiseStarter) fun _ => h

theorem offlineRecord {k lo hi : Nat} {r : Record} (h : Keeps a s) : Keeps a (offlineRecord k lo hi r s) := by
  unfold Machine.offlineRecord
  refine .ite (fun _ => ?_) fun _ => h
  have begun : Keeps a (if r.isBase then s.setSlot k ((s.slot k).reach ((s.slot k).reached + r.delta))
      else Machine.beginAt k lo ((s.slot k).reached + r.delta)
        (s.setSlot k ((s.slot k).reach ((s.slot k).reached + r.delta)))) :=
    .ite (fun _ => h.setSlot) fun _ => h.setSlot.beginAt
  have ready := begun.samplesBefore (k := k) (n := min ((s.slot k).reached + r.delta) (hi + 1))
  exact .ite (fun _ => ready.offlineDone) fun _ => .ite
    (fun _ => .offlineDone (.ite (fun _ => ready.applyOffline) fun _ => ready)) fun _ => ready.applyOffline.knowThrough

theorem offlineRecords {k lo hi : Nat} {rs : List Record} (h : Keeps a s) : Keeps a (offlineRecords k lo hi rs s) := by
  induction rs generalizing s with
  | nil => exact h
  | cons r rs ih => exact ih h.offlineRecord

theorem liveGap {k n : Nat} (h : Keeps a s) : Keeps a (liveGap k n s) := by
  unfold Machine.liveGap
  split
  · exact h.handAll
  · exact .handAll (h.same rfl)

theorem samplesThroughLast {k : Nat} (h : Keeps a s) : Keeps a (samplesThroughLast k s) := by
  unfold Machine.samplesThroughLast
  split
  · exact h.takeSamples
  · exact h

theorem liveBase {k : Nat} {e : TapEntry} {st : Half} (h : Keeps a s) : Keeps a (liveBase k e st s) := by
  have sampled : Keeps a (if e.gap then Machine.samplesThroughLast k s else s) :=
    .ite (fun _ => h.samplesThroughLast) fun _ => h
  exact .ite (fun _ => sampled.setSlot.stopLive) fun _ =>
    .setWalk (.ite (fun _ => sampled.setSlot.liveGap) fun _ => sampled.setSlot)

theorem liveEnd {k : Nat} {e : TapEntry} (h : Keeps a s) : Keeps a (liveEnd k e s) :=
  .setSlot (.ite (fun _ => h.samplesThroughLast.setWalk.liveGap) fun _ => h.samplesBefore)

theorem liveEntry {k : Nat} {e : TapEntry} (h : Keeps a s) : Keeps a (liveEntry k e s) := by
  unfold Machine.liveEntry
  split
  · exact h.liveBase
  · exact h.samplesBefore.applyEdge
  · exact h.liveEnd
  · exact h.samplesBefore

theorem liveSync {k : Nat} (h : Keeps a s) : Keeps a (liveSync k s) :=
  .ite (fun _ => .ite (fun _ => h.samplesThroughLast) fun _ => h.takeSamples) fun _ => h

theorem liveSyncAll (h : Keeps a s) : Keeps a (liveSyncAll s) := h.liveSync.liveSync.liveSync.liveSync

theorem consumeEntry {k : Nat} (h : Keeps a s) : Keeps a (consumeEntry k s) := by
  unfold Machine.consumeEntry
  split
  · rename_i e rest _
    have taken : Keeps a (Machine.liveEntry k e { s with tap := { s.tap with entries := rest } }) :=
      .liveEntry (h.same rfl)
    exact .returnSlots (.closeIdleGap (.liveSync (.ite (fun _ => taken.setWalk) fun _ => taken)))
  · exact h

/-! ## The measurement engine and the streams -/

theorem completeMeasure (h : Keeps a s) : Keeps a (completeMeasure s) := .raiseTo (.dropPin (h.same rfl))

theorem finishMeasure (h : Keeps a s) : Keeps a (finishMeasure s) := .ite (fun _ => h.completeMeasure) fun _ => h

theorem measureRecords {recs : List Record} {full tail : Bool} (h : Keeps a s) :
    Keeps a (measureRecords recs full tail s) :=
  .ite (fun _ => .completeMeasure (h.same rfl)) fun _ => .ite (fun _ => .ite (fun _ => .completeMeasure (h.same rfl))
    fun _ => .ite (fun _ => h.same rfl) fun _ => h.same rfl) fun _ => h.same rfl

theorem cancelMeasure (h : Keeps a s) : Keeps a (cancelMeasure s) :=
  .ite (fun _ => .dropPin (.withdraw (h.same rfl))) fun _ => h

theorem formChunk (h : Keeps a s) : Keeps a (formChunk s) := by
  unfold Machine.formChunk
  split
  · exact h
  · dsimp only
    split
    · exact h
    · exact .ite (fun _ => .answerDeferred h.setStream) fun _ => h

theorem streamWords {p : Port} {n : Nat} {ws : List Word} {full tail : Bool} (h : Keeps a s) :
    Keeps a (streamWords p n ws full tail s) := by
  unfold Machine.streamWords
  split
  · exact h
  · dsimp only
    cases p
    · exact .formChunk (.ite (fun _ => h.setStream.dropPin) fun _ => h.setStream)
    · exact .pumpTether (.ite (fun _ => h.setStream.dropPin) fun _ => h.setStream)

theorem stopReading {p : Port} (h : Keeps a s) : Keeps a (stopReading p s) := by
  unfold Machine.stopReading
  split
  · exact h
  · split
    · exact h
    · exact h.withdraw.dropPin

theorem cancelStream {p : Port} (h : Keeps a s) : Keeps a (cancelStream p s) := by
  unfold Machine.cancelStream
  dsimp only
  split
  · exact h.stopReading
  · cases p
    · dsimp only
      split
      · exact h.stopReading.setStream.answerDeferred
      · exact h.stopReading.setStream
    · exact h.stopReading.setStream.pumpTether

theorem dropStream {p : Port} (h : Keeps a s) : Keeps a (dropStream p s) := h.stopReading.setStream

end
end Sys2Proof.Machine.Keeps
end

section
/-! PROOFS. What the steps keep, part 3: the renderer, the panel, the memory controller, port resets and power, and what
a command ends with. -/

namespace Sys2Proof.Machine.Keeps

section
variable {a s t : State}

/-! ## Single blocks -/

theorem setFe {x : FrontEnd} (h : Keeps a s) : Keeps a { s with fe := x } := h.same rfl

theorem setPanel {x : Panel} (h : Keeps a s) : Keeps a { s with panel := x } := h.same rfl

theorem setRender {x : Render} (h : Keeps a s) : Keeps a { s with render := x } := h.same rfl

theorem setComp {x : Compressor} (h : Keeps a s) : Keeps a { s with comp := x } := h.same rfl

theorem setPower {x : Power} (h : Keeps a s) : Keeps a { s with power := x } := h.same rfl

/-! ## The renderer and the panel -/

theorem markBands {bs : List Nat} (h : Keeps a s) : Keeps a (markBands bs s) := h.same rfl

theorem moveView {n : Option Nat} (h : Keeps a s) : Keeps a (moveView n s).1 := by
  have moved : Keeps a (match s.viewed with
      | some v => if n = some v then s else Machine.dropPin v (fun p => { p with view := false }) s
      | none => s) := by
    split
    · exact .ite (fun _ => h) fun _ => h.dropPin
    · exact h
  unfold Machine.moveView
  dsimp only
  split
  · exact moved
  · split <;> dsimp only
    · exact addPin moved
    · exact addPin moved
    · exact moved
    · exact moved

theorem latchFrame (h : Keeps a s) : Keeps a (latchFrame s) :=
  .ite (fun _ => .markBands (h.moveView.same rfl)) fun _ => h.moveView.same rfl

theorem requestFrame (h : Keeps a s) : Keeps a (requestFrame s) :=
  .ite (fun _ => h.latchFrame) fun _ => h.same rfl

theorem completeFrame (h : Keeps a s) : Keeps a (completeFrame s) :=
  .ite (fun _ => .latchFrame (h.same rfl)) fun _ => h.same rfl

theorem renderLocate (h : Keeps a s) : Keeps a (renderLocate s) := h.same (by simp [State.judged])

theorem renderTrimmed (h : Keeps a s) : Keeps a (renderTrimmed s) := h.same (by simp [State.judged])

theorem classifyCells (h : Keeps a s) : Keeps a (classifyCells s) := h.same rfl

theorem countEvent (h : Keeps a s) : Keeps a (countEvent s) :=
  .ite (fun _ => .requestFrame (h.same rfl)) fun _ => h.same rfl

theorem grantChunk (h : Keeps a s) : Keeps a (grantChunk s) := h.same (by simp [State.judged])

theorem endEmission (h : Keeps a s) : Keeps a (endEmission s) := .completeFrame (h.same rfl)

theorem reportBand {b : Nat} (h : Keeps a s) : Keeps a (reportBand b s) :=
  .ite (fun _ => .endEmission (h.same rfl)) fun _ => h.same rfl

theorem leaveShowing (h : Keeps a s) : Keeps a (leaveShowing s) := by
  unfold Machine.leaveShowing
  dsimp only
  split
  · exact h.same rfl
  · exact h.same rfl
  · exact .endEmission (h.same rfl)

theorem runWaiting {qs : List PanelSeq} (h : Keeps a s) : Keeps a (runWaiting qs s) := h.same (by simp [State.judged])

theorem applyChange {c : OverlayChange} (h : Keeps a s) : Keeps a (applyChange c s) := by
  unfold Machine.applyChange
  dsimp only
  refine .requestFrame ?_
  split <;> split
  · exact .answerDeferred (.markBands (h.same rfl))
  · exact .answerDeferred (h.same rfl)
  · exact .markBands (h.same rfl)
  · exact h.same rfl

theorem applyChanges {cs : List OverlayChange} (h : Keeps a s) : Keeps a (applyChanges cs s) := by
  induction cs generalizing s with
  | nil => exact h
  | cons c cs ih => exact ih h.applyChange

theorem beginEmission (h : Keeps a s) : Keeps a (beginEmission s) := h.same (by simp [State.judged])

theorem startBand (h : Keeps a s) : Keeps a (startBand s) := by
  unfold Machine.startBand
  split
  · exact h.endEmission
  · exact .ite (fun _ => .reportBand (h.same rfl)) fun _ => h.same rfl

theorem busGrant {n : Nat} {f : Bool} (h : Keeps a s) : Keeps a (busGrant n f s) := by
  induction n generalizing f s with
  | zero => exact h
  | succ n ih =>
    unfold Machine.busGrant
    dsimp only
    split
    · exact .ite (fun _ => ih h.beginEmission.runWaiting) fun _ => h.beginEmission.runWaiting
    · refine .ite (fun _ => ?_) fun _ => .ite (fun _ => h.beginEmission.grantChunk) fun _ => h.beginEmission
      exact .ite (fun _ => h.beginEmission.grantChunk) fun _ =>
        .ite (fun _ => ih h.beginEmission.startBand) fun _ => h.beginEmission.startBand

theorem busBoundary {f : Bool} (h : Keeps a s) : Keeps a (busBoundary f s) :=
  .ite (fun _ => .busGrant (.applyChanges (h.same rfl))) fun _ => h

theorem pokeBus (h : Keeps a s) : Keeps a (pokeBus s) := .ite (fun _ => h.busBoundary) fun _ => h

theorem busEnds {f : Bool} (h : Keeps a s) : Keeps a (busEnds f s) := .busBoundary (h.same rfl)

theorem handOffFrame (h : Keeps a s) : Keeps a (handOffFrame s) :=
  .ite (fun _ => h.completeFrame) fun _ => .pokeBus (h.same rfl)

theorem reachShowing (h : Keeps a s) : Keeps a (reachShowing s) :=
  .setPanel (.requestFrame (.markBands (.ite (fun _ => .raiseBoth (h.same rfl)) fun _ => h.same rfl)))

theorem queueOff (h : Keeps a s) : Keeps a (queueOff s) :=
  .pokeBus (.setPanel (.leaveShowing (h.same rfl)))

theorem turnOff (h : Keeps a s) : Keeps a (turnOff s) := by
  unfold Machine.turnOff
  split
  · exact .setPanel (.queueOff (h.same rfl))
  · exact h.queueOff

theorem sleepPanel {d : Bool} (h : Keeps a s) : Keeps a (sleepPanel d s) :=
  .pokeBus (.setPanel (.leaveShowing (h.same rfl)))

theorem wakePanel (h : Keeps a s) : Keeps a (wakePanel s) := .pokeBus (h.same rfl)

theorem sleepForEntry (h : Keeps a s) : Keeps a (sleepForEntry s) := by
  unfold Machine.sleepForEntry
  split
  · exact h.sleepPanel
  · exact h.sleepPanel
  · exact h.turnOff
  · exact h.same rfl
  · exact h.same rfl

theorem sleepForCutoff (h : Keeps a s) : Keeps a (sleepForCutoff s) := by
  unfold Machine.sleepForCutoff
  split
  · exact h.sleepPanel
  · exact h.sleepPanel
  · exact h
  · exact h
  · exact h

/-! ## The memory controller -/

theorem arbitrate (h : Keeps a s) : Keeps a (arbitrate s) := h.same (by simp [State.judged])

theorem progress (h : Keeps a s) : Keeps a (progress s) := h.same (by simp [State.judged])

theorem decoderRecords {k : Nat} {recs : List Record} {full tail : Bool} (h : Keeps a s) :
    Keeps a (decoderRecords k recs full tail s) := by
  unfold Machine.decoderRecords
  split
  · exact .ite (fun _ => h.offlineRecords.setSlot) fun _ => h.offlineRecords
  · exact h

theorem deliver {b : ReadBurst} (h : Keeps a s) : Keeps a (deliver b s) := by
  unfold Machine.deliver
  refine .ite (fun _ => h) fun _ => ?_
  dsimp only
  split
  · exact h
  · exact h.same rfl
  · exact h.decoderRecords
  · exact h.measureRecords
  · exact h.streamWords
  · exact h.streamWords

theorem endRead {b : ReadBurst} (h : Keeps a s) : Keeps a (endRead b s) := .deliver (h.same rfl)

theorem cutRead (h : Keeps a s) : Keeps a (cutRead s) := by
  unfold Machine.cutRead
  split
  · exact .ite (fun _ => h.endRead) fun _ => h.same rfl
  · exact h

theorem cutIfUrgent {b : State} (h : Keeps a s) : Keeps a (cutIfUrgent b s) := .ite (fun _ => h.cutRead) fun _ => h

theorem writeGroup {n : Nat} (h : Keeps a s) : Keeps a (writeGroup n s) := by
  unfold Machine.writeGroup
  dsimp only
  split
  · exact .setSeg (h.writeMem (writeWords_wf _ _ _) rfl)
  · exact h.writeMem (writeWords_wf _ _ _) rfl

theorem endWrite {n : Nat} (h : Keeps a s) : Keeps a (endWrite n s) := by
  have written : Keeps a (Machine.writeGroup n { s with mc := { s.mc with
      flight := none, banks := openBank s.writer.block s.writer.written s.mc.banks } }) := .writeGroup (h.same rfl)
  exact .ite (fun _ => written.sealSegment) fun _ => .ite (fun _ => written.reserveTest) fun _ => written

/-! ## Port resets (R196) -/

theorem freeStarted {p : Port} {k : Nat} (h : Keeps a s) : Keeps a (freeStarted p k s) :=
  .ite (fun _ => h.freeSlot) fun _ => h

/-- The claim may be given up in IDLE, and in DRAINING once the sequence is to end. -/
theorem freeClaim (h : Keeps a s)
    (hc : a.claimOk → s.seq.acq = .idle ∨ (s.seq.acq = .draining ∧ s.seq.seqEnd = true)) : Keeps a (freeClaim s) := by
  refine .raiseBoth ⟨h.pending, h.mem, h.debt, fun ha => ?_, h.con, h.teth⟩
  rcases hc ha with e | ⟨e, f⟩
  · exact State.claimOk_of_idle e ((h.claim ha).stopTick_eq (by simp [e]))
  · exact State.claimOk_of_ended e f

/-- A stop for a lost owner leaves the acquisition IDLE, or draining with the sequence at its end. -/
theorem stopNow_ends (reason : SealReason) (s : State) : (Machine.stopNow reason s).seq.acq = .idle ∨
    (Machine.stopNow reason s).seq.acq = .draining ∧ (Machine.stopNow reason s).seq.seqEnd = true := by
  unfold Machine.stopNow Machine.stopCondition
  split
  · exact .inl ‹_›
  · dsimp only
    split
    · exact .inr (by simp [Machine.stopSegment])
    · cases hs : s.seq.acq <;> simp_all [AcqState.sampling]

theorem loseClaim {p : Port} (h : Keeps a s) : Keeps a (loseClaim p s) :=
  .ite (fun _ => h.stopNow.freeClaim fun _ => stopNow_ends _ s) fun _ => h

theorem loseMeasure {p : Port} (h : Keeps a s) : Keeps a (loseMeasure p s) :=
  .ite (fun _ => h.cancelMeasure) fun _ => h

theorem resetAlerts {p : Port} (h : Keeps a s) : Keeps a (resetAlerts p s) := by
  have none : ∀ q : PortState, q.alerts = [] → q.alertsOk := fun q e => by simp [PortState.alertsOk, e]
  cases p
  · exact ⟨h.pending, h.mem, h.debt, h.claim, fun _ => none _ rfl, h.teth⟩
  · exact ⟨h.pending, h.mem, h.debt, h.claim, h.con, fun _ => none _ rfl⟩

theorem discardReplies {p : Port} (h : Keeps a s) : Keeps a (discardReplies p s) := h.same (by simp [State.judged])

theorem disown {p : Port} (h : Keeps a s) : Keeps a (disown p s) := h.same rfl

theorem portReset {p : Port} (h : Keeps a s) : Keeps a (portReset p s) := by
  unfold Machine.portReset
  exact .resetAlerts (.discardReplies (.disown (.freeStarted (.freeStarted (.freeStarted (.freeStarted
    h.loseClaim.dropStream.loseMeasure))))))

theorem detached (h : Keeps a s) : Keeps a { s with
    ports := { s.ports with link := .detached, remoteWake := false, resuming := false }
    power := { s.power with tetherReset := false } } := h.same rfl

theorem busReset (h : Keeps a s) : Keeps a (busReset s) := h.portReset.detached

theorem busResetOrDefer (h : Keeps a s) : Keeps a (busResetOrDefer s) :=
  .ite (fun _ => h.same rfl) fun _ => .ite (fun _ => h.busReset) fun _ => h

/-- A full reset gives every item its reset value, which meets each invariant; the SDRAM keeps its bytes or is empty. -/
theorem fullReset {cause : ResetCause} (h : Keeps a s) : Keeps a (fullReset cause s) where
  pending := h.pending
  mem := fun ha => by
    unfold State.memOk Machine.fullReset
    dsimp only
    split
    · rfl
    · exact h.mem ha
  debt := fun _ => Nat.zero_le 8
  claim := fun _ => State.claimOk_of_idle rfl rfl
  con := fun _ => PortState.reset_alertsOk
  teth := fun _ => PortState.reset_alertsOk

/-! ## Power -/

theorem recordCause {f : WakeSet → WakeSet} {v : Nat} (h : Keeps a s) : Keeps a (recordCause f v s) :=
  h.same (by simp [State.judged])

theorem lowTest {v : Nat} (h : Keeps a s) : Keeps a (lowTest v s) :=
  .ite (fun _ => .ite (fun _ => .raiseBoth (h.same rfl)) fun _ => h) fun _ => .ite (fun _ => h.same rfl) fun _ => h

theorem cutoffSequence {v : Nat} (h : Keeps a s) : Keeps a (cutoffSequence v s) :=
  .setPower h.stopNow.stopSlot.stopSlot.stopSlot.stopSlot.cancelStream.cancelStream.cancelMeasure.sleepForCutoff.raiseBoth

theorem sampleBattery {v : Nat} (h : Keeps a s) : Keeps a (sampleBattery v s) := by
  have tested : Keeps a (Machine.lowTest v { s with power := { s.power with reading := some v } }) :=
    .lowTest (h.same rfl)
  exact .ite (fun _ => tested.cutoffSequence) fun _ => tested

theorem entryFrame (h : Keeps a s) : Keeps a (entryFrame s) := .ite (fun _ => .sleepForEntry (h.same rfl)) fun _ => h

theorem entryPanel (h : Keeps a s) : Keeps a (entryPanel s) := .ite (fun _ => h.same rfl) fun _ => h

/-! ## What a command ends with -/

theorem conclude {b : State} (h : Keeps a s) : Keeps a (conclude b s) := by
  have cut : Keeps a (Machine.cutIfUrgent b (Machine.progress (Machine.serveWriter (Machine.entryPanel
      (Machine.entryFrame s))))) := h.entryFrame.entryPanel.serveWriter.progress.cutIfUrgent
  exact .finishMeasure (.ite (fun _ => cut.arbitrate) fun _ => cut)

end
end Sys2Proof.Machine.Keeps
end

section
/-! PROOFS. What the steps keep, part 4: the requests, the events, and with them every command; the invariants of the
machine. -/

namespace Sys2Proof.Machine.Keeps

section
variable {a s t : State}

/-! ## Requests -/

/-- The ARM of the port that holds the claim. -/
theorem doArm {q : Asker} (h : Keeps a s) (hc : s.ports.claim ≠ none) : Keeps a (doArm q s) := by
  unfold Machine.doArm
  refine .ite (fun _ => h.refuse) fun e => .ite (fun _ => h.refuse) fun _ => ?_
  have idle : s.seq.acq = .idle := Classical.not_not.mp (not_or.mp e).1
  have ready : Keeps a (if s.seq.params.reclaims then Machine.reclaimForArm Config.segmentCount s else s) :=
    .ite (fun _ => h.reclaimForArm) fun _ => h
  have unchanged : (if s.seq.params.reclaims then Machine.reclaimForArm Config.segmentCount s else s).seq = s.seq ∧
      (if s.seq.params.reclaims then Machine.reclaimForArm Config.segmentCount s else s).ports.claim =
        s.ports.claim := by
    split <;> simp
  refine .answer (.armSegment (ready.setSeq fun ha => State.claimOk_of_idle ?_ ?_) fun _ => ?_)
  · simpa [unchanged.1] using idle
  · simpa [unchanged.1] using (h.claim ha).stopTick_eq (by simp [idle])
  · simpa [unchanged.2] using hc

theorem doForce {q : Asker} (h : Keeps a s) : Keeps a (doForce q s) := by
  refine .ite (fun e => .answer (h.takeTrigger fun ha => ?_)) fun _ => h.refuse
  have sampling : s.seq.acq.sampling = true := by cases hs : s.seq.acq <;> simp_all [AcqState.forcible,
    AcqState.sampling]
  exact ⟨h.claim_ne sampling ha, (h.claim ha).stopTick_eq (by rintro e; simp [e, AcqState.sampling] at sampling)⟩

theorem doHalt {q : Asker} (h : Keeps a s) : Keeps a (doHalt q s) :=
  .ite (fun _ => .answer (h.setSeqEnd.stopSegment fun _ => .inr rfl)) fun _ => h.refuse

theorem doSetPods {q : Asker} {x y : Option Int} (h : Keeps a s) : Keeps a (doSetPods q x y s) :=
  .ite (fun _ => h.refuse) fun _ => .answer h.setFe

theorem doSetClock {q : Asker} {d : Nat} {m : Half} (h : Keeps a s) : Keeps a (doSetClock q d m s) :=
  .ite (fun _ => h.refuse) fun _ => .answer h.setFe

theorem doSetWatch {q : Asker} {w : Option (Nat × Nat)} (h : Keeps a s) : Keeps a (doSetWatch q w s) := by
  unfold Machine.doSetWatch
  split
  · exact .answer h.setFe
  · split
    · exact .ite (fun _ => .answer h.setFe) fun _ => h.refuse
    · exact h.refuse

theorem doLoadTrigger {q : Asker} {x : ArmParams} (h : Keeps a s) : Keeps a (doLoadTrigger q x s) :=
  .ite (fun _ => h.refuse) fun _ => .ite (fun _ => .answer (h.same rfl)) fun _ => h.refuse

theorem doSetStoreLow {q : Asker} {n : Nat} (h : Keeps a s) : Keeps a (doSetStoreLow q n s) :=
  .answer (.storeLowTest (h.same rfl))

theorem doDrop {q : Asker} {n : Nat} (h : Keeps a s) : Keeps a (doDrop q n s) := by
  unfold Machine.doDrop
  refine .ite (fun _ => h.refuse) fun _ => .ite (fun _ => h.refuse) fun _ => ?_
  split
  · exact h.refuse
  · exact .ite (fun _ => h.setSeg.answer) fun _ => h.freeSegment.answer
  · exact h.answer
  · exact h.refuse

theorem setKept {f : Bool} {q : Asker} {n : Nat} (h : Keeps a s) : Keeps a (setKept f q n s) :=
  .ite (fun _ => h.refuse) fun _ => .ite (fun _ => h.refuse) fun _ => .ite (fun _ => h.refuse) fun _ => h.setSeg.answer

theorem doReadRecords {q : Asker} {n lo hi : Nat} (h : Keeps a s) : Keeps a (doReadRecords q n lo hi s) := by
  unfold Machine.doReadRecords
  refine .ite (fun _ => h.refuse) fun _ => .ite (fun _ => h.refuse) fun _ => .ite (fun _ => h.refuse) fun _ =>
    .ite (fun _ => h.refuse) fun _ => .ite (fun _ => h.refuse) fun _ => ?_
  dsimp only
  split
  · exact h.addPin.answer.setStream
  · exact h.addPin.answer.setStream.pumpTether

theorem startLive {q : Asker} {k : Nat} {p : Protocol} {quota level : Nat} (h : Keeps a s) :
    Keeps a (startLive q k p quota level s) := by
  unfold Machine.startLive
  dsimp only
  split
  · exact h.setSlot.answer
  · exact h.setSlot.answer
  · exact .answer (h.same rfl)

theorem doDecStart {q : Asker} {k : Nat} {p : Protocol} {src : Source} {quota level : Nat} (h : Keeps a s) :
    Keeps a (doDecStart q k p src quota level s) := by
  unfold Machine.doDecStart
  split
  · exact h.refuse
  · split
    · exact h.startLive
    · exact .answer h.setSlot.addPin

theorem doDecStop {q : Asker} {k : Nat} (h : Keeps a s) : Keeps a (doDecStop q k s) := by
  unfold Machine.doDecStop
  split
  · exact h.refuse
  · exact .ite (fun _ => h.stopSlot.answer) fun _ => h.refuse

theorem doDecClear {q : Asker} {k : Nat} (h : Keeps a s) : Keeps a (doDecClear q k s) := by
  unfold Machine.doDecClear
  split
  · exact h.refuse
  · exact h.freeSlot.answer

theorem doQueueTake {q : Asker} {k n : Nat} (h : Keeps a s) : Keeps a (doQueueTake q k n s) := by
  unfold Machine.doQueueTake
  split
  · exact h.refuse
  · exact .ite (fun _ => h.refuse) fun _ => h.setSlot.answer

theorem doQueuePeek {q : Asker} {k : Nat} (h : Keeps a s) : Keeps a (doQueuePeek q k s) :=
  .ite (fun _ => h.refuse) fun _ => h.answer

theorem doReadNotes {q : Asker} {k n lo hi m : Nat} (h : Keeps a s) : Keeps a (doReadNotes q k n lo hi m s) := by
  unfold Machine.doReadNotes
  refine .ite (fun _ => h.refuse) fun _ => .ite (fun _ => h.refuse) fun _ => .ite (fun _ => h.refuse) fun _ =>
    .ite (fun _ => h.refuse) fun _ => ?_
  dsimp only
  split
  · exact h.answer.setStream
  · exact h.answer.setStream.pumpTether

theorem doMeasure {q : Asker} {n x y : Nat} {m : Half} (h : Keeps a s) : Keeps a (doMeasure q n x y m s) :=
  .ite (fun _ => h.refuse) fun _ => .ite (fun _ => h.refuse) fun _ => .ite (fun _ => h.refuse) fun _ =>
    .ite (fun _ => h.refuse) fun _ =>
      .ite (fun _ => .completeMeasure (same h.addPin.answer rfl)) fun _ => same h.addPin.answer rfl

theorem doMeasureResult {q : Asker} (h : Keeps a s) : Keeps a (doMeasureResult q s) := by
  unfold Machine.doMeasureResult
  split
  · exact h.refuse
  · exact h.answer
  · exact h.answer
  · exact h.refuse

theorem doSetView {q : Asker} {v : ViewSeg} {t0 sc : Nat} {f : Bool} (h : Keeps a s) :
    Keeps a (doSetView q v t0 sc f s) :=
  .ite (fun _ => h.refuse) fun _ => .requestFrame (.answer h.setRender)

theorem doSetLayout {q : Asker} {rows : List RowReq} (h : Keeps a s) : Keeps a (doSetLayout q rows s) := by
  unfold Machine.doSetLayout
  split
  · exact h.refuse
  · exact .requestFrame (.answer h.setRender)

theorem doSetPalette {q : Asker} {cs : List Half} (h : Keeps a s) : Keeps a (doSetPalette q cs s) :=
  .ite (fun _ => .requestFrame (.answer h.setRender)) fun _ => h.refuse

theorem doSetCursors {q : Asker} {x y : Option Nat} (h : Keeps a s) : Keeps a (doSetCursors q x y s) :=
  .requestFrame (.answer h.setRender)

theorem doSetLiveDivider {q : Asker} {n : Nat} (h : Keeps a s) : Keeps a (doSetLiveDivider q n s) :=
  .ite (fun _ => .answer h.setRender) fun _ => h.refuse

theorem doPanelSetup {q : Asker} {r : PanelSetup} (h : Keeps a s) : Keeps a (doPanelSetup q r s) :=
  .ite (fun _ => h.refuse) fun _ => .ite (fun _ => .answer h.setPanel) fun _ => h.refuse

theorem doPanelOn {q : Asker} (h : Keeps a s) : Keeps a (doPanelOn q s) :=
  .ite (fun _ => .pokeBus (.answer h.setPanel)) fun _ => h.refuse

theorem doPanelOff {q : Asker} (h : Keeps a s) : Keeps a (doPanelOff q s) :=
  .ite (fun _ => h.refuse) fun _ => h.answer.turnOff

theorem doPanelSleep {q : Asker} (h : Keeps a s) : Keeps a (doPanelSleep q s) :=
  .ite (fun _ => h.answer.sleepPanel) fun _ => h.refuse

theorem doPanelWake {q : Asker} (h : Keeps a s) : Keeps a (doPanelWake q s) :=
  .ite (fun _ => h.answer.wakePanel) fun _ => h.refuse

theorem doOverlaySet {q : Asker} {id x y w n : Nat} (h : Keeps a s) : Keeps a (doOverlaySet q id x y w n s) :=
  .ite (fun _ => h.refuse) fun _ => .ite (fun _ => h.refuse) fun _ => .defer h.setPanel

theorem doOverlayClear {q : Asker} {id : Nat} (h : Keeps a s) : Keeps a (doOverlayClear q id s) :=
  .ite (fun _ => h.refuse) fun _ => .defer h.setPanel

theorem doOverlayPixels {q : Asker} {id n : Nat} {px : List Half} (h : Keeps a s) :
    Keeps a (doOverlayPixels q id n px s) := by
  unfold Machine.doOverlayPixels
  split
  · exact h.refuse
  · exact .ite (fun _ => h.refuse) fun _ => .ite (fun _ => h.refuse) fun _ => .pokeBus (.answer h.setPanel)

/-- A claim given to a port. -/
theorem setClaim {p : Port} (h : Keeps a s) : Keeps a (setClaim (some p) s) :=
  .raiseBoth ⟨h.pending, h.mem, h.debt, fun ha => ⟨fun _ => by simp, (h.claim ha).2⟩, h.con, h.teth⟩

theorem doClaim {q : Asker} {f : Bool} (h : Keeps a s) : Keeps a (doClaim q f s) := by
  unfold Machine.doClaim
  split
  · exact h.setClaim.answer
  · refine .ite (fun _ => h.answer) fun _ => .ite (fun _ => h.refuse) fun _ => ?_
    split
    · exact .ite (fun _ => h.setClaim.answer) fun _ => h.refuse
    · exact h.refuse

theorem doRelease {q : Asker} (h : Keeps a s) : Keeps a (doRelease q s) := by
  unfold Machine.doRelease
  split
  · exact h.refuse
  · exact .ite (fun _ => h.refuse) fun _ => .ite (fun e => .answer (h.freeClaim fun _ => .inl e)) fun _ => h.refuse

theorem doReadNext {q : Asker} (h : Keeps a s) : Keeps a (doReadNext q s) := by
  unfold Machine.doReadNext
  split
  · exact h.refuse
  · exact h.refuse
  · refine .ite (fun _ => h.setStream.answer) fun _ => ?_
    split
    · exact h.setStream.defer.formChunk
    · exact h.setStream.pushReply

theorem doStreamCancel {q : Asker} (h : Keeps a s) : Keeps a (doStreamCancel q s) := by
  unfold Machine.doStreamCancel
  split
  · exact h.refuse
  · exact h.cancelStream.answer

/-- A port whose alert set loses kinds. -/
theorem setPort {p : Port} {x : PortState} (h : Keeps a s) (hx : x.alerts.Sublist (s.ports.port p).alerts) :
    Keeps a (State.refreshAttn { s with ports := s.ports.setPort p x }) := by
  cases p
  · exact ⟨h.pending, h.mem, h.debt, h.claim, fun ha => PortState.alertsOk_of_sublist (h.con ha) hx, h.teth⟩
  · exact ⟨h.pending, h.mem, h.debt, h.claim, h.con, fun ha => PortState.alertsOk_of_sublist (h.teth ha) hx⟩

theorem doAlertLevels {q : Asker} {ps : List (Nat × Nat)} (h : Keeps a s) : Keeps a (doAlertLevels q ps s) :=
  .ite (fun _ => .answer (h.setPort List.filter_sublist)) fun _ => h.refuse

theorem doAlertFetch {q : Asker} (h : Keeps a s) : Keeps a (doAlertFetch q s) := by
  unfold Machine.doAlertFetch
  dsimp only
  split
  · exact h.answer
  · exact .answer (h.setPort List.filter_sublist)

theorem doDoze {q : Asker} {n : Nat} (h : Keeps a s) : Keeps a (doDoze q n s) :=
  .ite (fun _ => .answer h.setPower) fun _ => h.refuse

theorem doPowerStatus {q : Asker} (h : Keeps a s) : Keeps a (doPowerStatus q s) := .answer (h.same rfl)

theorem doStatus {q : Asker} {sel : StatusSel} (h : Keeps a s) : Keeps a (doStatus q sel s) := by
  cases sel <;> exact h.answer

/-- A request whose claim check passed. -/
theorem perform {q : Asker} {r : Request} (h : Keeps a s) (hc : claimCheck q.port r s = none) :
    Keeps a (perform q r s) := by
  cases r with
  | setPods => exact h.doSetPods
  | setClock => exact h.doSetClock
  | setWatch => exact h.doSetWatch
  | loadTrigger => exact h.doLoadTrigger
  | arm => exact h.doArm fun e => by simp [claimCheck, Request.needsClaim, e] at hc
  | force => exact h.doForce
  | halt => exact h.doHalt
  | setStoreLow => exact h.doSetStoreLow
  | drop => exact h.doDrop
  | keep => exact h.setKept
  | unkeep => exact h.setKept
  | readRecords => exact h.doReadRecords
  | decStart => exact h.doDecStart
  | decStop => exact h.doDecStop
  | decClear => exact h.doDecClear
  | queueTake => exact h.doQueueTake
  | queuePeek => exact h.doQueuePeek
  | readNotes => exact h.doReadNotes
  | measure => exact h.doMeasure
  | measureResult => exact h.doMeasureResult
  | setView => exact h.doSetView
  | setLayout => exact h.doSetLayout
  | setPalette => exact h.doSetPalette
  | setCursors => exact h.doSetCursors
  | setLiveDivider => exact h.doSetLiveDivider
  | panelSetup => exact h.doPanelSetup
  | panelOn => exact h.doPanelOn
  | panelOff => exact h.doPanelOff
  | panelSleep => exact h.doPanelSleep
  | panelWake => exact h.doPanelWake
  | overlaySet => exact h.doOverlaySet
  | overlayClear => exact h.doOverlayClear
  | overlayPixels => exact h.doOverlayPixels
  | panelStatus => exact h.answer
  | claim => exact h.doClaim
  | release => exact h.doRelease
  | portReset => exact h.answer
  | readNext => exact h.doReadNext
  | streamCancel => exact h.doStreamCancel
  | alertLevels => exact h.doAlertLevels
  | alertFetch => exact h.doAlertFetch
  | identify => exact h.answer
  | nop => exact h.answer
  | status => exact h.doStatus
  | doze => exact h.doDoze
  | wakeCausesClear => exact .answer h.setPower
  | setBattery => exact .answer h.setPower
  | resetPart => exact h.answer
  | powerStatus => exact h.doPowerStatus

theorem take {p : Port} {tag : Tag} {r : Request} (h : Keeps a s) : Keeps a (take p tag r s) := by
  unfold Machine.take
  refine .ite (fun _ => h.refuse) fun _ => ?_
  split
  · exact h.refuse
  · exact h.perform ‹_›

theorem receive {p : Port} {tag : Tag} {r : Request} (h : Keeps a s) : Keeps a (receive p tag r s) :=
  .ite (fun _ => h.take) fun _ => h

theorem takeFrame {p : Port} {f : Wire.RxFrame} (h : Keeps a s) : Keeps a (takeFrame p f s) := by
  cases f with
  | none => exact h
  | malformed => exact h.refuse
  | request => exact h.take

/-! ## Events of the ports -/

theorem afterDelivery {p : Port} {r : Reply} (h : Keeps a s) : Keeps a (afterDelivery p r s) :=
  .ite (fun _ => h.portReset) fun _ => .ite (fun _ => h.fullReset) fun _ => h

theorem assertSelect {v : Nat} (h : Keeps a s) : Keeps a (assertSelect v s) :=
  .ite (fun _ => h) fun _ => .ite (fun _ => .recordCause (h.same rfl)) fun _ => h.same rfl

theorem endFull {frame : List Byte} {out : OutFrame} (h : Keeps a s) : Keeps a (endFull frame out s) := by
  cases out
  · exact .ite (fun _ => h.takeFrame) fun _ => h
  · exact .ite (fun _ => .takeFrame (.afterDelivery (h.same rfl))) fun _ => .afterDelivery (h.same rfl)

theorem endShort {frame : List Byte} (h : Keeps a s) : Keeps a (endShort frame s) :=
  .ite (fun _ => h.same rfl) fun _ => h

theorem consoleEnd {frame : List Byte} {v : Nat} (h : Keeps a s) : Keeps a (consoleEnd frame v s) := by
  have selected : Keeps a (if s.ports.outFrame.isSome then s else Machine.assertSelect v s) :=
    .ite (fun _ => h) fun _ => h.assertSelect
  unfold Machine.consoleEnd
  refine .ite (fun _ => selected.same rfl) fun _ => ?_
  split
  · exact selected
  · rename_i out _
    have clocked : Keeps a (Machine.clockOut out frame.length
        (if s.ports.outFrame.isSome then s else Machine.assertSelect v s)) := selected.same rfl
    exact .ite (fun _ => clocked) fun _ => .ite (fun _ => clocked.endShort) fun _ => clocked.endFull

theorem ackReply (h : Keeps a s) : Keeps a (ackReply s) := by
  unfold Machine.ackReply
  split
  · exact h
  · exact .afterDelivery (h.same rfl)

theorem ackPacket (h : Keeps a s) : Keeps a (ackPacket s) := by
  unfold Machine.ackPacket
  split
  · exact h
  · split
    · exact h
    · exact .ite (fun _ => h.setStream) fun _ => h.setStream.pumpTether

theorem resumeLink (h : Keeps a s) : Keeps a (resumeLink s) := .ite (fun _ => .pumpTether (h.same rfl)) fun _ => h

theorem allowRemoteWake {b : Bool} (h : Keeps a s) : Keeps a (allowRemoteWake b s) :=
  .ite (fun _ => h.same rfl) fun _ => h

/-! ## Events of the pods and the capture -/

theorem settlePresence {n : Nat} (h : Keeps a s) : Keeps a (settlePresence n s) := .raiseBoth h.setFe

theorem sampledTick {v : List Int} (h : Keeps a s) : Keeps a (sampledTick v s) := by
  unfold Machine.sampledTick
  exact .liveSyncAll (.evaluatePattern (.setComp (.tapTick (.stageTick h.setFe))))

theorem drainTick {v : List Int} (h : Keeps a s) : Keeps a (drainTick v s) := by
  unfold Machine.drainTick
  exact .ite (fun _ => .closeTapGap (.closeHeldEnd h.setFe)) fun _ => .closeHeldEnd h.setFe

theorem tickOnce {v : List Int} (h : Keeps a s) : Keeps a (tickOnce v s) := by
  unfold Machine.tickOnce
  exact .ite (fun _ => .closeIdleGap h.settle.setFe) fun _ => .ite
    (fun _ => .ite (fun _ => .timeLimitTest h.settle.setFe) fun _ => h.settle.sampledTick) fun _ => h.settle.drainTick

theorem closeGapNow (h : Keeps a s) : Keeps a (closeGapNow s) := .ite (fun _ => h.closeTapGap.liveSyncAll) fun _ => h

theorem writerBurst (h : Keeps a s) : Keeps a (writerBurst s) := by
  unfold Machine.writerBurst
  split
  · exact h.endWrite
  · exact h

theorem readBurst (h : Keeps a s) : Keeps a (readBurst s) := by
  unfold Machine.readBurst
  split
  · exact h.endRead
  · exact h

/-- A change of the controller that brings no debt above 8 (R96). -/
theorem setMc {m : MemCtl} (h : Keeps a s) (hd : s.debtOk → m.debt ≤ 8) : Keeps a { s with mc := m } :=
  ⟨h.pending, h.mem, fun ha => hd (h.debt ha), h.claim, h.con, h.teth⟩

theorem refreshDue (h : Keeps a s) : Keeps a (refreshDue s) :=
  .ite (fun _ => h.setMc fun _ => Nat.min_le_left 8 _) fun _ => h

theorem refreshEnd (h : Keeps a s) : Keeps a (refreshEnd s) := by
  unfold Machine.refreshEnd
  split
  · exact h.setMc fun hd => Nat.le_trans (Nat.sub_le _ 1) hd
  · exact h

/-! ## Events of the display -/

theorem classifyEnd (h : Keeps a s) : Keeps a (classifyEnd s) := .ite (fun _ => h.classifyCells.handOffFrame) fun _ => h

theorem teEvent (h : Keeps a s) : Keeps a (teEvent s) := .pokeBus (.countEvent h.setPanel)

theorem teMissing (h : Keeps a s) : Keeps a (teMissing s) := by
  unfold Machine.teMissing
  refine .pokeBus ?_
  split
  · exact .setPanel (.raiseBoth h.setPanel)
  · exact .raiseBoth h.setPanel

theorem bandWritten (h : Keeps a s) : Keeps a (bandWritten s) := by
  unfold Machine.bandWritten
  split
  · exact .busBoundary (.reportBand h.setPanel)
  · exact h

theorem chunkEnd (h : Keeps a s) : Keeps a (chunkEnd s) := by
  unfold Machine.chunkEnd
  split
  · exact .busEnds h.setPanel
  · exact h

theorem applyOldest (h : Keeps a s) : Keeps a (applyOldest s) := by
  unfold Machine.applyOldest
  split
  · exact .pokeBus (.applyChange h.setPanel)
  · exact h

theorem initDelayEnd (h : Keeps a s) : Keeps a (initDelayEnd s) := by
  unfold Machine.initDelayEnd
  split
  · split
    · exact h.setPanel
    · exact h
  · exact h

theorem panelStartDone (h : Keeps a s) : Keeps a (panelStartDone s) := by
  unfold Machine.panelStartDone
  split
  · exact .ite (fun _ => .busEnds (.reachShowing h.setPanel)) fun _ => h
  · exact h

theorem offEnd (h : Keeps a s) : Keeps a (offEnd s) := by
  unfold Machine.offEnd
  split
  · exact h.busEnds
  · exact h

theorem sleepInEnd (h : Keeps a s) : Keeps a (sleepInEnd s) := by
  unfold Machine.sleepInEnd
  split
  · exact h.busEnds
  · exact h

theorem wakeDelayEnd (h : Keeps a s) : Keeps a (wakeDelayEnd s) := by
  unfold Machine.wakeDelayEnd
  split
  · exact .busEnds (.setPanel (.requestFrame h.setPanel))
  · exact h

/-! ## Events of the power unit -/

theorem releaseReset {n : Nat} (h : Keeps a s) : Keeps a (releaseReset n s) := .ite (fun _ => h.same rfl) fun _ => h

theorem pllLock (h : Keeps a s) : Keeps a (pllLock s) := by
  unfold Machine.pllLock
  refine .ite (fun _ => ?_) fun _ => h
  dsimp only
  split <;> exact h.same rfl

theorem initWaitEnd (h : Keeps a s) : Keeps a (initWaitEnd s) := .ite (fun _ => h.same rfl) fun _ => h

/-- The controller begins to serve, with no debt. -/
theorem serve (h : Keeps a s) : Keeps a { s with mc := s.mc.serve } := h.setMc fun _ => Nat.zero_le 8

theorem initDone {v : List Int} {n : Nat} (h : Keeps a s) : Keeps a (initDone v n s) :=
    .sampleBattery (h.serve.same rfl)

theorem beginWake {n : Nat} (h : Keeps a s) : Keeps a (beginWake n s) := h.same (by simp [State.judged])

theorem enterDormant {n : Nat} (h : Keeps a s) : Keeps a (enterDormant n s) :=
  .ite (fun _ => .beginWake (h.same rfl)) fun _ => h.same rfl

theorem wakeDormantPanel (h : Keeps a s) : Keeps a (wakeDormantPanel s) :=
  .ite (fun _ => .wakePanel h.setPanel) fun _ => h

theorem keptFrame (h : Keeps a s) : Keeps a (keptFrame s) := .ite (fun _ => .latchFrame h.setRender) fun _ => h

theorem finishWake {v : List Int} {n : Nat} (h : Keeps a s) : Keeps a (finishWake v n s) := by
  have awake : Keeps a (Machine.keptFrame (Machine.wakeDormantPanel { s with
      mc := s.mc.serve, fe := s.fe.wake v n, power := { s.power with st := .run },
      render := { s.render with liveCount := 0 } })) := .keptFrame (.wakeDormantPanel (h.serve.same rfl))
  unfold Machine.finishWake
  dsimp only
  split
  · exact .lowTest (.raiseBoth (.ite (fun _ => awake.busReset) fun _ => awake))
  · exact .raiseBoth (.ite (fun _ => awake.busReset) fun _ => awake)

theorem watchEdge {v : List Int} {n : Nat} (h : Keeps a s) : Keeps a (watchEdge v n s) := by
  unfold Machine.watchEdge
  dsimp only
  split
  · exact .ite (fun _ => .recordCause h.setFe) fun _ => h.setFe
  · exact h.setFe

theorem chargerChange {f : Bool} {n : Nat} (h : Keeps a s) : Keeps a (chargerChange f n s) := by
  unfold Machine.chargerChange
  exact .recordCause h.setPower

theorem graceEnd (h : Keeps a s) : Keeps a (graceEnd s) := h.same rfl

/-! ## Every command -/

/-- A command that stands for a request. -/
theorem exec_request {c : Instr} {p : Port} {tag : Tag} {r : Request} (s : State) (hc : c.request? = some (p, tag, r)) :
    ∃ t, exec c s = .next t ∧ Keeps s t := by
  rcases Machine.exec_request s hc with e | e
  · exact ⟨_, e, (refl s).receive⟩
  · exact ⟨_, e, (refl s).receive.conclude⟩

/-- A command's meaning that is one state. -/
theorem next {o : Answer} (e : o = .next t) (h : Keeps s t) : ∃ t, o = .next t ∧ Keeps s t := ⟨t, e, h⟩

theorem exec (c : Instr) (s : State) : ∃ t, exec c s = .next t ∧ Keeps s t := by
  have h := refl s
  cases hr : c.request? with
  | some x => exact exec_request s hr
  | none =>
    cases c with
    | consoleTransaction => exact next rfl h.consoleEnd.conclude
    | shortTransaction => exact next rfl h.consoleEnd.conclude
    | tetherRequestTransfer => exact next rfl (.ite (fun _ => h.takeFrame.conclude) fun _ => h)
    | tetherReplyAck => exact next rfl (.ite (fun _ => h.ackReply.conclude) fun _ => h)
    | streamPacketAck => exact next rfl (.ite (fun _ => h.ackPacket.conclude) fun _ => h)
    | usbConfigure => exact next rfl (.ite (fun _ => h.same rfl) fun _ => h)
    | usbSuspend => exact next rfl (.ite (fun _ => h.same rfl) fun _ => h)
    | usbResume => exact next rfl (.ite (fun _ => h.resumeLink.recordCause.conclude) fun _ => h)
    | usbBusReset => exact next rfl (.ite (fun _ => h.busResetOrDefer.recordCause.conclude) fun _ => h)
    | vbusLoss => exact next rfl (.ite (fun _ => .conclude (.busResetOrDefer (h.same rfl))) fun _ => h)
    | vbusPresent => exact next rfl (h.same rfl)
    | remoteWakeAllow => exact next rfl h.allowRemoteWake
    | remoteWakeForbid => exact next rfl h.allowRemoteWake
    | senseLineChange => exact next rfl (.ite (fun _ => h) fun _ => h.setFe)
    | debounceExpiry => exact next rfl (.ite (fun _ => h.settlePresence) fun _ => h)
    | sampleTick => exact next rfl (.ite (fun _ => h.tickOnce.conclude) fun _ => h)
    | idleExtend stream =>
      cases stream
      · exact next rfl h.extendStaging.conclude
      · exact next rfl h.extendTap.conclude
    | primingEnd => exact next rfl h.endPriming
    | stageTimeout => exact next rfl h.timeoutStage.conclude
    | postfillEnd => exact next rfl h.postfillTest.conclude
    | timeLimit => exact next rfl (.ite (fun _ => h.settle.timeLimitTest.conclude) fun _ => h)
    | lossClose => exact next rfl h.closeLossNow.conclude
    | endLossClose => exact next rfl h.closeHeldEnd.conclude
    | tapGapClose => exact next rfl h.closeGapNow.conclude
    | writerBurstEnd => exact next rfl (.ite (fun _ => h.writerBurst.conclude) fun _ => h)
    | readBurstEnd => exact next rfl (.ite (fun _ => h.readBurst.conclude) fun _ => h)
    | refreshDue => exact next rfl (.ite (fun _ => h.refreshDue.conclude) fun _ => h)
    | refreshEnd => exact next rfl (.ite (fun _ => h.refreshEnd.conclude) fun _ => h)
    | tapEntryConsume => exact next rfl (.ite (fun _ => h.consumeEntry.conclude) fun _ => h)
    | classifyEnd => exact next rfl (.ite (fun _ => h.classifyEnd.conclude) fun _ => h)
    | teEvent => exact next rfl (.ite (fun _ => h.teEvent.conclude) fun _ => h)
    | liveTimerExpiry => exact next rfl (.ite (fun _ => h.countEvent.conclude) fun _ => h)
    | teMissingTimeout => exact next rfl (.ite (fun _ => h.teMissing.conclude) fun _ => h)
    | bandWritten => exact next rfl (.ite (fun _ => h.bandWritten.conclude) fun _ => h)
    | overlayChunkEnd => exact next rfl (.ite (fun _ => h.chunkEnd.conclude) fun _ => h)
    | overlayChangeApply => exact next rfl (.ite (fun _ => h.applyOldest.conclude) fun _ => h)
    | initDelayEnd => exact next rfl (.ite (fun _ => h.initDelayEnd.conclude) fun _ => h)
    | panelStartDone => exact next rfl (.ite (fun _ => h.panelStartDone.conclude) fun _ => h)
    | offSequenceEnd => exact next rfl (.ite (fun _ => h.offEnd.conclude) fun _ => h)
    | sleepInEnd => exact next rfl (.ite (fun _ => h.sleepInEnd.conclude) fun _ => h)
    | wakeDelayEnd => exact next rfl (.ite (fun _ => h.wakeDelayEnd.conclude) fun _ => h)
    | powerOn => exact next rfl h.fullReset
    | resetPin => exact next rfl (.ite (fun _ => h) fun _ => h.fullReset)
    | pllLock => exact next rfl h.pllLock
    | initWaitEnd => exact next rfl h.initWaitEnd
    | sdramInitDone => exact next rfl (.ite (fun _ => h.initDone.conclude) fun _ => h)
    | selfRefreshEntered => exact next rfl (.ite (fun _ => h.enterDormant) fun _ => h)
    | selfRefreshExited => exact next rfl (.ite (fun _ => h.finishWake.conclude) fun _ => h)
    | watchEdge => exact next rfl (.ite (fun _ => h.watchEdge) fun _ => h)
    | wakeTimerExpiry => exact next rfl (.ite (fun _ => h.recordCause) fun _ => h)
    | chargerSenseChange => exact next rfl (.ite (fun _ => h) fun _ => h.chargerChange)
    | batterySample => exact next rfl (.ite (fun _ => .conclude (.sampleBattery h.setPower)) fun _ => h)
    | graceExpiry => exact next rfl (.ite (fun _ => h.graceEnd) fun _ => h)
    | chipSelectAssertion => exact next rfl h.assertSelect
    | resetRelease => exact next rfl h.releaseReset
    | _ => exact absurd hr (by simp [Instr.request?])

end
end Sys2Proof.Machine.Keeps

namespace Sys2Proof.Machine

/-- A step keeps the invariants: it runs the front command on the queue's rest, or idles. -/
theorem step_keeps {s t : State} (h : step s = .next t) : ∃ rest, Keeps { s with pending := rest } t := by
  unfold step at h
  split at h
  · cases h
    exact ⟨s.pending, .refl s⟩
  · rename_i c rest _
    obtain ⟨u, run, keeps⟩ := Keeps.exec c { s with pending := rest }
    rw [run] at h
    cases h
    exact ⟨rest, keeps⟩

/-- Settles O2: every command answers a state that keeps the waiting commands. -/
theorem commandsAnswerAndKeepQueue : Obligations.CommandsAnswerAndKeepQueue := by
  intro c s
  obtain ⟨t, run, keeps⟩ := Keeps.exec c s
  exact ⟨t, run, keeps.pending⟩

/-- Settles O3: the writer's words go into the SDRAM through writes that keep the form; a full reset at most empties
it. -/
theorem stepKeepsMemoryForm : Obligations.StepKeepsMemoryForm := by
  intro s t ok run
  obtain ⟨rest, keeps⟩ := step_keeps run
  exact keeps.mem ok

/-- Settles O4: only REFRESH_DUE raises the debt, up to 8. -/
theorem stepKeepsDebtBound : Obligations.StepKeepsDebtBound := by
  intro s t ok run
  obtain ⟨rest, keeps⟩ := step_keeps run
  exact keeps.debt ok

/-- Settles O5: samples are taken and a sequence goes on only under a claim, and the claim is given up only in IDLE or
with the sequence at its end. -/
theorem stepKeepsClaim : Obligations.StepKeepsClaim := by
  intro s t ok run
  obtain ⟨rest, keeps⟩ := step_keeps run
  exact keeps.claim ok

/-- Settles O6: a raising keeps the order and the counts, and every other change of a set takes kinds away. -/
theorem stepKeepsAlertOrder : Obligations.StepKeepsAlertOrder := by
  intro s t con teth run
  obtain ⟨rest, keeps⟩ := step_keeps run
  exact ⟨keeps.con con, keeps.teth teth⟩

/-- Settles O1: the two branches of the step. -/
theorem stepRunsFrontCommand : Obligations.StepRunsFrontCommand := by
  refine ⟨fun c rest s waiting => ?front, fun s empty => ?idle⟩
  case front => rw [step, waiting]
  case idle => rw [step, empty]

/-- Settles O7: after reset the SDRAM is empty, nothing is owed, nobody holds the claim, and no alert waits. -/
theorem resetMeetsInvariants : Obligations.ResetMeetsInvariants := by
  exact ⟨reset_mem_wf, Nat.zero_le 8, State.claimOk_of_idle rfl rfl, PortState.reset_alertsOk, PortState.reset_alertsOk⟩

end Sys2Proof.Machine
end

section
/-! PROOFS. Requests of the front end and the sequencer: SET_PODS, SET_CLOCK, SET_WATCH (R6, R9, R14) and LOAD_TRIGGER
with the ranges of the arm parameters (R39). -/

namespace Sys2Proof.Machine

/-! ## A request row that is ready -/

/-- A row whose meaning is its request received does what the request's rule says. -/
theorem exec_ready {c : Instr} {p : Port} {tag : Tag} {r : Request} {s : State} (h : s.ready p r)
    (row : exec c s = .next (receive p tag r s)) : exec c s = .next (perform (asking p (Wire.code r) tag) r s) := by
  rw [row, receive_ready h]

/-- The same where the command may give another block something to do. -/
theorem exec_readyActive {c : Instr} {p : Port} {tag : Tag} {r : Request} {s : State} (h : s.ready p r)
    (row : exec c s = .next (receiveActive p tag r s)) :
    exec c s = .next (conclude s (perform (asking p (Wire.code r) tag) r s)) := by
  rw [row, receiveActive_ready h]

/-! ## SET_PODS (R6) -/

theorem newCode_eq {x : Option Int} {old c : Nat} (hs : ∀ v, x = some v → c = thresholdCode v)
    (hn : x = none → c = old) :
    newCode x old = c := by
  cases x with
  | none => exact (hn rfl).symm
  | some v => exact (hs v rfl).symm

theorem doSetPods_idle {q : Asker} {x y : Option Int} {s : State} (h : s.seq.acq = .idle) :
    doSetPods q x y s = answer q .ok
      (.pods (newCode x s.fe.pod0.code) (effectiveThreshold (newCode x s.fe.pod0.code)) s.fe.pod0.present
        (newCode y s.fe.pod1.code) (effectiveThreshold (newCode y s.fe.pod1.code)) s.fe.pod1.present)
      { s with fe := { s.fe with
          pod0 := { s.fe.pod0 with code := newCode x s.fe.pod0.code }
          pod1 := { s.fe.pod1 with code := newCode y s.fe.pod1.code } } } :=
  if_neg (not_not_intro h)

theorem doSetPods_refused {q : Asker} {x y : Option Int} {s : State} (h : s.seq.acq ≠ .idle) :
    doSetPods q x y s = refuse q .wrongState s := if_pos h

/-! ## SET_CLOCK (R9) -/

theorem clampNat_eq (lo hi n : Nat) (h : lo ≤ hi) : clampNat lo hi n = max lo (min hi n) := by
  unfold clampNat
  split
  · omega
  · split <;> omega

theorem effectiveDivider_eq (d : Nat) (mask : Half) : effectiveDivider d mask =
    if max 1 (min 1048576 d) = 1 ∧ mask &&& 0xFF00 ≠ 0 then 2 else max 1 (min 1048576 d) := by
  rw [effectiveDivider, clampNat_eq 1 1048576 d (by decide)]

theorem doSetClock_idle {q : Asker} {d : Nat} {mask : Half} {s : State} (h : s.seq.acq = .idle) :
    doSetClock q d mask s = answer q .ok (.clock (effectiveDivider d mask) mask (effectiveDivider d mask * 2500))
      { s with fe := { s.fe with divider := effectiveDivider d mask, mask := mask } } :=
  if_neg (not_not_intro h)

theorem doSetClock_refused {q : Asker} {d : Nat} {mask : Half} {s : State} (h : s.seq.acq ≠ .idle) :
    doSetClock q d mask s = refuse q .wrongState s := if_pos h

/-! ## SET_WATCH (R14) -/

theorem edgeKind_eq {k : Nat} {e : EdgeKind}
    (h : (k, e) ∈ [(0, EdgeKind.rise), (1, EdgeKind.fall), (2, EdgeKind.either)]) : edgeKind k = some e := by
  simp only [List.mem_cons, Prod.mk.injEq, List.not_mem_nil, or_false] at h
  rcases h with ⟨rfl, rfl⟩ | ⟨rfl, rfl⟩ | ⟨rfl, rfl⟩ <;> rfl

theorem edgeKind_none {k : Nat} (h : 2 < k) : edgeKind k = none := by
  unfold edgeKind
  split
  · omega
  · omega
  · omega
  · rfl

theorem doSetWatch_named {q : Asker} {c k : Nat} {e : EdgeKind} {s : State} (hc : c ≤ 15) (he : edgeKind k = some e) :
    doSetWatch q (some (c, k)) s = answer q .ok .none { s with fe := { s.fe with watch := some (c, e) } } := by
  simp only [doSetWatch, he, if_pos hc]

theorem doSetWatch_refused {q : Asker} {c k : Nat} {s : State} (h : 15 < c ∨ 2 < k) :
    doSetWatch q (some (c, k)) s = refuse q .outOfRange s := by
  unfold doSetWatch
  rcases h with h | h
  · simp only [if_neg (Nat.not_le.mpr h)]
    split <;> rfl
  · simp [edgeKind_none h]

/-- Settles O18: each request, ready, by its own rule in IDLE and elsewhere. -/
theorem setupRequestsResult : Obligations.SetupRequestsResult := by
  refine ⟨fun p tag a b s ready => ?pods, fun p tag d mask s ready => ?clock, fun p tag s => ?watch⟩
  case pods =>
    have run : exec (.setPods p tag a b) s = .next (doSetPods (asking p 1 tag) a b s) := exec_ready ready rfl
    rw [run]
    refine ⟨fun idle c0 c1 some0 none0 some1 none1 => ?_, fun other => ?_⟩
    · rw [doSetPods_idle idle, newCode_eq some0 none0, newCode_eq some1 none1]
    · rw [doSetPods_refused other]
  case clock =>
    have run : exec (.setClock p tag d mask) s = .next (doSetClock (asking p 2 tag) d mask s) := exec_ready ready rfl
    rw [run]
    refine ⟨fun idle => ⟨_, effectiveDivider_eq d mask, ?_⟩, fun other => ?_⟩
    · rw [doSetClock_idle idle]
    · rw [doSetClock_refused other]
  case watch =>
    refine ⟨fun ready => exec_ready ready rfl, fun c k ready => ?_⟩
    have run : exec (.setWatch p tag (some (c, k))) s = .next (doSetWatch (asking p 3 tag) (some (c, k)) s) :=
      exec_ready ready rfl
    rw [run]
    refine ⟨fun e hc he => ?_, fun out => ?_⟩
    · rw [doSetWatch_named hc (edgeKind_eq he)]
    · rw [doSetWatch_refused out]

/-! ## LOAD_TRIGGER (R39) -/

theorem Target.inRange_iff {g : Target} : Target.inRange g = true ↔ g = .final ∨ ∃ k, k ≤ 3 ∧ g = .stage k := by
  cases g <;> simp [Target.inRange]

theorem Qualifier.inRange_iff {q : Qualifier} : Qualifier.inRange q = true ↔
    q = .none ∨ ∃ n, 1 ≤ n ∧ n ≤ 65535 ∧ (q = .heldAtLeast n ∨ q = .heldLessThan n) := by
  cases q <;> simp [Qualifier.inRange]

theorem ChanCond.known_iff {cs : List ChanCond} : cs.contains .unknown = false ↔
    ∀ c ∈ cs, c = .ignore ∨ c = .low ∨ c = .high ∨ c = .rise ∨ c = .fall ∨ c = .edge := by
  rw [← Bool.not_eq_true, List.contains_iff_mem]
  refine ⟨fun h c hc => ?_, fun h hc => ?_⟩
  · cases c with
    | unknown => exact absurd hc h
    | _ => simp
  · simpa using h _ hc

/-- The ranges of a stage by its condition (R39). -/
theorem stageInRange_iff {g : Stage} : stageInRange g = true ↔ 1 ≤ g.count ∧ g.count ≤ 65535 ∧ g.timeout < 2 ^ 32 ∧
    (g.next = .final ∨ ∃ k, k ≤ 3 ∧ g.next = .stage k) ∧
    (g.timeoutTarget = .final ∨ ∃ k, k ≤ 3 ∧ g.timeoutTarget = .stage k) ∧
    ((∃ cs, g.cond = .pattern cs ∧ cs.length = 16 ∧
        (∀ c ∈ cs, c = .ignore ∨ c = .low ∨ c = .high ∨ c = .rise ∨ c = .fall ∨ c = .edge) ∧
        (g.qualifier = .none ∨ ∃ n, 1 ≤ n ∧ n ≤ 65535 ∧
          (g.qualifier = .heldAtLeast n ∨ g.qualifier = .heldLessThan n))) ∨
      (∃ slot kind value mask, g.cond = .decoder slot kind value mask ∧ slot ≤ 3 ∧ value ≤ 65535 ∧ mask ≤ 65535 ∧
        g.qualifier = .none)) := by
  rw [← Target.inRange_iff, ← Target.inRange_iff, ← Qualifier.inRange_iff]
  have timeout : g.timeout < 2 ^ 32 ↔ g.timeout ≤ 4294967295 := by omega
  rw [timeout]
  cases hc : g.cond with
  | pattern cs =>
    simp only [stageInRange, hc, StageCond.pattern.injEq, exists_eq_left', reduceCtorEq, false_and, exists_false,
      or_false, ← ChanCond.known_iff, Bool.and_eq_true, decide_eq_true_eq, Bool.not_eq_true']
    exact ⟨fun ⟨⟨⟨⟨⟨⟨⟨len, known⟩, qual⟩, low⟩, high⟩, next⟩, after⟩, time⟩ =>
        ⟨low, high, time, next, after, len, known, qual⟩,
      fun ⟨low, high, time, next, after, len, known, qual⟩ =>
        ⟨⟨⟨⟨⟨⟨⟨len, known⟩, qual⟩, low⟩, high⟩, next⟩, after⟩, time⟩⟩
  | decoder slot kind value mask =>
    have unqualified : g.qualifier = .none → Qualifier.inRange g.qualifier = true := fun e => by rw [e]; rfl
    simp only [stageInRange, hc, StageCond.decoder.injEq, reduceCtorEq, false_and, exists_false, false_or,
      Bool.and_eq_true, decide_eq_true_eq]
    constructor
    · rintro ⟨⟨⟨⟨⟨⟨⟨⟨⟨hs, hv⟩, hm⟩, hq⟩, _⟩, low⟩, high⟩, next⟩, after⟩, time⟩
      exact ⟨low, high, time, next, after, slot, kind, value, mask, ⟨rfl, rfl, rfl, rfl⟩, hs, hv, hm, hq⟩
    · rintro ⟨low, high, time, next, after, _, _, _, _, ⟨rfl, rfl, rfl, rfl⟩, hs, hv, hm, hq⟩
      exact ⟨⟨⟨⟨⟨⟨⟨⟨⟨hs, hv⟩, hm⟩, hq⟩, unqualified hq⟩, low⟩, high⟩, next⟩, after⟩, time⟩

theorem Switch.known_iff {x : Switch} : x ≠ .unknown ↔ x = .on ∨ x = .off := by
  cases x <;> simp

/-- The ranges of a set of arm parameters (R39). -/
theorem paramsInRange_iff {a : ArmParams} : paramsInRange a = true ↔
    a.wPre < 2 ^ 46 ∧ 1 ≤ a.bPre ∧ a.bPre ≤ 511 ∧ a.pPost < 2 ^ 46 ∧ (a.reclaim = .on ∨ a.reclaim = .off) ∧
    1 ≤ a.sequence ∧ a.sequence ≤ 16 ∧ a.stages.length = 4 ∧ ∀ g ∈ a.stages, stageInRange g = true := by
  have pre : a.wPre < 2 ^ 46 ↔ a.wPre ≤ 70368744177663 := by omega
  have post : a.pPost < 2 ^ 46 ↔ a.pPost ≤ 70368744177663 := by omega
  rw [pre, post, ← Switch.known_iff]
  simp only [paramsInRange, Bool.and_eq_true, decide_eq_true_eq, List.all_eq_true, and_assoc, ne_eq,
    decide_not, Bool.not_eq_true', decide_eq_false_iff_not]

theorem doLoadTrigger_taken {q : Asker} {a : ArmParams} {s : State} (h : s.seq.acq = .idle)
    (hr : paramsInRange a = true) :
    doLoadTrigger q a s = answer q .ok .none { s with seq := { s.seq with params := a } } := by
  rw [doLoadTrigger, if_neg (not_not_intro h), if_pos hr]

theorem doLoadTrigger_outOfRange {q : Asker} {a : ArmParams} {s : State} (h : s.seq.acq = .idle)
    (hr : paramsInRange a = false) : doLoadTrigger q a s = refuse q .outOfRange s := by
  rw [doLoadTrigger, if_neg (not_not_intro h), if_neg (by simp [hr])]

theorem doLoadTrigger_refused {q : Asker} {a : ArmParams} {s : State} (h : s.seq.acq ≠ .idle) :
    doLoadTrigger q a s = refuse q .wrongState s := if_pos h

/-- Settles O19: the request in IDLE by its ranges, elsewhere refused; the ranges field by field. -/
theorem loadTriggerResult : Obligations.LoadTriggerResult := by
  refine ⟨fun p tag a s ready => ?request, fun a => ?ranges⟩
  case request =>
    have run : exec (.loadTrigger p tag a) s = .next (doLoadTrigger (asking p 4 tag) a s) := exec_ready ready rfl
    rw [run]
    refine ⟨fun idle good => ?_, fun idle bad => ?_, fun other => ?_⟩
    · rw [doLoadTrigger_taken idle good]
    · rw [doLoadTrigger_outOfRange idle bad]
    · rw [doLoadTrigger_refused other]
  case ranges =>
    simp only [paramsInRange_iff, stageInRange_iff]

end Sys2Proof.Machine
end

section
/-! PROOFS. Bytes (R212): what a field of `n` bytes spells, where the fields of a header stand, and the entry's 20 bytes
(R217). -/

namespace Sys2Proof.Machine

/-! ## Fields, least significant byte first -/

@[simp] theorem length_leBytes (n v : Nat) : (leBytes n v).length = n := by
  induction n generalizing v with
  | zero => rfl
  | succ n ih => simp [leBytes, ih]

theorem getElem?_leBytes {n j : Nat} (v : Nat) (h : j < n) : (leBytes n v)[j]? =
    some (BitVec.ofNat 8 (v / 256 ^ j)) := by
  induction n generalizing v j with
  | zero => omega
  | succ n ih =>
    cases j with
    | zero => simp [leBytes]
    | succ j =>
      rw [leBytes, List.getElem?_cons_succ, ih _ (by omega), Nat.div_div_eq_div_mul, Nat.pow_succ']

theorem leNat_leBytes (n v : Nat) : leNat (leBytes n v) = v % 256 ^ n := by
  induction n generalizing v with
  | zero => simp [leBytes, leNat, Nat.mod_one]
  | succ n ih =>
    have split : v % 256 ^ (n + 1) = v % 256 + 256 * (v / 256 % 256 ^ n) := by rw [Nat.pow_succ', Nat.mod_mul]
    rw [leBytes, leNat, ih, BitVec.toNat_ofNat, split]

/-! ## Headers -/

/-- The bytes of fields that follow one another, each with its width and value. -/
def packed (fields : List (Nat × Nat)) : List Byte := fields.flatMap fun f => leBytes f.1 f.2

/-- The offset, width and value of each field, the first at `o`. -/
def placedFields : Nat → List (Nat × Nat) → List (Nat × Nat × Nat)
  | _, [] => []
  | o, f :: fs => (o, f.1, f.2) :: placedFields (o + f.1) fs

theorem length_packed (fields : List (Nat × Nat)) : (packed fields).length = (fields.map (·.1)).sum := by
  simp [packed, List.length_flatMap]

theorem placedFields_le {fields : List (Nat × Nat)} {b o w v : Nat} (h : (o, w, v) ∈ placedFields b fields) :
    b ≤ o := by
  induction fields generalizing b with
  | nil => simp [placedFields] at h
  | cons f fs ih =>
    rcases List.mem_cons.mp h with e | h
    · simp_all
    · exact Nat.le_trans (Nat.le_add_right b f.1) (ih h)

/-- Each field stands at its place. -/
theorem getElem?_packed {fields : List (Nat × Nat)} {b o w v j : Nat} (h : (o, w, v) ∈ placedFields b fields)
    (hj : j < w) :
    (packed fields)[o - b + j]? = some (BitVec.ofNat 8 (v / 256 ^ j)) := by
  induction fields generalizing b with
  | nil => simp [placedFields] at h
  | cons f fs ih =>
    have first : packed (f :: fs) = leBytes f.1 f.2 ++ packed fs := by simp [packed]
    rw [first]
    rcases List.mem_cons.mp h with e | h
    · obtain ⟨rfl, rfl, rfl⟩ := e
      rw [Nat.sub_self, Nat.zero_add, List.getElem?_append_left (by simpa using hj), getElem?_leBytes _ hj]
    · have after := placedFields_le h
      rw [List.getElem?_append_right (by simp; omega), length_leBytes, ← ih h]
      congr 1
      omega

/-! ## Entries of 20 bytes (R217) -/

/-- Settles O13: the fields of the entry in their order. -/
theorem exportEntryBytes : Obligations.ExportEntryBytes := by
  intro e
  refine ⟨rfl, rfl, fun _ => rfl, leNat_leBytes 6 e.start, leNat_leBytes 6 e.stop, leNat_leBytes 2 e.value,
    leNat_leBytes 2 (e.aux.getD 0)⟩

end Sys2Proof.Machine
end

section
/-! PROOFS. The capture store: the STORE_LOW threshold (R80, R81), DROP, KEEP and UNKEEP (R77, R78), freed segments,
pins and withdrawn reads (R64, R74, R76, R101, R136). -/

namespace Sys2Proof.Machine

/-! ## The STORE_LOW test (R80) -/

theorem storeLowTest_raises {s : State} (h : s.store.armed = true) (low : s.store.freeCount < s.store.low) :
    storeLowTest s = raiseBoth .storeLow s.store.freeCount { s with store := { s.store with armed := false } } := by
  rw [storeLowTest, if_pos h, if_pos low]

theorem storeLowTest_watching {s : State} (h : s.store.armed = true) (enough : s.store.low ≤ s.store.freeCount) :
    storeLowTest s = s := by
  rw [storeLowTest, if_pos h, if_neg (Nat.not_lt.mpr enough)]

theorem storeLowTest_arms {s : State} (h : s.store.armed = false) (enough : s.store.low ≤ s.store.freeCount) :
    storeLowTest s = { s with store := { s.store with armed := true } } := by
  rw [storeLowTest, if_neg (by simp [h]), if_pos enough]

theorem storeLowTest_disarmed {s : State} (h : s.store.armed = false) (low : s.store.freeCount < s.store.low) :
    storeLowTest s = s := by
  rw [storeLowTest, if_neg (by simp [h]), if_neg (Nat.not_le.mpr low)]

/-- Settles O23: the four outcomes of the test with the new threshold. -/
theorem setStoreLowResult : Obligations.SetStoreLowResult := by
  rintro p tag n s ready free low rfl rfl
  have run : exec (.setStoreLow p tag n) s = .next (doSetStoreLow (asking p 8 tag) n s) := exec_ready ready rfl
  rw [run, doSetStoreLow]
  refine ⟨fun armed less => ?_, fun armed more => ?_, fun disarmed more => ?_, fun disarmed less => ?_⟩
  · rw [storeLowTest_raises (s := { s with store := { s.store with low := min 512 n } }) armed less]; rfl
  · rw [storeLowTest_watching (s := { s with store := { s.store with low := min 512 n } }) armed more]
    exact congrArg (fun b => Host.Outcome.next (answer (asking p 8 tag) .ok (.storeLow _ _ b) _)) armed
  · rw [storeLowTest_arms (s := { s with store := { s.store with low := min 512 n } }) disarmed more]; rfl
  · rw [storeLowTest_disarmed (s := { s with store := { s.store with low := min 512 n } }) disarmed less]
    exact congrArg (fun b => Host.Outcome.next (answer (asking p 8 tag) .ok (.storeLow _ _ b) _)) disarmed

/-! ## DROP, KEEP and UNKEEP (R77, R78) -/

theorem noSegment_iff {s : State} {n : Nat} : s.noSegment n = true ↔ 15 < n ∨ (s.seg n).state = .empty := by
  simp [State.noSegment]

theorem noSegment_false {s : State} {n : Nat} (hn : n ≤ 15) (h : (s.seg n).state ≠ .empty) : s.noSegment n = false := by
  simp [State.noSegment, h, hn]

theorem foreign_iff {e : Segment} {p : Port} : e.foreign p = true ↔ e.owner = some (other p) := by
  simp [Segment.foreign]

/-- The first two checks of R77 and R78 passed. -/
structure OwnSegment (s : State) (p : Port) (n : Nat) : Prop where
  present : s.noSegment n = false
  own : (s.seg n).foreign p = false

theorem OwnSegment.of {s : State} {p : Port} {n : Nat} (hn : n ≤ 15) (h : (s.seg n).state ≠ .empty)
    (ho : (s.seg n).owner ≠ some (other p)) : OwnSegment s p n :=
  ⟨noSegment_false hn h, by rwa [← Bool.not_eq_true, foreign_iff]⟩

section
variable {q : Asker} {n : Nat} {s : State}

theorem doDrop_noSuch (h : 15 < n ∨ (s.seg n).state = .empty) : doDrop q n s = refuse q .noSuch s :=
  if_pos (noSegment_iff.mpr h)

theorem doDrop_foreign (hn : n ≤ 15) (h : (s.seg n).state ≠ .empty) (ho : (s.seg n).owner = some (other q.port)) :
    doDrop q n s = refuse q .foreign s := by
  rw [doDrop, noSegment_false hn h, if_neg (by simp), if_pos (foreign_iff.mpr ho)]

theorem doDrop_filling (h : OwnSegment s q.port n) (hs : (s.seg n).state = .filling) :
    doDrop q n s = refuse q .wrongState s := by
  simp only [doDrop, h.present, h.own, hs, Bool.false_eq_true, if_false]

theorem doDrop_pinned (h : OwnSegment s q.port n) (hs : (s.seg n).state = .sealed) (hp : (s.seg n).pins.any = true) :
    doDrop q n s = answer q .ok (.dropped .releasing) (s.setSeg n { s.seg n with state := .releasing }) := by
  simp only [doDrop, h.present, h.own, hs, hp, Bool.false_eq_true, if_false, if_true]

theorem doDrop_unpinned (h : OwnSegment s q.port n) (hs : (s.seg n).state = .sealed) (hp : (s.seg n).pins.any = false) :
    doDrop q n s = answer q .ok (.dropped .empty) (freeSegment n s) := by
  simp only [doDrop, h.present, h.own, hs, hp, Bool.false_eq_true, if_false]

theorem doDrop_releasing (h : OwnSegment s q.port n) (hs : (s.seg n).state = .releasing) :
    doDrop q n s = answer q .ok (.dropped .releasing) s := by
  simp only [doDrop, h.present, h.own, hs, Bool.false_eq_true, if_false]

theorem setKept_noSuch {f : Bool} (h : 15 < n ∨ (s.seg n).state = .empty) : setKept f q n s = refuse q .noSuch s :=
  if_pos (noSegment_iff.mpr h)

theorem setKept_foreign {f : Bool} (hn : n ≤ 15) (h : (s.seg n).state ≠ .empty)
    (ho : (s.seg n).owner = some (other q.port)) : setKept f q n s = refuse q .foreign s := by
  rw [setKept, noSegment_false hn h, if_neg (by simp), if_pos (foreign_iff.mpr ho)]

theorem setKept_releasing {f : Bool} (h : OwnSegment s q.port n) (hr : (s.seg n).state = .releasing) :
    setKept f q n s = refuse q .wrongState s := by
  rw [setKept, h.present, h.own, if_neg (by simp), if_neg (by simp), if_pos hr]

theorem setKept_set {f : Bool} (h : OwnSegment s q.port n) (hr : (s.seg n).state ≠ .releasing) :
    setKept f q n s = answer q .ok (.kept f) (s.setSeg n { s.seg n with kept := f }) := by
  rw [setKept, h.present, h.own, if_neg (by simp), if_neg (by simp), if_neg hr]

end

/-- Settles O24: each request by its checks in order, then by the state of the segment. -/
theorem dropKeepResult : Obligations.DropKeepResult := by
  refine ⟨fun p tag n s ready => ?drop, fun p tag n s ready c k flag hc => ?kept⟩
  case drop =>
    have run : exec (.drop p tag n) s = .next (doDrop (asking p 9 tag) n s) := exec_ready ready rfl
    rw [run]
    refine ⟨fun none => ?_, fun hn he ho => ?_, fun hn hs ho => ?_, fun hn hs ho hp => ?_, fun hn hs ho hp => ?_,
      fun hn hs ho => ?_⟩
    · rw [doDrop_noSuch none]
    · rw [doDrop_foreign hn he ho]
    · rw [doDrop_filling (.of hn (by simp [hs]) ho) hs]
    · rw [doDrop_unpinned (.of hn (by simp [hs]) ho) hs hp]
    · rw [doDrop_pinned (.of hn (by simp [hs]) ho) hs hp]
      rfl
    · rw [doDrop_releasing (.of hn (by simp [hs]) ho) hs]
  case kept =>
    have ready' : s.ready p (.unkeep n) := ready_of_alike ready rfl rfl
    have run : exec c s = .next (setKept flag (asking p k tag) n s) := by
      simp only [List.mem_cons, Prod.mk.injEq, List.not_mem_nil, or_false] at hc
      rcases hc with ⟨rfl, rfl, rfl⟩ | ⟨rfl, rfl, rfl⟩
      · exact exec_ready ready rfl
      · exact exec_ready ready' rfl
    rw [run]
    refine ⟨fun hn hs ho => ?_, fun none => ?_, fun hn he ho => ?_, fun hn hs ho => ?_⟩
    · have live : (s.seg n).state ≠ .empty ∧ (s.seg n).state ≠ .releasing := by rcases hs with e | e <;> simp [e]
      rw [setKept_set (.of hn live.1 ho) live.2]
      rfl
    · rw [setKept_noSuch none]
    · rw [setKept_foreign hn he ho]
    · rw [setKept_releasing (.of hn (by simp [hs]) ho) hs]

/-! ## Alerts recorded (R200) -/

/-- The alert set holds kind `k` with argument `arg`. -/
def PortState.records (q : PortState) (k : AlertKind) (arg : Nat) : Prop := ∃ a ∈ q.alerts, a.kind = k ∧ a.arg = arg

theorem mem_recordAlert_self (k : AlertKind) (arg : Nat) (l : List Alert) :
    ∃ a ∈ recordAlert k arg l, a.kind = k ∧ a.arg = arg := by
  induction l with
  | nil => exact ⟨_, List.mem_singleton_self _, rfl, rfl⟩
  | cons b l ih =>
    unfold recordAlert
    split
    · exact ⟨_, List.mem_cons_self, rfl, rfl⟩
    · split
      · exact ⟨_, List.mem_cons_self, rfl, rfl⟩
      · obtain ⟨a, ha, e⟩ := ih
        exact ⟨a, List.mem_cons_of_mem _ ha, e⟩

theorem mem_recordAlert_of_mem {k : AlertKind} {arg : Nat} {l : List Alert} {a : Alert} (h : a ∈ l) (hk : a.kind ≠ k) :
    a ∈ recordAlert k arg l := by
  induction l with
  | nil => simp at h
  | cons b l ih =>
    unfold recordAlert
    split
    · rename_i hb
      rcases List.mem_cons.mp h with rfl | h
      · exact absurd hb hk
      · exact List.mem_cons_of_mem _ h
    · split
      · exact List.mem_cons_of_mem _ h
      · rcases List.mem_cons.mp h with rfl | h
        · exact List.mem_cons_self
        · exact List.mem_cons_of_mem _ (ih h)

theorem PortState.raised_records {q : PortState} {k : AlertKind} (arg : Nat) (h : q.level k ≠ .off) :
    (q.raised k arg).records k arg := by
  rw [PortState.raised, if_neg h]
  exact mem_recordAlert_self k arg q.alerts

theorem PortState.records.raised {q : PortState} {j k : AlertKind} {arg : Nat} (h : q.records k arg) (n : Nat)
    (hk : k ≠ j) : (q.raised j n).records k arg := by
  obtain ⟨a, ha, rfl, rfl⟩ := h
  unfold PortState.raised
  split
  · exact ⟨a, ha, rfl, rfl⟩
  · exact ⟨a, mem_recordAlert_of_mem ha hk, rfl, rfl⟩

theorem PortState.level_congr {q r : PortState} (h : q.levels = r.levels) (k : AlertKind) : q.level k = r.level k := by
  rw [PortState.level, PortState.level, h]

/-- The STORE_LOW test loses no other kind from a port's set. -/
theorem records_storeLowTest {s : State} {p : Port} {k : AlertKind} {arg : Nat} (h : (s.ports.port p).records k arg)
    (hk : k ≠ .storeLow) : ((storeLowTest s).ports.port p).records k arg := by
  rcases storeLowTest_eq s with e | e | e <;> rw [e]
  · exact h
  · exact h
  · cases p
    · exact h.raised _ hk
    · exact h.raised _ hk

theorem raiseBoth_records {s : State} {p : Port} {k : AlertKind} (arg : Nat) (h : (s.ports.port p).level k ≠ .off) :
    ((raiseBoth k arg s).ports.port p).records k arg := by
  cases p
  · exact PortState.raised_records arg h
  · exact PortState.raised_records arg h

/-! ## Freed segments (R64, R136) -/

theorem removeNotes_notesOf {k : Nat} {keep : Note → Bool} {s : State} (h : k < s.notes.length) (j : Nat) :
    (removeNotes k keep s).notesOf j = if j = k then (s.notesOf k).filter keep else s.notesOf j := by
  have list : (removeNotes k keep s).notes = s.notes.set k ((s.notesOf k).filter keep) := by simp [removeNotes]
  rw [State.notesOf, list]
  split
  · rename_i e
    rw [e]
    exact getD_set_self _ _ _ _ h
  · exact getD_set_ne _ _ _ (by assumption)

theorem removeNotes_length (k : Nat) (keep : Note → Bool) (s : State) : (removeNotes k keep s).notes.length =
    s.notes.length := by
  simp [removeNotes]

/-- Annotations on the segment leave all four lists (R136). -/
theorem purgeSegment_notesOf {n k : Nat} {s : State} (h : s.notes.length = 4) (hk : k < 4) :
    (purgeSegment n s).notesOf k = (s.notesOf k).filter fun e => e.seg ≠ n := by
  have pumped : ∀ t : State, (pumpTether t).notesOf k = t.notesOf k := fun t => by simp [State.notesOf]
  rw [purgeSegment, pumped]
  obtain rfl | rfl | rfl | rfl : k = 0 ∨ k = 1 ∨ k = 2 ∨ k = 3 := by omega
  all_goals simp [removeNotes_notesOf, removeNotes_length, h]

/-- Where the alerts of a freed segment are raised. -/
theorem freeSegment_records {n : Nat} {p : Port} {s : State} (h : (s.ports.port p).level .segmentGone ≠ .off) :
    ((freeSegment n s).ports.port p).records .segmentGone n := by
  refine records_storeLowTest (raiseBoth_records n ?_) (by decide)
  rwa [PortState.level_congr (r := s.ports.port p)]
  cases p <;> simp [Ports.port]

theorem Pins.any_iff {q : Pins} : q.any = true ↔
    q.view = true ∨ q.decode ≠ 0 ∨ q.measure = true ∨ q.readConsole = true ∨ q.readTether = true := by
  simp only [Pins.any, Bool.or_eq_true, decide_eq_true_eq, ne_eq, or_assoc]

/-! ## Pins and withdrawn reads (R74, R76, R101) -/

theorem dropPin_frees {n : Nat} {f : Pins → Pins} {s : State} (h : (s.seg n).state = .releasing)
    (hf : (f (s.seg n).pins).any = false) :
    dropPin n f s = freeSegment n (s.setSeg n { s.seg n with pins := f (s.seg n).pins }) :=
  if_pos (by simp [h, hf])

theorem dropPin_keeps {n : Nat} {f : Pins → Pins} {s : State}
    (h : (s.seg n).state ≠ .releasing ∨ (f (s.seg n).pins).any = true) :
    dropPin n f s = s.setSeg n { s.seg n with pins := f (s.seg n).pins } :=
  if_neg (by rcases h with h | h <;> simp [h])

theorem withdraw_flight_named {q : Requester} {k : Nat} {s : State} {b : ReadBurst} (h : s.mc.flight = some (.read b))
    (hq : b.req = q) (hk : b.slot = k) : (withdraw q k s).mc.flight = some (.read { b with discard := true }) := by
  simp only [withdraw, h, hq, hk, and_self, if_true]

theorem withdraw_flight_other {q : Requester} {k : Nat} {s : State}
    (h : ∀ b, s.mc.flight = some (.read b) → b.req ≠ q ∨ b.slot ≠ k) : (withdraw q k s).mc.flight = s.mc.flight := by
  simp only [withdraw]
  split
  · rename_i b hb
    rw [if_neg fun e => (h b hb).elim (absurd e.1) (absurd e.2)]
  · rfl

/-- Settles O25: what a freed segment leaves behind, when a pin is set, a dropped pin, a withdrawal. -/
theorem freedSegment : Obligations.FreedSegment := by
  refine ⟨fun n s hn notes => ?freed, fun q => Pins.any_iff, fun n f s u hu => ?pin, fun q k s t ht => ?withdrawn⟩
  case freed =>
    refine ⟨?_, fun m hm => ?_, by simp [freeSegment], fun k hk => ?_, by simp, by simp,
      freeSegment_records (p := .console),
      freeSegment_records (p := .tether)⟩
    · rw [freeSegment_seg, if_pos ⟨rfl, hn⟩]
    · rw [freeSegment_seg, if_neg fun e => hm e.1]
    · have purged : (freeSegment n s).notesOf k = (purgeSegment n { s with store := { s.store with
          freeList := s.store.freeList ++ (s.seg n).chain, segs := s.store.segs.set n Segment.empty } }).notesOf k := by
        simp [freeSegment, State.notesOf]
      exact purged.trans (purgeSegment_notesOf (by exact notes) hk)
  case pin =>
    subst hu
    exact ⟨dropPin_frees, dropPin_keeps⟩
  case withdrawn =>
    subst ht
    refine ⟨rfl, fun r => ?_, fun b => withdraw_flight_named, withdraw_flight_other⟩
    simp only [withdraw, List.mem_filter, Bool.not_eq_true', Bool.and_eq_false_iff, decide_eq_false_iff_not, ne_eq]

end Sys2Proof.Machine
end

section
/-! PROOFS. Thresholds (R5), record places (R87), requests turned away (R188, R193, R207). -/

namespace Sys2Proof.Machine

/-! ## Thresholds (R5) -/

theorem clampThreshold_bounds (v : Int) : -3000 ≤ clampThreshold v ∧ clampThreshold v ≤ 5000 := by
  unfold clampThreshold
  split
  · omega
  · split <;> omega

/-- The code as an integer: the rounding of R5 never goes below 0. -/
theorem thresholdCode_cast (v : Int) : (thresholdCode v : Int) = ((clampThreshold v + 3000) * 4095 + 4000) / 8000 := by
  obtain ⟨low, _⟩ := clampThreshold_bounds v
  rw [thresholdCode]
  omega

theorem effectiveThreshold_eq (code : Nat) : effectiveThreshold code = ((code : Int) * 8000 + 2047) / 4095 - 3000 := by
  rw [effectiveThreshold]
  omega

/-- Settles O12: the bounds of the clamped request carried through the two roundings. -/
theorem thresholdConversion : Obligations.ThresholdConversion := by
  refine ⟨fun v => ?bounds, fun v => rfl, by decide, by decide⟩
  obtain ⟨low, high⟩ := clampThreshold_bounds v
  have code := thresholdCode_cast v
  have back := effectiveThreshold_eq (thresholdCode v)
  exact ⟨by omega, code, back, by omega, by omega⟩

/-! ## Record places (R87) -/

/-- A word written half by half reads as the word, and no other halfword changes. -/
theorem readHalf_writeWord {m : Memory} (hw : m.wf = true) (b p h : Nat) (w : Word) :
    readHalf (writeWord m b p w) h = if h = placeHalf b p + 1 then w.extractLsb' 16 16
      else if h = placeHalf b p then w.extractLsb' 0 16 else readHalf m h := by
  rw [writeWord, readHalf_writeHalf (writeHalf_wf _ _ hw), readHalf_writeHalf hw]

theorem word_halves (w : Word) : w.extractLsb' 16 16 ++ w.extractLsb' 0 16 = w := by
  apply BitVec.eq_of_getLsbD_eq
  intro i hi
  rw [BitVec.getLsbD_append]
  split
  · simp [*]
  · simp
    grind

theorem readWord_writeWord {m : Memory} (hw : m.wf = true) {b p c r : Nat} (hp : p < 16384) (hr : r < 16384)
    (w : Word) :
    readWord (writeWord m b p w) c r = if c = b ∧ r = p then w else readWord m c r := by
  rw [readWord, readHalf_writeWord hw, readHalf_writeWord hw]
  unfold placeHalf
  by_cases same : c = b ∧ r = p
  · obtain ⟨rfl, rfl⟩ := same
    rw [if_pos rfl, if_neg (by omega), if_pos rfl, word_halves, if_pos ⟨rfl, rfl⟩]
  · rw [if_neg (by omega), if_neg (by omega), if_neg (by omega), if_neg (by omega), if_neg same]
    rfl

/-- Settles O14: a place's two halfwords, and the arithmetic of their address. -/
theorem recordPlacesAreSeparate : Obligations.RecordPlacesAreSeparate := by
  refine ⟨fun m b p c r w hw hp hr => readWord_writeWord hw hp hr w, ?bytes, ?place, fun h => ⟨rfl, rfl, rfl⟩⟩
  case bytes =>
    rintro m b p h rfl
    rw [readWord, readHalf, readHalf, placeHalf]
    exact BitVec.append_assoc.trans (BitVec.cast_eq _ _)
  case place =>
    rintro b p h hp rfl
    refine ⟨rfl, ?_⟩
    unfold columnAt columnOf bankAt bankOf rowAtHalf rowOf
    omega

/-! ## Requests turned away (R188, R193, R207) -/

section
variable {s : State} {p : Port} {tag : Tag} {r : Request}

theorem receive_busy (h : s.receives p = true) (busy : s.busy p r = true) :
    receive p tag r s = refuse (asking p (Wire.code r) tag) .wrongState s := by
  rw [receive, if_pos h, take, if_pos busy]
  rfl

theorem receive_unclaimed {st : Status} (h : s.receives p = true) (busy : s.busy p r = false)
    (check : claimCheck p r s = some st) : receive p tag r s = refuse (asking p (Wire.code r) tag) st s := by
  simp only [receive, h, take, busy, check, if_true, Bool.false_eq_true, if_false]
  rfl

end

theorem exec_request_eq {c : Instr} {p : Port} {tag : Tag} {r : Request} {s t : State}
    (h : c.request? = some (p, tag, r)) (ht : receive p tag r s = t) :
    exec c s = .next t ∨ exec c s = .next (conclude s t) := ht ▸ exec_request s h

theorem other_ne (p : Port) : other p ≠ p := by cases p <;> decide

/-- Settles O17: the reception, the two checks before a request is performed, and what an answer is. -/
theorem requestsTurnedAway : Obligations.RequestsTurnedAway := by
  refine ⟨fun c p tag r s h => ⟨fun off => ?_, fun on busy => ?_, fun on idle claim none => ?_,
    fun on idle claim held => ?_⟩, fun q st body s => ⟨fun port => ?_, fun port => ?_⟩⟩
  · exact exec_request_eq h (receive_absent off)
  · exact exec_request_eq h (receive_busy on busy)
  · exact exec_request_eq h (receive_unclaimed on idle (by simp [claimCheck, claim, none]))
  · exact exec_request_eq h (receive_unclaimed on idle (by simp [claimCheck, claim, held, other_ne]))
  · rw [answer, port]; rfl
  · rw [answer, port]; rfl

end Sys2Proof.Machine
end

section
/-! PROOFS. Requests of the ports and the power unit: the status queries (R59, R85, R132, R169, R186, R211), the claim
(R195), alerts (R200 to R202), DOZE, WAKE_CAUSES_CLEAR and SET_BATTERY (R206, R207, R209). -/

namespace Sys2Proof.Machine

/-! ## Status queries -/

/-- A status query is answered whenever its port receives requests. -/
theorem exec_served {c : Instr} {p : Port} {tag : Tag} {r : Request} {s : State} (h : s.receives p = true)
    (always : r.alwaysServed = true) (free : r.needsClaim = false) (row : exec c s = .next (receive p tag r s)) :
    exec c s = .next (perform (asking p (Wire.code r) tag) r s) :=
  exec_ready ⟨h, by simp [State.busy, always], by simp [claimCheck, free]⟩ row

/-- The grace left is what the last sample left, less what has passed of the running sample period. -/
def graceLeft (s : State) : Option Nat := s.power.grace.map fun g => g - Config.graceElapsed s.free % 250

theorem graceLeft_bounds {s : State} {g : Nat} (h : s.power.grace = some g) :
    ∃ m, graceLeft s = some m ∧ m ≤ g ∧ g < m + 250 :=
  ⟨g - Config.graceElapsed s.free % 250, by rw [graceLeft, h]; rfl, Nat.sub_le .., by omega⟩

theorem doPowerStatus_eq (q : Asker) (s : State) : doPowerStatus q s = answer q .ok
    (.power s.power.st s.power.cause s.power.wake s.power.reading s.power.charger s.power.low s.power.cutoff
      s.power.lowArmed (graceLeft s) s.mc.st) { s with free := if s.power.grace.isSome then s.free + 1 else s.free } :=
        rfl

theorem trigger_eq_bind (s : State) : s.trigger = s.seq.seg.bind fun n => (s.seg n).trigger := by
  cases h : s.seq.seg <;> simp [State.trigger, h]

/-- Settles O39: each query is its answer; the grace by whether one runs; a report by whether its entry fills. -/
theorem statusQueriesAnswered : Obligations.StatusQueriesAnswered := by
  refine ⟨fun p tag s h => ⟨?_, ?_, ?_, ?_, ?_⟩, fun p tag s h => ?power, fun e => ?report⟩
  case power =>
    refine ⟨graceLeft s, if s.power.grace.isSome then s.free + 1 else s.free, ?_,
      fun none => ⟨by rw [graceLeft, none]; rfl, by simp [none]⟩, fun g => graceLeft_bounds⟩
    exact (exec_served (r := .powerStatus) h rfl rfl rfl).trans (congrArg Host.Outcome.next (doPowerStatus_eq _ _))
  case report =>
    refine ⟨if e.state = .filling then e.burstChain else e.chain.length, rfl, fun f => if_pos f, fun f => if_neg f⟩
  · refine (exec_served (c := .statusAcquisition p tag) (r := .status .acquisition) h rfl rfl rfl).trans
      (congrArg Host.Outcome.next ((rfl : _ = answer (asking p 44 tag) .ok (acquisitionStatus s) s).trans ?_))
    rw [acquisitionStatus, trigger_eq_bind]
    rfl
  · exact exec_served (r := .status .store) h rfl rfl rfl
  · exact exec_served (r := .status .decoders) h rfl rfl rfl
  · have first : s.render.latch.edge 0 = s.render.latch.t0 := by simp [Latch.edge, colEdge]
    have answered : perform (asking p 44 tag) (.status .render) s = answer (asking p 44 tag) .ok (renderStatus s) s :=
      rfl
    refine (exec_served (c := .statusRender p tag) (r := .status .render) h rfl rfl rfl).trans
      (congrArg Host.Outcome.next (answered.trans ?_))
    rw [renderStatus, first]
    rfl
  · exact exec_served (r := .panelStatus) h rfl rfl rfl

/-! ## CLAIM and RELEASE (R195) -/

section
variable {q : Asker} {take : Bool} {s : State}

theorem doClaim_free (h : s.ports.claim = none) : doClaim q take s = answer q .ok .none (setClaim (some q.port) s) := by
  rw [doClaim, h]

theorem doClaim_own (h : s.ports.claim = some q.port) : doClaim q take s = answer q .ok .none s := by
  simp only [doClaim, h, if_true]

theorem doClaim_held (h : s.ports.claim = some (other q.port)) : doClaim q false s = refuse q .heldElsewhere s := by
  simp only [doClaim, h, other_ne, if_true, if_false]

theorem doClaim_take (h : s.ports.claim = some .tether) (port : q.port = .console) :
    doClaim q true s =
      if s.seq.acq = .idle then answer q .ok .none (setClaim (some .console) s) else refuse q .wrongState s := by
  simp [doClaim, h, port]

theorem doClaim_tetherTakes (h : s.ports.claim = some .console) (port : q.port = .tether) :
    doClaim q true s = refuse q .outOfRange s := by
  simp [doClaim, h, port]

theorem doRelease_free (h : s.ports.claim = none) : doRelease q s = refuse q .noClaim s := by
  rw [doRelease, h]

theorem doRelease_held (h : s.ports.claim = some (other q.port)) : doRelease q s = refuse q .heldElsewhere s := by
  simp only [doRelease, h, ne_eq, other_ne, not_false_eq_true, if_true]

theorem doRelease_own (h : s.ports.claim = some q.port) :
    doRelease q s = if s.seq.acq = .idle then answer q .ok .none (freeClaim s) else refuse q .wrongState s := by
  simp only [doRelease, h, ne_eq, not_true, if_false]

end

/-- Settles O40: the rows of the table by the holder and the acquisition state. -/
theorem claimReleaseResult : Obligations.ClaimReleaseResult := by
  intro p tag s ready
  have claim : ∀ tk, exec (.claim p tag tk) s = .next (doClaim (asking p 35 tag) tk s) :=
    fun tk => exec_ready (r := .claim tk) (ready_of_alike ready rfl rfl) rfl
  have release : exec (.release p tag) s = .next (doRelease (asking p 36 tag) s) := exec_ready ready rfl
  refine ⟨fun tk h => ?_, fun tk h => ?_, fun h => ?_, fun h c i => ?_, fun h c i => ?_, fun h c => ?_, fun h i => ?_,
    fun h i => ?_, fun h => ?_, fun h => ?_⟩
  · rw [claim, doClaim_free h]
    cases p <;> rfl
  · rw [claim, doClaim_own h]
  · rw [claim, doClaim_held h]
  · rw [claim, doClaim_take h c, if_pos i]
    rfl
  · rw [claim, doClaim_take h c, if_neg i]
  · rw [claim, doClaim_tetherTakes h c]
  · rw [release, doRelease_own h, if_pos i]
    rfl
  · rw [release, doRelease_own h, if_neg i]
  · rw [release, doRelease_free h]
  · rw [release, doRelease_held h]

/-! ## A kind raised (R200) -/

/-- An alert list in the fixed order, each kind once. -/
def InOrder (l : List Alert) : Prop := l.Pairwise fun a b => a.kind.place < b.kind.place

theorem recordAlert_filter (k : AlertKind) (arg : Nat) (l : List Alert) :
    (recordAlert k arg l).filter (fun a => a.kind ≠ k) = l.filter (fun a => a.kind ≠ k) := by
  induction l with
  | nil => simp [recordAlert]
  | cons a l ih =>
    unfold recordAlert
    split
    · simp [*]
    · split
      · simp
      · rw [List.filter_cons, List.filter_cons, ih]

/-- A kind already in the set is counted once more. -/
theorem mem_recordAlert_counted {k : AlertKind} {arg n : Nat} {l : List Alert} (order : InOrder l)
    (h : (l.find? fun a => a.kind = k).map (·.count) = some n) :
    ({ kind := k, count := min 255 (n + 1), arg := arg } : Alert) ∈ recordAlert k arg l := by
  induction l with
  | nil => simp at h
  | cons a l ih =>
    obtain ⟨first, rest⟩ := List.pairwise_cons.mp order
    unfold recordAlert
    split
    · rename_i e
      obtain rfl : a.count = n := by simpa [List.find?_cons, e] using h
      rw [satSucc_eq_min]
      exact List.mem_cons_self
    · rename_i e
      have later : (l.find? fun a => a.kind = k).map (·.count) = some n := by simpa [List.find?_cons, e] using h
      obtain ⟨b, hb, _⟩ := Option.map_eq_some_iff.mp later
      have kind : b.kind = k := by simpa using List.find?_some hb
      have after := first b (List.mem_of_find?_eq_some hb)
      rw [if_neg (by simp only [AlertKind.before, decide_eq_true_eq]; rw [kind] at after; omega)]
      exact List.mem_cons_of_mem _ (ih rest later)

/-- A kind not in the set is recorded with count 1. -/
theorem mem_recordAlert_new {k : AlertKind} {arg : Nat} {l : List Alert} (h : (l.find? fun a => a.kind = k) = none) :
    ({ kind := k, count := 1, arg := arg } : Alert) ∈ recordAlert k arg l := by
  induction l with
  | nil => exact List.mem_cons_self
  | cons a l ih =>
    rw [List.find?_eq_none] at h
    unfold recordAlert
    rw [if_neg (by simpa using h a List.mem_cons_self)]
    split
    · exact List.mem_cons_self
    · exact List.mem_cons_of_mem _ (ih (List.find?_eq_none.mpr fun b hb => h b (List.mem_cons_of_mem _ hb)))

/-- Settles O41: by the level, then by whether the set holds the kind. -/
theorem alertRaised : Obligations.AlertRaised := by
  intro q k arg ok
  refine ⟨fun off => if_pos off, fun on => ?_⟩
  have raised : q.raised k arg = { q with alerts := recordAlert k arg q.alerts } := if_neg on
  rw [raised]
  exact ⟨fun n => mem_recordAlert_counted ok.1, mem_recordAlert_new, recordAlert_filter k arg q.alerts, rfl, rfl⟩

/-! ## ALERT_LEVELS (R201) -/

theorem setLevels_length (pairs : List (Nat × Nat)) (ls : List AlertLevel) : (setLevels pairs ls).length =
    ls.length := by
  induction pairs generalizing ls with
  | nil => rfl
  | cons x r ih => simp [setLevels, ih]

theorem setLevels_append (pre post : List (Nat × Nat)) (ls : List AlertLevel) :
    setLevels (pre ++ post) ls = setLevels post (setLevels pre ls) := by
  induction pre generalizing ls with
  | nil => rfl
  | cons x r ih => exact ih _

/-- A kind that no pair names keeps its level. -/
theorem setLevels_other {pairs : List (Nat × Nat)} {k : Nat} (hk : 1 ≤ k) (legal : ∀ x ∈ pairs, 1 ≤ x.1)
    (h : ∀ x ∈ pairs, x.1 ≠ k) (ls : List AlertLevel) : (setLevels pairs ls)[k - 1]? = ls[k - 1]? := by
  induction pairs generalizing ls with
  | nil => rfl
  | cons x r ih =>
    have low := legal x List.mem_cons_self
    have ne := h x List.mem_cons_self
    refine (ih (fun y hy => legal y (List.mem_cons_of_mem _ hy)) (fun y hy =>
      h y (List.mem_cons_of_mem _ hy)) _).trans ?_
    exact List.getElem?_set_ne (by omega)

/-- A kind takes the level of the last pair that names it. -/
theorem setLevels_last {pre post : List (Nat × Nat)} {k c : Nat} {l : AlertLevel} {ls : List AlertLevel}
    (hk : 1 ≤ k ∧ k ≤ 15) (legal : ∀ x ∈ post, 1 ≤ x.1) (h : ∀ x ∈ post, x.1 ≠ k)
    (hc : AlertLevel.ofCode c = some l) (full : ls.length = 15) :
    (setLevels (pre ++ (k, c) :: post) ls)[k - 1]? = some l := by
  rw [setLevels_append, setLevels, setLevels_other hk.1 legal h, List.getElem?_set_self, hc]
  · rfl
  · rw [setLevels_length]
    omega

theorem pairsLegal_iff {pairs : List (Nat × Nat)} : pairsLegal pairs = true ↔
    1 ≤ pairs.length ∧ pairs.length ≤ 15 ∧ ∀ x ∈ pairs, 1 ≤ x.1 ∧ x.1 ≤ 15 ∧ x.2 ≤ 2 := by
  simp only [pairsLegal, Bool.and_eq_true, decide_eq_true_eq, List.all_eq_true, and_assoc]

theorem ofCode_of_mem {c : Nat} {l : AlertLevel}
    (h : (c, l) ∈ [(0, AlertLevel.off), (1, AlertLevel.routine), (2, AlertLevel.urgent)]) :
    AlertLevel.ofCode c = some l := by
  simp only [List.mem_cons, Prod.mk.injEq, List.not_mem_nil, or_false] at h
  rcases h with ⟨rfl, rfl⟩ | ⟨rfl, rfl⟩ | ⟨rfl, rfl⟩ <;> rfl

/-! ## ALERT_FETCH (R202) -/

theorem InOrder.kind_ne {pre post : List Alert} {a : Alert} (h : InOrder (pre ++ a :: post)) :
    (∀ b ∈ pre, b.kind ≠ a.kind) ∧ ∀ b ∈ post, b.kind ≠ a.kind := by
  obtain ⟨_, rest, before⟩ := List.pairwise_append.mp h
  obtain ⟨after, _⟩ := List.pairwise_cons.mp rest
  refine ⟨fun b hb e => ?_, fun b hb e => ?_⟩
  · have := before b hb a List.mem_cons_self
    simp [e] at this
  · have := after b hb
    simp [e] at this

theorem InOrder.filter_ne {pre post : List Alert} {a : Alert} (h : InOrder (pre ++ a :: post)) :
    (pre ++ a :: post).filter (fun b => b.kind ≠ a.kind) = pre ++ post := by
  obtain ⟨before, after⟩ := h.kind_ne
  have keep : ∀ l : List Alert, (∀ b ∈ l, b.kind ≠ a.kind) → l.filter (fun b => b.kind ≠ a.kind) = l :=
    fun l hl => List.filter_eq_self.mpr fun b hb => by simpa using hl b hb
  rw [List.filter_append, List.filter_cons_of_neg (by simp), keep pre before, keep post after]

theorem find?_of_split {α : Type} {f : α → Bool} {pre post : List α} {a : α} (ha : f a = true)
    (h : ∀ b ∈ pre, f b = false) : (pre ++ a :: post).find? f = some a := by
  rw [List.find?_append, List.find?_eq_none.mpr fun b hb => by simp [h b hb], List.find?_cons_of_pos ha]
  rfl

/-- The alert fetched is the first URGENT one, else the first ROUTINE one. -/
theorem PortState.next_of_split {x : PortState} {pre post : List Alert} {a : Alert}
    (split : x.alerts = pre ++ a :: post)
    (h : (x.level a.kind = .urgent ∧ ∀ b ∈ pre, x.level b.kind ≠ .urgent) ∨
      (x.level a.kind = .routine ∧ (∀ b ∈ pre, x.level b.kind = .off) ∧ ∀ b ∈ post, x.level b.kind ≠ .urgent)) :
    x.next = some a := by
  rw [PortState.next, split]
  rcases h with ⟨ha, pre⟩ | ⟨ha, before, after⟩
  · rw [find?_of_split (by simpa using ha) fun b hb => by simpa using pre b hb]
    rfl
  · have none : ((pre ++ a :: post).find? fun b => x.level b.kind = .urgent) = none := by
      rw [List.find?_eq_none]
      intro b hb
      rcases List.mem_append.mp hb with hb | hb
      · simp [before b hb]
      · rcases List.mem_cons.mp hb with rfl | hb
        · simp [ha]
        · simpa using after b hb
    rw [none, find?_of_split (by simpa using ha) fun b hb => by simp [before b hb]]
    rfl

theorem doAlertFetch_empty {q : Asker} {s : State} (h : (s.ports.port q.port).alerts = []) :
    doAlertFetch q s = answer q .ok (.alert none 0) s := by
  simp [doAlertFetch, PortState.next, h]

theorem doAlertFetch_next {q : Asker} {s : State} {a : Alert} (h : (s.ports.port q.port).next = some a) :
    doAlertFetch q s = answer q .ok (.alert (some (a, (s.ports.port q.port).level a.kind))
        ((s.ports.port q.port).alerts.filter fun b => b.kind ≠ a.kind).length)
      (State.refreshAttn { s with ports := s.ports.setPort q.port { s.ports.port q.port with
        alerts := (s.ports.port q.port).alerts.filter fun b => b.kind ≠ a.kind } }) := by
  simp only [doAlertFetch, h]

/-- Settles O43: the pairs in turn; the alert the level order chooses; ATTN by the console set. -/
theorem alertRequestsResult : Obligations.AlertRequestsResult := by
  refine ⟨fun p tag pairs s ready => ?levels, fun p tag s ready ok => ?fetch, fun s => ?attn⟩
  case levels =>
    have run : exec (.alertLevels p tag pairs) s = .next (doAlertLevels (asking p 40 tag) pairs s) :=
      exec_ready ready rfl
    rw [run]
    refine ⟨fun legal full => ⟨setLevels pairs (s.ports.port p).levels, (setLevels_length _ _).trans full,
      fun k hk other => ?_, fun pre post k c l split last code => ?_, ?_⟩, fun bad => ?_⟩
    · exact setLevels_other hk (fun x hx => (legal.2.2 x hx).1) other _
    · subst split
      obtain ⟨low, high, _⟩ := legal.2.2 (k, c) (by simp)
      exact setLevels_last ⟨low, high⟩ (fun x hx => (legal.2.2 x (by simp [hx])).1) last (ofCode_of_mem code) full
    · rw [doAlertLevels, if_pos (pairsLegal_iff.mpr legal)]
      rfl
    · rw [doAlertLevels, if_neg]
      rw [pairsLegal_iff]
      rintro ⟨some, few, each⟩
      rcases bad with rfl | many | ⟨x, hx, out⟩
      · simp at some
      · omega
      · have := each x hx
        omega
  case fetch =>
    have run : exec (.alertFetch p tag) s = .next (doAlertFetch (asking p 41 tag) s) := exec_ready ready rfl
    rw [run]
    refine ⟨fun empty => by rw [doAlertFetch_empty empty], fun pre a post l split level choice => ?_⟩
    subst level
    have order : InOrder (pre ++ a :: post) := split ▸ ok.1
    rw [doAlertFetch_next (PortState.next_of_split split choice)]
    simp only [asking, split, order.filter_ne, List.length_append]
  case attn =>
    rw [State.refreshAttn, State.attnNow]
    simp

/-! ## DOZE, WAKE_CAUSES_CLEAR, SET_BATTERY (R206, R207, R209) -/

/-- A request that is not always served is carried out in RUN only. -/
theorem ready_run {s : State} {p : Port} {r : Request} (h : s.ready p r) (served : r.alwaysServed = false) :
    s.power.st = .run := by
  obtain ⟨received, idle, _⟩ := h
  cases p
  · simp [State.receives, State.awake] at received
    simp [State.busy, served] at idle
    rcases received.1 with e | e
    · exact e
    · exact absurd e idle.1
  · simp [State.receives] at received
    exact received.1.1

theorem mayDoze_iff {s : State} : s.mayDoze = true ↔ s.power.st = .run ∧ s.seq.acq = .idle ∧
    (∀ k ∈ s.slots, k.state ≠ .running) ∧ s.ports.con.stream = none ∧ s.ports.teth.stream = none ∧ s.meas.st ≠ .busy ∧
    s.power.grace = none := by
  simp [State.mayDoze, and_assoc]

/-- The row's meaning for a request whose rule has been worked out. -/
theorem exec_active {c : Instr} {p : Port} {tag : Tag} {r : Request} {s t : State} (h : s.ready p r)
    (row : exec c s = .next (receiveActive p tag r s)) (done : perform (asking p (Wire.code r) tag) r s = t) :
    exec c s = .next (conclude s t) := done ▸ exec_readyActive h row

theorem doDoze_taken {q : Asker} {secs : Nat} {s : State} (h : s.mayDoze = true) : doDoze q secs s =
    answer q .accepted (.dozing secs) { s with power := { s.power with
      st := .entry, wake := WakeSet.empty, timer := secs, timerOn := false, entryStep := .frame } } := if_pos h

theorem doDoze_refused {q : Asker} {secs : Nat} {s : State} (h : ¬ s.mayDoze = true) :
    doDoze q secs s = refuse q .wrongState s := if_neg h

/-- Settles O44: DOZE by whether the part is idle enough; the others as their rules say. -/
theorem powerRequestsResult : Obligations.PowerRequestsResult := by
  refine ⟨fun p tag secs s ready => ?doze, fun p tag s ready => ?plain, fun p tag low cutoff s ready l c hl hc =>
    ?battery⟩
  case doze =>
    have run : exec (.doze p tag secs) s = .next (conclude s (doDoze (asking p 45 tag) secs s)) :=
      exec_active ready rfl rfl
    rw [run]
    refine ⟨fun idle slots con teth meas grace => ?_, fun busy => ?_⟩
    · rw [doDoze_taken (mayDoze_iff.mpr ⟨ready_run ready rfl, idle, slots, con, teth, meas, grace⟩)]
    · rw [doDoze_refused]
      rw [mayDoze_iff]
      rintro ⟨_, idle, slots, con, teth, meas, grace⟩
      rcases busy with e | ⟨k, hk, e⟩ | e | e | e | e
      · exact e idle
      · exact slots k hk e
      · exact e con
      · exact e teth
      · exact meas e
      · exact e grace
  case plain =>
    exact ⟨exec_ready (r := .wakeCausesClear) ready rfl,
      exec_ready (r := .portReset) (ready_of_alike ready rfl rfl) rfl,
      exec_ready (r := .resetPart) (ready_of_alike ready rfl rfl) rfl⟩
  case battery =>
    have run : exec (.setBattery p tag low cutoff) s = .next (doSetBattery (asking p 47 tag) low cutoff s) :=
      exec_ready ready rfl
    have lowValue : effectiveLow low = l := by rw [effectiveLow, clampNat_eq _ _ _ (by decide), hl]
    have cutoffValue : effectiveCutoff low cutoff = c := by
      rw [effectiveCutoff, lowValue, clampNat_eq _ _ _ (by decide), hc]
    rw [run, doSetBattery, lowValue, cutoffValue]

end Sys2Proof.Machine
end

section
/-! PROOFS. HALT and FORCE: the stop of a segment (R31, R52, R53) and the trigger taken (R50, R51). -/

namespace Sys2Proof.Machine

/-! ## Stops -/

theorem stopSegment_seq (t : Nat) (reason : SealReason) (s : State) : (stopSegment t reason s).seq =
    { s.seq with acq := .draining, stopTick := some t, reason := some reason } := by
  simp [stopSegment]

/-- A loss counted changes an entry's loss count only. -/
theorem noteLoss_seg (s : State) (n : Nat) : ∃ k, (noteLoss s).seg n = { s.seg n with losses := k } := by
  unfold noteLoss
  split
  · rename_i m _
    by_cases e : n = m ∧ m < s.store.segs.length
    · obtain ⟨rfl, h⟩ := e
      refine ⟨satSucc 65535 (s.seg n).losses, ?_⟩
      rw [seg_congr (s := s.setSeg n { s.seg n with losses := satSucc 65535 (s.seg n).losses }) (by simp),
        seg_setSeg h, if_pos rfl]
    · refine ⟨(s.seg n).losses, ?_⟩
      rw [seg_congr (s := s.setSeg m { s.seg m with losses := satSucc 65535 (s.seg m).losses }) (by simp)]
      by_cases h : m < s.store.segs.length
      · rw [seg_setSeg h, if_neg fun h' => e ⟨h', h⟩]
      · rw [seg_congr (s := s) (by simp only [State.setSeg_segs]; exact List.set_eq_of_length_le (by omega))]
  · exact ⟨(s.seg n).losses, rfl⟩

theorem noteLoss_trigger (s : State) (n : Nat) : ((noteLoss s).seg n).trigger = (s.seg n).trigger := by
  obtain ⟨k, e⟩ := noteLoss_seg s n
  rw [e]

/-- A loss counted loses no other kind from a port's set. -/
theorem records_noteLoss {s : State} {p : Port} {k : AlertKind} {arg : Nat} (h : (s.ports.port p).records k arg)
    (hk : k ≠ .loss) : ((noteLoss s).ports.port p).records k arg := by
  unfold noteLoss
  split
  · cases p
    · exact h.raised _ hk
    · exact h.raised _ hk
  · exact h

theorem closeHeldEnd_trigger (s : State) (n : Nat) : ((closeHeldEnd s).seg n).trigger = (s.seg n).trigger := by
  unfold closeHeldEnd
  split
  · split
    · rw [noteLoss_trigger]
      rfl
    · rfl
  · rfl

theorem records_closeHeldEnd {s : State} {p : Port} {k : AlertKind} {arg : Nat} (h : (s.ports.port p).records k arg)
    (hk : k ≠ .loss) : ((closeHeldEnd s).ports.port p).records k arg := by
  unfold closeHeldEnd
  split
  · split
    · exact records_noteLoss (by exact h) hk
    · exact h
  · exact h

theorem stopSegment_trigger (t : Nat) (reason : SealReason) (s : State) (n : Nat) :
    ((stopSegment t reason s).seg n).trigger = (s.seg n).trigger := by
  rw [stopSegment, closeHeldEnd_trigger, seg_congr (s := s)]
  simp

theorem records_stopSegment {s : State} {p : Port} {k : AlertKind} {arg : Nat} (h : (s.ports.port p).records k arg)
    (hk : k ≠ .loss) (t : Nat) (reason : SealReason) : ((stopSegment t reason s).ports.port p).records k arg := by
  refine records_closeHeldEnd ?_ hk
  have ports : (endTap t reason s).ports = s.ports := by simp
  simpa only [ports] using h

/-- Outside a loss interval the END stands in the staging queue (R31). -/
theorem stopSegment_staging {s : State} (h : s.comp.lossOpen = false) (t : Nat) (reason : SealReason) :
    (stopSegment t reason s).comp.staging =
      s.comp.staging ++ placeRecord (t - s.comp.stagingTime) (fun d => .mark d .stop reason.code) := by
  have open' : (endTap t reason s).comp.lossOpen = false := by simp [h]
  rw [stopSegment, closeHeldEnd_closed] <;> simp [endStaging, h]

/-! ## HALT (R53) -/

theorem doHalt_sampling {q : Asker} {s : State} (h : s.seq.acq.sampling = true) : doHalt q s =
    answer q .ok (.tick (s.fe.tick + 1))
      (stopSegment (s.fe.tick + 1) .halted { s with seq := { s.seq with seqEnd := true } }) := if_pos h

theorem doHalt_refused {q : Asker} {s : State} (h : s.seq.acq = .idle ∨ s.seq.acq = .draining) :
    doHalt q s = refuse q .wrongState s := if_neg (by rcases h with h | h <;> simp [h, AcqState.sampling])

/-- Settles O22: the stop with the sequence-end flag set, or the refusal. -/
theorem haltResult : Obligations.HaltResult := by
  intro p tag s ready
  have run : exec (.halt p tag) s = .next (conclude s (doHalt (asking p 7 tag) s)) := exec_active ready rfl rfl
  rw [run]
  refine ⟨fun sampling => ?_, fun h => by rw [doHalt_refused h]⟩
  rw [doHalt_sampling sampling]
  refine ⟨_, rfl, stopSegment_seq _ _ _, by simp, by simp, by simp, fun n => stopSegment_trigger _ _ _ n,
    fun closed => ?_⟩
  rw [stopSegment_staging (by exact closed)]
  rfl

/-! ## The trigger taken (R50, R52, R71) -/

theorem freeSegment_segs (n : Nat) (s : State) : (freeSegment n s).store.segs = s.store.segs.set n Segment.empty := by
  simp [freeSegment, forgetSegment, purgeSegment]

theorem trimSegment_segs_length (n : Nat) (s : State) :
    (trimSegment n s).store.segs.length = s.store.segs.length := by
  simp only [trimSegment]
  split
  · exact List.length_set ..
  · rfl

/-- The reserve test at the trigger frees a segment or trims a block, and stops nothing. -/
theorem reserveTest_trigger (s : State) : (reserveTest true s).seq = s.seq ∧ (reserveTest true s).comp = s.comp ∧
    (reserveTest true s).store.segs.length = s.store.segs.length := by
  unfold reserveTest
  repeat' split
  all_goals simp_all [freeSegment_segs, trimSegment_segs_length]

/-- The state in which segment `n` has its trigger, before the test of R52. -/
def withTrigger (n t : Nat) (forced : Bool) (s : State) : State :=
  { raiseBoth .triggered n (s.setSeg n { s.seg n with
      trigger := some { tick := max t (s.seg n).start, forced := forced, clamped := t < (s.seg n).start } }) with
    seq := { s.seq with acq := .postfill, matchCount := 0, run := 0, expiry := none, held := false } }

theorem takeTrigger_filling {n t : Nat} {forced : Bool} {s : State} (h : s.seq.seg = some n) :
    takeTrigger t forced s = postfillTest (withTrigger n t forced (reserveTest true s)) := by
  have seg : (reserveTest true s).seq.seg = some n := by simp [h]
  simp only [takeTrigger, seg]
  rfl

section
variable {n t : Nat} {forced : Bool} {s : State}

theorem withTrigger_seg (h : n < s.store.segs.length) : (withTrigger n t forced s).seg n = { s.seg n with
    trigger := some { tick := max t (s.seg n).start, forced := forced, clamped := t < (s.seg n).start } } := by
  have own := seg_setSeg (e := { s.seg n with
    trigger := some { tick := max t (s.seg n).start, forced := forced, clamped := t < (s.seg n).start } }) h n
  rw [if_pos rfl] at own
  exact own

theorem withTrigger_trigger (seg : s.seq.seg = some n) (h : n < s.store.segs.length) :
    (withTrigger n t forced s).trigger =
      some { tick := max t (s.seg n).start, forced := forced, clamped := t < (s.seg n).start } := by
  rw [trigger_eq_bind]
  have same : (withTrigger n t forced s).seq.seg = some n := seg
  rw [same, Option.bind_some, withTrigger_seg h]

/-- With the post-trigger length not yet over, POSTFILL goes on. -/
theorem postfillTest_goesOn {g : Trigger} (h : s.trigger = some g) (later : s.fe.tick < g.tick + s.seq.params.pPost) :
    postfillTest s = s := by
  unfold postfillTest
  split
  · rename_i g' _ hg
    obtain rfl : g = g' := Option.some.inj (h.symm.trans hg)
    rw [if_neg (by omega)]
  · rfl

theorem postfillTest_stops {g : Trigger} (acq : s.seq.acq = .postfill) (h : s.trigger = some g)
    (past : g.tick + s.seq.params.pPost ≤ s.fe.tick) : postfillTest s = stopSegment (s.fe.tick + 1) .complete s := by
  simp only [postfillTest, acq, h, if_pos past]

/-- The test of R52 changes the sequencer by a stop at most. -/
theorem postfillTest_keeps (s : State) (p : Port) (n : Nat) :
    ((postfillTest s).seg n).trigger = (s.seg n).trigger ∧ (postfillTest s).seq.matchCount = s.seq.matchCount ∧
    (postfillTest s).seq.run = s.seq.run ∧ (postfillTest s).seq.expiry = s.seq.expiry ∧
    ∀ k arg, k ≠ .loss → (s.ports.port p).records k arg → ((postfillTest s).ports.port p).records k arg := by
  unfold postfillTest
  split
  · split
    · exact ⟨stopSegment_trigger .., by simp [stopSegment_seq], by simp [stopSegment_seq], by simp [stopSegment_seq],
        fun k arg hk h => records_stopSegment h hk _ _⟩
    · exact ⟨rfl, rfl, rfl, rfl, fun _ _ _ h => h⟩
  · exact ⟨rfl, rfl, rfl, rfl, fun _ _ _ h => h⟩

end

/-- TRIGGERED stands in the alert set of a port that wants it. -/
theorem takeTrigger_records {n t : Nat} {forced : Bool} {s : State} {p : Port} (seg : s.seq.seg = some n)
    (h : (s.ports.port p).level .triggered ≠ .off) :
    ((takeTrigger t forced s).ports.port p).records .triggered n := by
  rw [takeTrigger_filling seg]
  obtain ⟨_, _, _, _, keep⟩ := postfillTest_keeps (withTrigger n t forced (reserveTest true s)) p n
  refine keep _ _ (by decide) (raiseBoth_records (p := p) n ?_)
  rwa [PortState.level_congr (r := s.ports.port p)]
  cases p <;> simp [Ports.port]

/-! ## FORCE (R51) -/

theorem doForce_taken {q : Asker} {s : State} (h : s.seq.acq = .priming ∨ ∃ k, s.seq.acq = .hunting k) :
    doForce q s = answer q .ok (.tick s.fe.tick) (takeTrigger s.fe.tick true s) :=
  if_pos (by rcases h with h | ⟨k, h⟩ <;> rw [h] <;> rfl)

theorem doForce_refused {q : Asker} {s : State}
    (h : s.seq.acq = .idle ∨ s.seq.acq = .postfill ∨ s.seq.acq = .draining) : doForce q s = refuse q .wrongState s :=
  if_neg (by rcases h with h | h | h <;> simp [h, AcqState.forcible])

/-- Settles O21: the trigger taken at the current tick, then the test of R52, either way. -/
theorem forceResult : Obligations.ForceResult := by
  intro p tag s ready
  have run : exec (.force p tag) s = .next (conclude s (doForce (asking p 6 tag) s)) := exec_active ready rfl rfl
  rw [run]
  refine ⟨fun n acq seg hn => ?_, fun h => by rw [doForce_refused h]⟩
  obtain ⟨seq, comp, len⟩ := reserveTest_trigger s
  have taken := takeTrigger_filling (t := s.fe.tick) (forced := true) seg
  have inside : n < (reserveTest true s).store.segs.length := len ▸ hn
  have segR : (reserveTest true s).seq.seg = some n := by rw [seq, seg]
  have trigger := withTrigger_trigger (t := s.fe.tick) (forced := true) segR inside
  obtain ⟨trig, matchCount, run0, expiry, _⟩ :=
    postfillTest_keeps (withTrigger n s.fe.tick true (reserveTest true s)) .console n
  have tick : (withTrigger n s.fe.tick true (reserveTest true s)).fe.tick = s.fe.tick := by simp [withTrigger]
  have params : (withTrigger n s.fe.tick true (reserveTest true s)).seq.params = s.seq.params := by simp [withTrigger]
  rw [doForce_taken acq]
  refine ⟨_, _, rfl, rfl, ?_, ?_, ?_, ?_, by simp, by simp, by simp, by simp, by simp, by simp, by simp, by simp,
    by simp, by simp, takeTrigger_records (p := .console) seg, takeTrigger_records (p := .tether) seg,
    fun later => ?_, fun past => ?_⟩
  · rw [taken, trig, withTrigger_seg inside]
  · rw [taken, matchCount]
    rfl
  · rw [taken, run0]
    rfl
  · rw [taken, expiry]
    rfl
  · rw [taken, postfillTest_goesOn trigger (by rw [tick, params]; exact later)]
    refine ⟨rfl, ?_, ?_⟩
    · rw [← seq]
      rfl
    · rw [← comp]
      simp [withTrigger]
  · rw [taken, postfillTest_stops rfl trigger (by rw [tick, params]; exact past), stopSegment_seq, tick]
    exact ⟨rfl, rfl, rfl⟩

end Sys2Proof.Machine
end

section
/-! PROOFS. ARM: the preferred segment, room and the reclaims (R65, R66), and the arm itself (R40, R41, R67). -/

namespace Sys2Proof.Machine

/-! ## The preferred segment -/

/-- A preference that never runs in a circle, so that one of the segments is preferred to none. -/
structure Preference (better : Segment → Segment → Bool) : Prop where
  asymm : ∀ {a b}, better a b = true → better b a = false
  trans : ∀ {a b c}, better a b = false → better b c = false → better a c = false

theorem older_preference : Preference fun a b => a.order < b.order :=
  ⟨fun {a b} h => by simp at h ⊢; omega, fun {a b c} h h' => by simp at h h' ⊢; omega⟩

section
variable {ok : Segment → Bool} {better : Segment → Segment → Bool}

theorem bestSegment_isSome {l : List Segment} {n : Nat} :
    (bestSegment ok better l n).isSome = true ↔ ∃ e ∈ l, ok e = true := by
  induction l generalizing n with
  | nil => simp [bestSegment]
  | cons e r ih =>
    rw [bestSegment]
    split
    · rename_i none
      have rest : ∀ x ∈ r, ¬ ok x = true := by simpa [none] using not_congr (ih (n := n + 1))
      split <;> simp_all
    · rename_i m b some
      have rest : ∃ x ∈ r, ok x = true := ih.mp (by rw [some]; rfl)
      split <;> simp_all

/-- What the answer is: an entry that passes, none that passes preferred to it, and it preferred to those before it. -/
theorem bestSegment_some (pref : Preference better) {l : List Segment} {n m : Nat} {e : Segment}
    (h : bestSegment ok better l n = some (m, e)) :
    ∃ i, m = n + i ∧ l[i]? = some e ∧ ok e = true ∧
      ∀ j x, l[j]? = some x → ok x = true → better x e = false ∧ (j < i → better e x = true) := by
  induction l generalizing n m e with
  | nil => simp [bestSegment] at h
  | cons a r ih =>
    rw [bestSegment] at h
    split at h
    · rename_i none
      have rest : ∀ x ∈ r, ok x = false := by
        simpa [none] using not_congr (bestSegment_isSome (ok := ok) (better := better) (l := r) (n := n + 1))
      split at h
      · rename_i pass
        obtain ⟨rfl, rfl⟩ : n = m ∧ a = e := by simpa using h
        refine ⟨0, rfl, rfl, pass, fun j x hx hok => ?_⟩
        cases j with
        | zero =>
          obtain rfl : a = x := by simpa using hx
          refine ⟨Classical.byContradiction fun hb => ?_, by omega⟩
          simp at hb
          simpa [hb] using pref.asymm hb
        | succ j => simp [rest x (List.mem_of_getElem? (by simpa using hx))] at hok
      · simp at h
    · rename_i m' b some
      obtain ⟨i, hm, hi, passB, best⟩ := ih some
      split at h
      · rename_i pick
        obtain ⟨rfl, rfl⟩ : n = m ∧ a = e := by simpa using h
        obtain ⟨passA, notB⟩ : ok a = true ∧ better b a = false := by simpa using pick
        refine ⟨0, rfl, rfl, passA, fun j x hx hok => ⟨?_, by omega⟩⟩
        cases j with
        | zero =>
          obtain rfl : a = x := by simpa using hx
          refine Classical.byContradiction fun hb => ?_
          simp at hb
          simpa [hb] using pref.asymm hb
        | succ j => exact pref.trans (best j x (by simpa using hx) hok).1 notB
      · rename_i pick
        obtain ⟨rfl, rfl⟩ : m' = m ∧ b = e := by simpa using h
        refine ⟨i + 1, by omega, by simpa using hi, passB, fun j x hx hok => ?_⟩
        cases j with
        | zero =>
          obtain rfl : a = x := by simpa using hx
          have better' : better b a = true := by simpa [hok] using pick
          exact ⟨pref.asymm better', fun _ => better'⟩
        | succ j =>
          obtain ⟨no, before⟩ := best j x (by simpa using hx) hok
          exact ⟨no, fun hj => before (by omega)⟩

end

theorem seg_of_getElem? {s : State} {n : Nat} {e : Segment} (h : s.store.segs[n]? = some e) : s.seg n = e := by
  simp [State.seg, List.getD_eq_getElem?_getD, h]

theorem getElem?_of_eligible {s : State} {n : Nat} (h : (s.seg n).eligible = true) :
    s.store.segs[n]? = some (s.seg n) := by
  have inside : n < s.store.segs.length := by
    refine Classical.byContradiction fun out => ?_
    rw [State.seg, List.getD_eq_getElem?_getD, List.getElem?_eq_none (by omega)] at h
    exact absurd h (by decide)
  simp [State.seg, List.getD_eq_getElem?_getD, inside]

/-- The oldest eligible segment (R65). -/
theorem oldestEligible_some {s : State} {n : Nat} (h : s.oldestEligible = some n) : (s.seg n).eligible = true ∧
    ∀ m, (s.seg m).eligible = true →
      (s.seg n).order < (s.seg m).order ∨ ((s.seg n).order = (s.seg m).order ∧ n ≤ m) := by
  obtain ⟨⟨n', e⟩, best, rfl⟩ := Option.map_eq_some_iff.mp h
  obtain ⟨i, rfl, hi, pass, first⟩ := bestSegment_some older_preference best
  simp only [Nat.zero_add]
  rw [seg_of_getElem? hi]
  refine ⟨pass, fun m hm => ?_⟩
  obtain ⟨no, before⟩ := first m _ (getElem?_of_eligible hm) hm
  simp at no before
  rcases Nat.lt_or_ge m i with hj | hj
  · exact .inl (before hj)
  · rcases Nat.lt_or_eq_of_le no with hlt | heq
    · exact .inl hlt
    · exact .inr ⟨heq, hj⟩

theorem oldestEligible_isSome {s : State} : s.oldestEligible.isSome = true ↔ ∃ e ∈ s.store.segs, e.eligible = true := by
  rw [State.oldestEligible, Option.isSome_map, bestSegment_isSome]

theorem lowestEmpty_isSome {s : State} : s.lowestEmpty.isSome = true ↔ ∃ e ∈ s.store.segs, e.state = .empty := by
  rw [State.lowestEmpty, Option.isSome_map, bestSegment_isSome]
  simp

/-! ## Room (R66) -/

theorem eligible_iff {e : Segment} :
    e.eligible = true ↔ e.state = .sealed ∧ e.kept = false ∧ e.pins.any = false := by
  simp [Segment.eligible, and_assoc]

theorem reclaims_iff {a : ArmParams} : a.reclaims = true ↔ a.reclaim = .on := by simp [ArmParams.reclaims]

/-- What a number over the eligible entries adds up to, entry by entry. -/
theorem sum_filter_map {α : Type} (f : α → Bool) (g : α → Nat) (l : List α) :
    ((l.filter f).map g).sum = (l.map fun e => if f e then g e else 0).sum := by
  induction l with
  | nil => rfl
  | cons e r ih => by_cases h : f e = true <;> simp [List.filter_cons, h, ih]

theorem sum_map_set {α : Type} (g : α → Nat) (x : α) {l : List α} {n : Nat} {e : α} (h : l[n]? = some e) :
    ((l.set n x).map g).sum + g e = (l.map g).sum + g x := by
  induction l generalizing n with
  | nil => simp at h
  | cons a r ih =>
    cases n with
    | zero =>
      obtain rfl : a = e := by simpa using h
      simp
      omega
    | succ n =>
      have rest := ih (n := n) (by simpa using h)
      simp only [List.set_cons_succ, List.map_cons, List.sum_cons]
      omega

theorem hasRoom_iff {s : State} : s.hasRoom = true ↔
    ((∃ e ∈ s.store.segs, e.state = .empty) ∨ (s.seq.params.reclaim = .on ∧ ∃ e ∈ s.store.segs, e.eligible = true)) ∧
    2 ≤ s.store.freeList.length +
      (if s.seq.params.reclaim = .on then ((s.store.segs.filter (·.eligible)).map (·.chain.length)).sum else 0) := by
  rw [sum_filter_map]
  simp only [State.hasRoom, State.eligibleBlocks, Store.freeCount, Bool.and_eq_true, Bool.or_eq_true,
    decide_eq_true_eq, lowestEmpty_isSome, oldestEligible_isSome, reclaims_iff]

/-! ## The reclaims (R66) -/

/-- How many entries are eligible. -/
def State.eligibleCount (s : State) : Nat := (s.store.segs.map fun e => if e.eligible then 1 else 0).sum

theorem sum_map_le_length {α : Type} (f : α → Bool) (l : List α) :
    (l.map fun e => if f e then 1 else 0).sum ≤ l.length := by
  induction l with
  | nil => simp
  | cons e r ih =>
    simp only [List.map_cons, List.sum_cons, List.length_cons]
    split <;> omega

theorem exists_of_sum_pos {α : Type} {f : α → Bool} {g : α → Nat} {l : List α}
    (h : 0 < (l.map fun e => if f e then g e else 0).sum) : ∃ e ∈ l, f e = true := by
  induction l with
  | nil => simp at h
  | cons e r ih =>
    by_cases he : f e = true
    · exact ⟨e, List.mem_cons_self, he⟩
    · obtain ⟨x, hx, hf⟩ := ih (by simpa [he] using h)
      exact ⟨x, List.mem_cons_of_mem _ hx, hf⟩

theorem freeSegment_freeList (n : Nat) (s : State) :
    (freeSegment n s).store.freeList = s.store.freeList ++ (s.seg n).chain := by simp [freeSegment]

/-- Freeing an eligible segment turns its blocks into free ones and leaves one eligible entry fewer. -/
theorem freeSegment_eligible {n : Nat} {s : State} (h : (s.seg n).eligible = true) :
    (freeSegment n s).eligibleCount + 1 = s.eligibleCount ∧
    (freeSegment n s).store.freeCount + (freeSegment n s).eligibleBlocks = s.store.freeCount + s.eligibleBlocks ∧
    ∃ e ∈ (freeSegment n s).store.segs, e.state = .empty := by
  have entry := getElem?_of_eligible h
  have inside : n < s.store.segs.length := (List.getElem?_eq_some_iff.mp entry).1
  have empty : Segment.empty.eligible = false := rfl
  have count := sum_map_set (fun e : Segment => if e.eligible then 1 else 0) Segment.empty entry
  have blocks := sum_map_set (fun e : Segment => if e.eligible then e.chain.length else 0) Segment.empty entry
  simp only [h, empty, if_true, Bool.false_eq_true, if_false, Nat.add_zero] at count blocks
  simp only [State.eligibleCount, State.eligibleBlocks, Store.freeCount, freeSegment_segs, freeSegment_freeList,
    List.length_append]
  exact ⟨count, by omega, Segment.empty, List.mem_set (h := inside) .., rfl⟩

/-- The segments reclaimed, oldest first, each while there was a need. -/
structure ReclaimRun (s : State) (ns : List Nat) (r : State) : Prop where
  result : r = ns.foldl (fun u n => freeSegment n u) s
  needed : ∀ pre n post u, ns = pre ++ n :: post → u = pre.foldl (fun u n => freeSegment n u) s →
    ((∀ e ∈ u.store.segs, e.state ≠ .empty) ∨ u.store.freeList.length < 2) ∧ (u.seg n).eligible = true ∧
    ∀ m, (u.seg m).eligible = true →
      (u.seg n).order < (u.seg m).order ∨ ((u.seg n).order = (u.seg m).order ∧ n ≤ m)

theorem ReclaimRun.nil (s : State) : ReclaimRun s [] s :=
  ⟨rfl, fun pre n post u h => by simp at h⟩

theorem ReclaimRun.cons {s r : State} {n : Nat} {ns : List Nat}
    (need : (∀ e ∈ s.store.segs, e.state ≠ .empty) ∨ s.store.freeList.length < 2) (oldest : s.oldestEligible = some n)
    (h : ReclaimRun (freeSegment n s) ns r) : ReclaimRun s (n :: ns) r := by
  refine ⟨h.result, fun pre m post u split hu => ?_⟩
  cases pre with
  | nil =>
    obtain ⟨rfl, rfl⟩ : n = m ∧ ns = post := by simpa using split
    subst hu
    exact ⟨need, oldestEligible_some oldest⟩
  | cons a pre =>
    obtain ⟨rfl, rfl⟩ : n = a ∧ ns = pre ++ m :: post := by simpa using split
    exact h.needed pre m post u rfl hu

theorem reclaimForArm_run (fuel : Nat) (s : State) : ∃ ns, ReclaimRun s ns (reclaimForArm fuel s) := by
  induction fuel generalizing s with
  | zero => exact ⟨[], .nil s⟩
  | succ fuel ih =>
    rw [reclaimForArm]
    split
    · exact ⟨[], .nil s⟩
    · rename_i need
      split
      · rename_i n oldest
        obtain ⟨ns, run⟩ := ih (freeSegment n s)
        refine ⟨n :: ns, run.cons ?_ oldest⟩
        rw [Bool.and_eq_true, Classical.not_and_iff_not_or_not, lowestEmpty_isSome, decide_eq_true_eq] at need
        simpa [Store.freeCount] using need
      · exact ⟨[], .nil s⟩

/-- With room for it, the reclaims end with an EMPTY entry and two free blocks. -/
theorem reclaimForArm_room {fuel : Nat} {s : State} (enough : s.eligibleCount ≤ fuel)
    (entry : (∃ e ∈ s.store.segs, e.state = .empty) ∨ ∃ e ∈ s.store.segs, e.eligible = true)
    (blocks : 2 ≤ s.store.freeCount + s.eligibleBlocks) :
    (∃ e ∈ (reclaimForArm fuel s).store.segs, e.state = .empty) ∧ 2 ≤ (reclaimForArm fuel s).store.freeCount := by
  have wanted : ¬((∃ e ∈ s.store.segs, e.state = .empty) ∧ 2 ≤ s.store.freeCount) →
      ∃ e ∈ s.store.segs, e.eligible = true := by
    intro lack
    rcases entry with empty | some
    · exact exists_of_sum_pos (g := fun e => e.chain.length) (by
        have : ¬ 2 ≤ s.store.freeCount := fun h => lack ⟨empty, h⟩
        rw [State.eligibleBlocks] at blocks
        omega)
    · exact some
  induction fuel generalizing s with
  | zero =>
    refine Classical.byContradiction fun lack => ?_
    obtain ⟨e, he, pass⟩ := wanted lack
    obtain ⟨n, hn⟩ := List.getElem?_of_mem he
    have := (freeSegment_eligible (s := s) (n := n) (by rw [seg_of_getElem? hn]; exact pass)).1
    omega
  | succ fuel ih =>
    rw [reclaimForArm]
    by_cases room : (∃ e ∈ s.store.segs, e.state = .empty) ∧ 2 ≤ s.store.freeCount
    · rw [if_pos (by simpa [lowestEmpty_isSome] using room)]
      exact room
    · rw [if_neg (by simpa [lowestEmpty_isSome] using room)]
      obtain ⟨n, oldest⟩ := Option.isSome_iff_exists.mp (oldestEligible_isSome.mpr (wanted room))
      obtain ⟨count, sum, empty⟩ := freeSegment_eligible (oldestEligible_some oldest).1
      rw [oldest]
      refine ih (by omega) (.inl empty) (by omega) fun lack => ?_
      exact exists_of_sum_pos (g := fun e => e.chain.length) (by
        have : ¬ 2 ≤ (freeSegment n s).store.freeCount := fun h => lack ⟨empty, h⟩
        rw [State.eligibleBlocks, State.eligibleBlocks] at sum
        rw [State.eligibleBlocks] at blocks
        omega)

end Sys2Proof.Machine
end

section
/-! PROOFS. The arm (R10, R11, R21, R34, R40, R41, R67, R109): the entry opened, the stream begun, the slots that join.
-/

namespace Sys2Proof.Machine

/-! ## The entry opened (R11, R67) -/

/-- The entry an arm fills in. -/
def FrontEnd.entryAt (f : FrontEnd) (owner : Option Port) (index t b : Nat) : Segment :=
  { Segment.empty with state := .filling, owner := owner, chain := [b], burstChain := 1, start := t, stop := t,
                       index := index, latched := f.latch }

/-- The state with the entry opened and the sequencer PRIMING, before the stream begins. -/
def openEntry (owner : Option Port) (index t n b : Nat) (rest : List Nat) (s : State) : State :=
  let u := storeLowTest { s with
    fe := { s.fe with tick := t, lost := [], pod0 := { s.fe.pod0 with blanked := !s.fe.pod0.present }
                      pod1 := { s.fe.pod1 with blanked := !s.fe.pod1.present } }
    store := { s.store with freeList := rest
                            blocks := s.store.blocks.set b { next := none, base := t, used := 0 }
                            segs := s.store.segs.set n (s.fe.entryAt owner index t b) } }
  { u with seq := { u.seq with acq := .priming, seg := some n, taken := index, primingEnd := t + u.seq.params.wPre,
                               stopTick := none, reason := none } }

theorem armSegment_room {owner : Option Port} {index t n b : Nat} {rest : List Nat} {s : State}
    (entry : s.lowestEmpty = some n) (blocks : s.store.freeList = b :: rest) :
    armSegment owner index t s = startStream n b t (openEntry owner index t n b rest s) := by
  simp only [armSegment, entry, blocks]
  rfl

section
variable {owner : Option Port} {index t n b : Nat} {rest : List Nat} {s : State}

theorem openEntry_fe : (openEntry owner index t n b rest s).fe =
    { s.fe with tick := t, lost := [], pod0 := { s.fe.pod0 with blanked := !s.fe.pod0.present }
                pod1 := { s.fe.pod1 with blanked := !s.fe.pod1.present } } := by
  simp [openEntry]

theorem openEntry_seq : (openEntry owner index t n b rest s).seq =
    { s.seq with acq := .priming, seg := some n, taken := index, primingEnd := t + s.seq.params.wPre, stopTick := none,
                 reason := none } := by
  simp [openEntry]

theorem openEntry_store : (openEntry owner index t n b rest s).store.freeList = rest ∧
    (openEntry owner index t n b rest s).store.blocks = s.store.blocks.set b { next := none, base := t, used := 0 } ∧
    (openEntry owner index t n b rest s).store.segs = s.store.segs.set n (s.fe.entryAt owner index t b) := by
  simp [openEntry]

theorem openEntry_slots : (openEntry owner index t n b rest s).slots = s.slots ∧
    (openEntry owner index t n b rest s).tap = s.tap := by
  simp [openEntry]

theorem openEntry_seg (h : n < s.store.segs.length) (m : Nat) : (openEntry owner index t n b rest s).seg m =
    if m = n then s.fe.entryAt owner index t b else s.seg m := by
  rw [← seg_setSeg h]
  exact seg_congr (s := s.setSeg n _) (by simp [openEntry_store]) m

end

/-! ## The stream begun (R10, R21, R34) -/

/-- Blanking by presence leaves the channels of the pods that are there (R3). -/
theorem blank_and (f : FrontEnd) (x : Half) : f.blank x = x &&& (if f.pod0.blanked then 0xFF00 else 0xFFFF) &&&
    (if f.pod1.blanked then 0x00FF else 0xFFFF) := by
  have full : ∀ y : Half, y &&& 65535#16 = y := fun y => BitVec.and_allOnes
  unfold FrontEnd.blank
  cases f.pod0.blanked <;> cases f.pod1.blanked <;> simp [podMask, full]

theorem tapBase_tapTime (t : Nat) (st : Half) (owed : List Nat) (s : State) :
    (tapBase t st owed s).comp = { s.comp with tapTime := if s.tapActive then t else s.comp.tapTime } := by
  unfold tapBase
  repeat' split
  all_goals simp_all

theorem tapBase_joining (t : Nat) (st : Half) (owed : List Nat) (s : State) :
    (tapBase t st owed s).tap.joining = s.tap.joining := by
  unfold tapBase
  repeat' split
  all_goals rfl

/-- A tap no slot decodes from takes nothing. -/
theorem tapBase_inactive {t : Nat} {st : Half} {owed : List Nat} {s : State} (h : s.tapActive = false) :
    tapBase t st owed s = s := if_neg (by simp [h])

theorem tapBase_entered {t : Nat} {st : Half} {owed : List Nat} {s : State} (h : s.tapActive = true)
    (closed : s.tap.gapOpen = false) (room : s.tap.entries.length + 1 ≤ Config.tapDepth) :
    (tapBase t st owed s).tap.entries =
      s.tap.entries ++ s.entriesOf [{ time := t, item := .base false st }] false owed := by
  simp [tapBase, h, closed, room]

theorem atArm_empty : Slot.empty.atArm = Slot.empty := by decide

theorem slot_map_atArm (l : List Slot) (k : Nat) :
    (l.map Slot.atArm).getD k Slot.empty = (l.getD k Slot.empty).atArm := by
  simp only [List.getD_eq_getElem?_getD, List.getElem?_map]
  cases l[k]? with
  | none => exact atArm_empty.symm
  | some x => rfl

theorem startStream_slot (n b t : Nat) (s : State) (k : Nat) : (startStream n b t s).slot k = (s.slot k).atArm := by
  have slots : (startStream n b t s).slots = s.slots.map Slot.atArm := by simp [startStream]
  rw [State.slot, slots, slot_map_atArm]
  rfl

theorem Slot.atArm_waiting {x : Slot} (source : x.source = some .live) (state : x.state = .waiting) : x.atArm =
    { x with state := .running, joinNext := false, tag := none, walk := { Walk.reset with last := x.walk.last } } :=
  if_pos ⟨source, state⟩

theorem Slot.atArm_live {x : Slot} (h : x.live = true) : x.atArm = { x with joinNext := false } := by
  have state : x.state = .running := by
    simp [Slot.live] at h
    exact h.1
  rw [Slot.atArm, if_neg (by simp [state]), if_pos h]

theorem Slot.atArm_other {x : Slot} (h : x.source ≠ some .live ∨ (x.state ≠ .waiting ∧ x.state ≠ .running)) :
    x.atArm = x := by
  rw [Slot.atArm, if_neg, if_neg]
  · rcases h with h | ⟨_, h⟩ <;> simp [Slot.live, h]
  · rcases h with h | ⟨h, _⟩ <;> simp [h]

/-- The state delivered at an arm: the levels of the mask's channels whose pods are present (R10). -/
def State.armState (s : State) : Half :=
  s.fe.levels &&& s.fe.mask &&& (if s.fe.pod0.present then 0xFFFF else 0xFF00) &&&
    (if s.fe.pod1.present then 0xFFFF else 0x00FF)

theorem openEntry_delivered {owner : Option Port} {index t n b : Nat} {rest : List Nat} {s : State}
    (h : n < s.store.segs.length) : (openEntry owner index t n b rest s).delivered = s.armState := by
  have seg : (openEntry owner index t n b rest s).seq.seg = some n := by rw [openEntry_seq]
  simp only [State.delivered, seg, openEntry_seg h, if_true, blank_and, openEntry_fe, FrontEnd.entryAt, FrontEnd.latch,
    State.armState]
  cases s.fe.pod0.present <;> cases s.fe.pod1.present <;> rfl

/-- The state in which an arm offers its BASE to the tap. -/
def streamBegun (n b t : Nat) (s : State) : State :=
  { s with
    comp := { last := s.delivered, stagingTime := t, tapTime := t, lossOpen := false, lostCount := 0,
              staging := [.base false s.delivered], heldEnd := false, lastTick := t, tickBefore := 0, tickLost := [] }
    writer := { seg := some n, block := b, written := 0, time := t, cur := s.writer.cur, lossOpen := false, group :=
      [] }
    slots := s.slots.map Slot.atArm
    tap := { s.tap with joining := [] } }

theorem startStream_eq (n b t : Nat) (s : State) :
    startStream n b t s = tapBase t s.delivered (streamBegun n b t s).liveSlots (streamBegun n b t s) := rfl

theorem startStream_liveSlots (n b t : Nat) (s : State) :
    (startStream n b t s).liveSlots = (streamBegun n b t s).liveSlots := by
  have slots : (startStream n b t s).slots = (streamBegun n b t s).slots := by simp [startStream_eq]
  simp only [State.liveSlots, State.slot, slots]

theorem tapActive_iff {s : State} : s.tapActive = true ↔ s.liveSlots ≠ [] := by simp [State.tapActive]

/-- The arm BASE in the tap: nothing without a live slot, else one entry that every live slot owes (R34). -/
theorem startStream_entries {n b t : Nat} {s : State} (seg : s.seq.seg = some n) :
    ((startStream n b t s).liveSlots = [] → (startStream n b t s).tap.entries = s.tap.entries) ∧
    ((startStream n b t s).liveSlots ≠ [] → s.tap.gapOpen = false → s.tap.entries.length ≤ 255 →
      (startStream n b t s).tap.entries = s.tap.entries ++ [⟨.base false s.delivered, t, false,
        (startStream n b t s).liveSlots, some n, (s.seg n).latched.divider⟩]) := by
  rw [startStream_liveSlots]
  refine ⟨fun none => ?_, fun some closed room => ?_⟩
  · rw [startStream_eq, tapBase_inactive (by simpa [none] using not_congr (tapActive_iff (s := streamBegun n b t s)))]
    rfl
  · rw [startStream_eq, tapBase_entered (tapActive_iff.mpr some) closed (Nat.succ_le_succ room)]
    have seg' : (streamBegun n b t s).seq.seg = .some n := seg
    have owed : (streamBegun n b t s).liveSlots.length ≠ 0 := by simpa using some
    simp only [State.entriesOf, owed, if_false, seg', List.map_cons, List.map_nil]
    rfl

theorem startStream_comp (n b t : Nat) (s : State) : (startStream n b t s).comp = (streamBegun n b t s).comp := by
  rw [startStream_eq, tapBase_tapTime]
  have time : (streamBegun n b t s).comp.tapTime = t := rfl
  simp only [time, ite_self]
  rfl

theorem startStream_writer (n b t : Nat) (s : State) : (startStream n b t s).writer = (streamBegun n b t s).writer := by
  simp [startStream_eq]

theorem startStream_joining (n b t : Nat) (s : State) : (startStream n b t s).tap.joining = [] := by
  rw [startStream_eq, tapBase_joining]
  rfl

/-! ## The segment armed -/

section
variable {owner : Option Port} {index t n b : Nat} {rest : List Nat} {s : State}

theorem armSegment_fe (entry : s.lowestEmpty = some n) (blocks : s.store.freeList = b :: rest) :
    (armSegment owner index t s).fe =
      { s.fe with tick := t, lost := [], pod0 := { s.fe.pod0 with blanked := !s.fe.pod0.present }
                  pod1 := { s.fe.pod1 with blanked := !s.fe.pod1.present } } := by
  rw [armSegment_room entry blocks, ← openEntry_fe (owner := owner) (index := index) (n := n) (b := b) (rest := rest)]
  simp

theorem armSegment_seq (entry : s.lowestEmpty = some n) (blocks : s.store.freeList = b :: rest) :
    (armSegment owner index t s).seq = { s.seq with
      acq := .priming, seg := some n, taken := index, primingEnd := t + s.seq.params.wPre, stopTick := none,
      reason := none } := by
  rw [armSegment_room entry blocks, ← openEntry_seq (owner := owner) (index := index) (n := n) (b := b) (rest := rest)]
  simp

theorem armSegment_store (entry : s.lowestEmpty = some n) (blocks : s.store.freeList = b :: rest) :
    (armSegment owner index t s).store.freeList = rest ∧
    (armSegment owner index t s).store.blocks = s.store.blocks.set b { next := none, base := t, used := 0 } := by
  rw [armSegment_room entry blocks]
  simp [openEntry_store]

theorem armSegment_seg (entry : s.lowestEmpty = some n) (blocks : s.store.freeList = b :: rest)
    (h : n < s.store.segs.length) (m : Nat) : (armSegment owner index t s).seg m =
      if m = n then s.fe.entryAt owner index t b else s.seg m := by
  rw [armSegment_room entry blocks, ← openEntry_seg (rest := rest) h]
  exact seg_congr (by simp) m

theorem armSegment_slot (entry : s.lowestEmpty = some n) (blocks : s.store.freeList = b :: rest) (k : Nat) :
    (armSegment owner index t s).slot k = (s.slot k).atArm := by
  obtain ⟨slots, _⟩ := openEntry_slots (owner := owner) (index := index) (t := t) (n := n) (b := b) (rest := rest)
    (s := s)
  rw [armSegment_room entry blocks, startStream_slot, State.slot, slots]
  rfl

/-- The compressor and the writer at the segment's first tick (R21, R28). -/
theorem armSegment_comp (entry : s.lowestEmpty = some n) (blocks : s.store.freeList = b :: rest)
    (h : n < s.store.segs.length) : (armSegment owner index t s).comp =
      { last := s.armState, stagingTime := t, tapTime := t, lossOpen := false, lostCount := 0,
        staging := [.base false s.armState], heldEnd := false, lastTick := t, tickBefore := 0, tickLost := [] } := by
  rw [armSegment_room entry blocks, startStream_comp, streamBegun, openEntry_delivered h]

theorem armSegment_writer (entry : s.lowestEmpty = some n) (blocks : s.store.freeList = b :: rest) :
    (armSegment owner index t s).writer.seg = some n ∧ (armSegment owner index t s).writer.block = b ∧
    (armSegment owner index t s).writer.written = 0 ∧ (armSegment owner index t s).tap.joining = [] := by
  rw [armSegment_room entry blocks, startStream_writer, startStream_joining]
  exact ⟨rfl, rfl, rfl, rfl⟩

theorem armSegment_entries (entry : s.lowestEmpty = some n) (blocks : s.store.freeList = b :: rest)
    (h : n < s.store.segs.length) :
    ((armSegment owner index t s).liveSlots = [] → (armSegment owner index t s).tap.entries = s.tap.entries) ∧
    ((armSegment owner index t s).liveSlots ≠ [] → s.tap.gapOpen = false → s.tap.entries.length ≤ 255 →
      (armSegment owner index t s).tap.entries = s.tap.entries ++
        [⟨.base false s.armState, t, false, (armSegment owner index t s).liveSlots, some n, s.fe.divider⟩]) := by
  have seq := openEntry_seq (owner := owner) (index := index) (t := t) (n := n) (b := b) (rest := rest) (s := s)
  obtain ⟨_, tap⟩ := openEntry_slots (owner := owner) (index := index) (t := t) (n := n) (b := b) (rest := rest)
    (s := s)
  have entries := startStream_entries (n := n) (b := b) (t := t) (s := openEntry owner index t n b rest s) (by rw [seq])
  rw [openEntry_delivered h, openEntry_seg h, if_pos rfl, tap] at entries
  rw [armSegment_room entry blocks]
  exact entries

end

/-! ## ARM (R40, R41, R66) -/

/-- The state after the reclaims that RECLAIM allows. -/
def reclaimedForArm (s : State) : State := if s.seq.params.reclaim = .on then reclaimForArm 16 s else s

/-- The same with the sequence-end flag cleared, which the arm starts from. -/
def readyToArm (s : State) : State :=
  { reclaimedForArm s with seq := { (reclaimedForArm s).seq with seqEnd := false } }

theorem readyToArm_keeps (s : State) : (readyToArm s).fe = s.fe ∧
    (readyToArm s).seq = { s.seq with seqEnd := false } ∧ (readyToArm s).store.mem = s.store.mem ∧
    (readyToArm s).ports.claim = s.ports.claim ∧ (readyToArm s).panel = s.panel := by
  unfold readyToArm reclaimedForArm
  split <;> simp

section
variable {q : Asker} {s : State}

theorem doArm_refused (h : s.seq.acq ≠ .idle ∨ s.store.available = false) : doArm q s = refuse q .wrongState s :=
  if_pos h

theorem doArm_noRoom (idle : s.seq.acq = .idle) (available : s.store.available = true) (h : s.hasRoom = false) :
    doArm q s = refuse q .noRoom s := by
  rw [doArm, if_neg (by simp [idle, available]), if_pos h]

theorem doArm_taken (idle : s.seq.acq = .idle) (available : s.store.available = true) (h : s.hasRoom = true) (t : State)
    (ht : t = armSegment (some q.port) 1 0 (readyToArm s)) :
    doArm q s = answer q .accepted (.armed (t.seq.seg.getD 0) 1) t := by
  have same : (if s.seq.params.reclaims = true then reclaimForArm Config.segmentCount s else s) =
    reclaimedForArm s := by
    simp only [reclaimedForArm, reclaims_iff]
    rfl
  rw [doArm, if_neg (by simp [idle, available]), if_neg (by simp [h])]
  subst ht
  simp only [same]
  rfl

end

/-- Settles O20: the arm by the entry opened and the stream begun; room and the reclaims by the preferred segment. -/
theorem armResult : Obligations.ArmResult := by
  refine ⟨fun p tag s ready => ?arm, fun e => eligible_iff, fun s => hasRoom_iff, fun s len on room => ?reclaims⟩
  case arm =>
    have run : exec (.arm p tag) s = .next (conclude s (doArm (asking p 5 tag) s)) := exec_active ready rfl rfl
    rw [run]
    refine ⟨?taken, fun h => by rw [doArm_refused h], fun idle available h => by rw [doArm_noRoom idle available h]⟩
    intro idle available room r n b rest st hr hn entry blocks hst
    obtain ⟨fe, seq, mem, claim, panel⟩ := readyToArm_keeps s
    obtain rfl : r = reclaimedForArm s := hr
    have entry' : (readyToArm s).lowestEmpty = some n := entry
    have state : (readyToArm s).armState = st := by rw [hst, State.armState, fe]
    have newFe := armSegment_fe (owner := some p) (index := 1) (t := 0) entry' blocks
    have newSeq := armSegment_seq (owner := some p) (index := 1) (t := 0) entry' blocks
    have newSeg := armSegment_seg (owner := some p) (index := 1) (t := 0) entry' blocks hn
    have newComp := armSegment_comp (owner := some p) (index := 1) (t := 0) entry' blocks hn
    obtain ⟨newFree, newBlocks⟩ := armSegment_store (owner := some p) (index := 1) (t := 0) entry' blocks
    obtain ⟨newNone, newSome⟩ := armSegment_entries (owner := some p) (index := 1) (t := 0) entry' blocks hn
    obtain ⟨wSeg, wBlock, wWritten, joining⟩ := armSegment_writer (owner := some p) (index := 1) (t := 0) entry' blocks
    have newSlot := armSegment_slot (owner := some p) (index := 1) (t := 0) entry' blocks
    rw [fe] at newFe newSeg newSome
    rw [seq] at newSeq
    rw [state] at newComp newSome
    refine ⟨armSegment (some p) 1 0 (readyToArm s), ?_, by rw [newFe], by rw [newFe], by rw [newFe], by rw [newSeq],
      by rw [newSeq], by rw [newSeq], by rw [newSeq], by rw [newSeq]; exact Nat.zero_add _, by rw [newSeq],
      by rw [newSeg, if_pos rfl]; rfl, fun m hm => by rw [newSeg, if_neg hm]; rfl, newFree, fun hb => ?_,
      by rw [newComp], by rw [newComp], by rw [newComp], by rw [newComp], by rw [newComp], by rw [newComp], wSeg,
        wBlock,
      wWritten, joining, fun k x hx => ⟨fun source waiting => ?_, fun live => ?_, fun other => ?_⟩, newNone, newSome,
      by simp [mem], by simp [claim], by simp [panel]⟩
    · rw [doArm_taken idle available room _ rfl, asking, newSeq]
      rfl
    · rw [Store.block, newBlocks]
      exact getD_set_self _ _ _ _ hb
    all_goals
      have slot : (readyToArm s).slot k = x := hx
      rw [newSlot, slot]
    · exact Slot.atArm_waiting source waiting
    · exact Slot.atArm_live live
    · exact Slot.atArm_other other
  case reclaims =>
    obtain ⟨entry, blocks⟩ := hasRoom_iff.mp room
    rw [if_pos on, sum_filter_map] at blocks
    have entry' : (∃ e ∈ s.store.segs, e.state = .empty) ∨ ∃ e ∈ s.store.segs, e.eligible = true :=
      entry.imp id fun h => h.2
    have count : s.eligibleCount ≤ 16 := len ▸ sum_map_le_length _ _
    obtain ⟨ns, reclaimed⟩ := reclaimForArm_run 16 s
    obtain ⟨empty, free⟩ := reclaimForArm_room count entry' blocks
    exact ⟨ns, reclaimed.result, empty, free, reclaimed.needed⟩

end Sys2Proof.Machine
end

section
/-! PROOFS. Readout: READ_RECORDS and the records it counts (R82, R83, R216), READ_NOTES (R139). -/

namespace Sys2Proof.Machine

/-! ## The records of a chain and their times (R17, R82) -/

theorem readRecords_eq_map (m : Memory) (b p k : Nat) :
    readRecords m b p k = (List.range k).map fun i => Record.ofWord (readWord m b (p + i)) := by
  induction k generalizing p with
  | zero => rfl
  | succ k ih =>
    rw [readRecords, ih, List.range_succ_eq_map]
    simp [Nat.add_assoc, Nat.add_comm 1]

theorem chainRecords_eq_flatMap (st : Store) (l : List Nat) : chainRecords st l = l.flatMap fun b =>
    (List.range (st.block b).used).map fun i => Record.ofWord (readWord st.mem b i) := by
  induction l with
  | nil => rfl
  | cons b r ih => simp [chainRecords, ih, readRecords_eq_map]

/-- What the count of records up to a tick is: those before it are at or below the tick, the next one is past it. -/
theorem countUpTo_timeRecords (t base : Nat) (recs : List Record) :
    countUpTo t (timeRecords base recs) ≤ recs.length ∧
    (∀ i, i < countUpTo t (timeRecords base recs) → base + ((recs.take (i + 1)).map Record.delta).sum ≤ t) ∧
    (countUpTo t (timeRecords base recs) < recs.length →
      t < base + ((recs.take (countUpTo t (timeRecords base recs) + 1)).map Record.delta).sum) := by
  induction recs generalizing base with
  | nil => simp [timeRecords, countUpTo]
  | cons r rs ih =>
    obtain ⟨few, before, after⟩ := ih (base + r.delta)
    rw [timeRecords, countUpTo]
    split
    · rename_i first
      refine ⟨by simpa using few, fun i hi => ?_, fun h => ?_⟩
      · cases i with
        | zero => simpa using first
        | succ i =>
          have := before i (by omega)
          simp only [List.take_succ_cons, List.map_cons, List.sum_cons]
          omega
      · have := after (by simpa using h)
        simp only [List.take_succ_cons, List.map_cons, List.sum_cons]
        omega
    · rename_i past
      exact ⟨by simp, by simp, fun _ => by simpa using past⟩

/-! ## The header of a records stream (R216) -/

/-- The trigger tick and the trigger flags of the header. -/
def Segment.triggerTick (e : Segment) : Nat := (e.trigger.map (·.tick)).getD 0
def Segment.triggerFlags (e : Segment) : Nat :=
  (e.trigger.map fun g => 1 + (if g.forced then 2 else 0) + (if g.clamped then 4 else 0)).getD 0

theorem recordsHeader_eq_packed (seg lo hi pos base count : Nat) (e : Segment) :
    recordsHeader seg lo hi pos base count e = packed [(1, 1), (1, seg), (6, lo), (6, hi), (4, pos), (6, base),
      (4, count),
      (6, e.start), (6, e.stop), (6, e.triggerTick), (1, e.triggerFlags), (1, (e.reason.map SealReason.code).getD 0),
      (4, e.order), (1, e.index), (3, e.latched.divider), (2, e.latched.mask.toNat), (2, e.latched.code0),
      (2, e.latched.code1), (1, e.latched.blank0.toNat + 2 * e.latched.blank1.toNat), (1, 0), (2, e.losses),
        (2, 0)] := by
  unfold recordsHeader Segment.triggerTick Segment.triggerFlags
  cases e.trigger with
  | none => simp [packed]
  | some g => cases hf : g.forced <;> cases hc : g.clamped <;> simp [packed, hf, hc]

theorem length_recordsHeader (seg lo hi pos base count : Nat) (e : Segment) :
    (recordsHeader seg lo hi pos base count e).length = 68 := by
  rw [recordsHeader_eq_packed, length_packed]
  simp

/-! ## READ_RECORDS (R82, R83) -/

/-- The records stream of a request that is taken. -/
def State.recordsStream (s : State) (n lo hi : Nat) : Stream :=
  { source := .records n
    header := recordsHeader n lo hi (s.firstPos n lo) (s.store.block ((s.seg n).blockAt (s.firstPos n lo))).base
      (s.streamCount n (s.firstPos n lo) hi) (s.seg n)
    headerSent := false, pos := s.firstPos n lo, place := 0, left := s.streamCount n (s.firstPos n lo) hi, cursor := 0,
    ended := false, want := none, acc := [], buffer := [], endQueued := false, cancelled := false, delivered := 0 }

section
variable {q : Asker} {n lo hi : Nat} {s : State}

theorem doReadRecords_noSuch (available : s.store.available = true) (h : 15 < n ∨ (s.seg n).state = .empty) :
    doReadRecords q n lo hi s = refuse q .noSuch s := by
  simp only [doReadRecords, available, noSegment_iff.mpr h, Bool.true_eq_false, if_false, if_true]

theorem doReadRecords_notSealed (available : s.store.available = true) (hn : n ≤ 15)
    (h : (s.seg n).state = .filling ∨ (s.seg n).state = .releasing) :
    doReadRecords q n lo hi s = refuse q .wrongState s := by
  have named : s.noSegment n = false := noSegment_false hn (by rcases h with h | h <;> simp [h])
  have unsealed : (s.seg n).state ≠ .sealed := by rcases h with h | h <;> simp [h]
  simp only [doReadRecords, available, named, ne_eq, unsealed, not_false_eq_true, Bool.true_eq_false,
    Bool.false_eq_true,
    if_false, if_true]

theorem doReadRecords_streaming (available : s.store.available = true) (hn : n ≤ 15) (h : (s.seg n).state = .sealed)
    (stream : (s.ports.port q.port).stream.isSome = true) : doReadRecords q n lo hi s = refuse q .wrongState s := by
  have named : s.noSegment n = false := noSegment_false hn (by simp [h])
  simp only [doReadRecords, available, named, h, stream, ne_eq, not_true, Bool.true_eq_false, Bool.false_eq_true,
    if_false, if_true]

theorem doReadRecords_outside (available : s.store.available = true) (hn : n ≤ 15) (h : (s.seg n).state = .sealed)
    (stream : (s.ports.port q.port).stream = none) (out : min hi (s.seg n).stop < max lo (s.seg n).start) :
    doReadRecords q n lo hi s = refuse q .outOfRange s := by
  have named : s.noSegment n = false := noSegment_false hn (by simp [h])
  simp only [doReadRecords, available, named, h, stream, out, ne_eq, not_true, Bool.true_eq_false, Bool.false_eq_true,
    Option.isSome_none, if_false, if_true]

theorem doReadRecords_taken (available : s.store.available = true) (hn : n ≤ 15) (h : (s.seg n).state = .sealed)
    (stream : (s.ports.port q.port).stream = none) (inside : max lo (s.seg n).start ≤ min hi (s.seg n).stop) {u : State}
    (hu : u = setStream q.port (some (s.recordsStream n (max lo (s.seg n).start) (min hi (s.seg n).stop)))
      (answer q .accepted (.recordsStream (max lo (s.seg n).start) (min hi (s.seg n).stop)
        (s.recordsStream n (max lo (s.seg n).start) (min hi (s.seg n).stop)).left)
        (s.setSeg n { s.seg n with pins := setRead q.port (s.seg n).pins }))) :
    doReadRecords q n lo hi s = if q.port = .tether then pumpTether u else u := by
  have named : s.noSegment n = false := noSegment_false hn (by simp [h])
  simp only [doReadRecords, available, named, h, stream, ne_eq, not_true, Bool.true_eq_false, Bool.false_eq_true,
    Option.isSome_none, if_false, if_neg (Nat.not_lt.mpr inside)]
  subst hu
  cases q.port <;> rfl

end

/-- Settles O26: the stream of a request that is taken, its count and its header; the refusals in their order. -/
theorem readRecordsResult : Obligations.ReadRecordsResult := by
  intro p tag n lo hi s ready available
  have run : exec (.readRecords p tag n lo hi) s = .next (conclude s (doReadRecords (asking p 12 tag) n lo hi s)) :=
    exec_active ready rfl rfl
  rw [run]
  refine ⟨fun hn sealed stream inside => ?taken, fun h => by rw [doReadRecords_noSuch available h],
    fun hn h => by rw [doReadRecords_notSealed available hn h],
    fun hn h stream => by rw [doReadRecords_streaming available hn h stream],
    fun hn h stream out => by rw [doReadRecords_outside available hn h stream out]⟩
  refine ⟨s.recordsStream n (max lo (s.seg n).start) (min hi (s.seg n).stop), _, rfl,
    by rw [doReadRecords_taken available hn sealed stream inside rfl]; rfl, rfl, rfl, rfl, rfl, rfl,
    fun recs time hrecs htime => ?count, length_recordsHeader ..,
      fun e tick flags reason he hreason none some o w v field j hj => ?header⟩
  case count =>
    rw [← chainRecords_eq_flatMap] at hrecs
    obtain ⟨few, before, after⟩ := countUpTo_timeRecords (min hi (s.seg n).stop)
      (s.store.block ((s.seg n).blockAt (s.firstPos n (max lo (s.seg n).start)))).base recs
    subst hrecs
    simp only [htime]
    exact ⟨few, before, after⟩
  case header =>
    subst he
    have ticks : tick = (s.seg n).triggerTick ∧ flags = (s.seg n).triggerFlags := by
      unfold Segment.triggerTick Segment.triggerFlags
      cases h : (s.seg n).trigger with
      | none => exact none h
      | some g => exact some g h
    obtain ⟨rfl, rfl⟩ := ticks
    have placed := getElem?_packed (b := 0) (fields := [(1, 1), (1, n), (6, max lo (s.seg n).start),
      (6, min hi (s.seg n).stop), (4, s.firstPos n (max lo (s.seg n).start)),
      (6, (s.store.block ((s.seg n).blockAt (s.firstPos n (max lo (s.seg n).start)))).base),
      (4, s.streamCount n (s.firstPos n (max lo (s.seg n).start)) (min hi (s.seg n).stop)),
      (6, (s.seg n).start), (6, (s.seg n).stop), (6, (s.seg n).triggerTick), (1, (s.seg n).triggerFlags),
      (1, ((s.seg n).reason.map SealReason.code).getD 0), (4, (s.seg n).order), (1, (s.seg n).index),
      (3, (s.seg n).latched.divider), (2, (s.seg n).latched.mask.toNat), (2, (s.seg n).latched.code0),
      (2, (s.seg n).latched.code1), (1, (s.seg n).latched.blank0.toNat + 2 * (s.seg n).latched.blank1.toNat), (1, 0),
      (2, (s.seg n).losses), (2, 0)]) (o := o) (v := v) (by rw [hreason]; exact field) hj
    rw [← recordsHeader_eq_packed] at placed
    exact placed

/-! ## READ_NOTES (R139) -/

/-- The annotation stream of a request that is taken. -/
def State.notesStream (s : State) (k n lo hi limit count : Nat) : Stream :=
  { source := .notes k n lo hi, header := notesHeader k n lo hi limit count, headerSent := false, pos := 0, place := 0,
    left := limit, cursor := 0, ended := (s.notesOf k).length = 0, want := none, acc := [], buffer := [],
    endQueued := false, cancelled := false, delivered := 0 }

section
variable {q : Asker} {k n lo hi m : Nat} {s : State}

theorem doReadNotes_noSuch (h : 3 < k ∨ (s.slot k).state = .free ∨ 15 < n ∨ (s.seg n).state = .empty) :
    doReadNotes q k n lo hi m s = refuse q .noSuch s := by
  unfold doReadNotes
  split
  · rfl
  · rename_i slot
    have unnamed : 15 < n ∨ (s.seg n).state = .empty := by
      rcases h with high | free | unnamed
      · exact absurd (Or.inl high) slot
      · exact absurd (Or.inr free) slot
      · exact unnamed
    rw [if_pos (noSegment_iff.mpr unnamed)]

theorem doReadNotes_outOfRange (hk : k ≤ 3) (slot : (s.slot k).state ≠ .free) (named : s.noSegment n = false)
    (h : m = 0 ∨ 4096 < m ∨ hi < lo) : doReadNotes q k n lo hi m s = refuse q .outOfRange s := by
  rw [doReadNotes, if_neg (by simp [slot, hk]), if_neg (by simp [named]), if_pos h]

theorem doReadNotes_streaming (hk : k ≤ 3) (slot : (s.slot k).state ≠ .free) (named : s.noSegment n = false)
    (h : ¬(m = 0 ∨ 4096 < m ∨ hi < lo)) (stream : (s.ports.port q.port).stream.isSome = true) :
    doReadNotes q k n lo hi m s = refuse q .wrongState s := by
  rw [doReadNotes, if_neg (by simp [slot, hk]), if_neg (by simp [named]), if_neg h, if_pos stream]

theorem doReadNotes_taken (hk : k ≤ 3) (slot : (s.slot k).state ≠ .free) (named : s.noSegment n = false)
    (h : ¬(m = 0 ∨ 4096 < m ∨ hi < lo)) (stream : (s.ports.port q.port).stream = none) {count : Nat} {u : State}
    (hc : count = min m ((s.notesOf k).filter (noteSelected n lo hi)).length)
    (hu : u = setStream q.port (some (s.notesStream k n lo hi m count)) (answer q .accepted (.notesStream count) s)) :
    doReadNotes q k n lo hi m s = if q.port = .tether then pumpTether u else u := by
  rw [doReadNotes, if_neg (by simp [slot, hk]), if_neg (by simp [named]), if_neg h, if_neg (by simp [stream])]
  subst hc hu
  cases q.port <;> rfl

end

/-- Settles O31: the stream of a request that is taken, and the refusals in their order. -/
theorem readNotesResult : Obligations.ReadNotesResult := by
  intro p tag k n lo hi m s ready
  have run : exec (.readNotes p tag k n lo hi m) s = .next (doReadNotes (asking p 18 tag) k n lo hi m s) :=
    exec_ready ready rfl
  rw [run]
  refine ⟨fun h => by rw [doReadNotes_noSuch h], fun hk slot hn seg => ?_⟩
  have named := noSegment_false hn seg
  refine ⟨fun h => by rw [doReadNotes_outOfRange hk slot named h], fun low high order stream => ?_,
    fun low high order stream => ?_⟩
  · rw [doReadNotes_streaming hk slot named (by omega) stream]
  · refine ⟨s.notesStream k n lo hi m (min m ((s.notesOf k).countP fun e => e.seg = n && lo ≤ e.start && e.start ≤ hi)),
      _, _, rfl, rfl, ?_, rfl, rfl, rfl, ?_, rfl, ?_⟩
    · rw [doReadNotes_taken hk slot named (by omega) stream rfl rfl, ← List.countP_eq_length_filter]
      rfl
    · simp [State.notesStream, notesHeader]
    · simp [State.notesStream]

end Sys2Proof.Machine
end

section
/-! PROOFS. The decoder slots' requests: DEC_START and its checks (R106 to R108), DEC_STOP and DEC_CLEAR (R111, R112,
R137). -/

namespace Sys2Proof.Machine

/-! ## Where a reader of a segment begins (R83) -/

/-- The block found is the last of the list at or below the tick, or the one that stood before the list. -/
theorem posAtOrBelow_cases (st : Store) (t : Nat) (l : List Nat) (pos best : Nat) :
    (posAtOrBelow st t l pos best = best ∧ ∀ b ∈ l, t < (st.block b).base) ∨
    ∃ i, i < l.length ∧ posAtOrBelow st t l pos best = pos + i ∧ (st.block (l.getD i 0)).base ≤ t ∧
      ∀ b ∈ l.drop (i + 1), t < (st.block b).base := by
  induction l generalizing pos best with
  | nil => exact .inl ⟨rfl, by simp⟩
  | cons a r ih =>
    rw [posAtOrBelow]
    rcases ih (pos + 1) (if (st.block a).base ≤ t then pos else best) with ⟨same, past⟩ | ⟨i, hi, at_, low, past⟩
    · rw [same]
      split
      · rename_i low
        exact .inr ⟨0, by simp, rfl, low, past⟩
      · rename_i high
        exact .inl ⟨rfl, by simpa using ⟨Nat.lt_of_not_le high, past⟩⟩
    · exact .inr ⟨i + 1, by simpa using hi, by rw [at_]; omega, by simpa using low, by simpa using past⟩

/-- R83: the stream's first block. -/
theorem firstPos_cases (s : State) (n t : Nat) {chain : List Nat} (h : (s.seg n).chain = chain) (some : chain ≠ []) :
    ∃ i, i < chain.length ∧ s.firstPos n t = (s.seg n).trimmed + i ∧
      (s.seg n).blockAt (s.firstPos n t) = chain.getD i 0 ∧
      (∀ b ∈ chain.drop (i + 1), t < (s.store.block b).base) ∧
      ((s.store.block (chain.getD i 0)).base ≤ t ∨ (i = 0 ∧ ∀ b ∈ chain, t < (s.store.block b).base)) := by
  have pos : s.firstPos n t = posAtOrBelow s.store t chain (s.seg n).trimmed (s.seg n).trimmed := by
    rw [State.firstPos, h]
  have block : ∀ i, s.firstPos n t = (s.seg n).trimmed + i → (s.seg n).blockAt (s.firstPos n t) = chain.getD i 0 := by
    intro i hi
    rw [hi, Segment.blockAt, h, Nat.add_sub_cancel_left]
  rcases posAtOrBelow_cases s.store t chain (s.seg n).trimmed (s.seg n).trimmed with ⟨same, past⟩ | ⟨i, hi, at_, low,
    past⟩
  · have first : s.firstPos n t = (s.seg n).trimmed + 0 := pos.trans same
    exact ⟨0, List.length_pos_iff.mpr some, first, block 0 first,
      fun b hb => past b (List.mem_of_mem_drop hb), .inr ⟨rfl, past⟩⟩
  · exact ⟨i, hi, pos.trans at_, block i (pos.trans at_), past, .inl low⟩

/-! ## DEC_START (R106, R107) -/

section
variable {q : Asker} {k : Nat} {pr : Protocol} {src : Source} {quota level : Nat} {s : State}

theorem doDecStart_refused {st : Status} (h : startCheck k pr src quota level s = some st) :
    doDecStart q k pr src quota level s = refuse q st s := by
  simp only [doDecStart, h]

theorem doDecStart_live (h : startCheck k pr .live quota level s = none) :
    doDecStart q k pr .live quota level s = startLive q k pr quota level s := by
  simp only [doDecStart, h]

theorem doDecStart_offline {n lo hi : Nat} (h : startCheck k pr (.offline n lo hi) quota level s = none) :
    doDecStart q k pr (.offline n lo hi) quota level s = startOffline q k pr n lo hi quota level s := by
  simp only [doDecStart, h]

theorem startLive_idle (h : s.seq.acq = .idle) : startLive q k pr quota level s = answer q .accepted
    (.slotStarted .waiting (filledSlot q pr .live quota level s).period none)
    (s.setSlot k { filledSlot q pr .live quota level s with state := .waiting }) := by
  simp only [startLive, h]

theorem startLive_draining (h : s.seq.acq = .draining) : startLive q k pr quota level s = answer q .accepted
    (.slotStarted .running (filledSlot q pr .live quota level s).period none)
    (s.setSlot k { filledSlot q pr .live quota level s with joinNext := true }) := by
  simp only [startLive, h]

theorem startLive_sampling (h : s.seq.acq.sampling = true) : startLive q k pr quota level s = answer q .accepted
    (.slotStarted .running (filledSlot q pr .live quota level s).period none)
    { s.setSlot k (filledSlot q pr .live quota level s) with
      tap := { s.tap with joining := if s.tap.gapOpen then s.tap.joining else s.tap.joining ++ [k] }
      comp := { s.comp with tapTime := if s.liveSlots = [] then s.fe.tick else s.comp.tapTime } } := by
  have time : (if s.tapActive then s.comp.tapTime else s.fe.tick) = if s.liveSlots =
    [] then s.fe.tick else s.comp.tapTime := by
    by_cases none : s.liveSlots = [] <;> simp [State.tapActive, none]
  unfold startLive
  split
  · rename_i idle
    simp [idle, AcqState.sampling] at h
  · rename_i draining
    simp [draining, AcqState.sampling] at h
  · rw [time]

end

/-- Settles O27: the slot by its source and the acquisition state; the first block by the walk along the chain. -/
theorem decStartResult : Obligations.DecStartResult := by
  refine ⟨fun p tag k pr src quota level s ready => ?start, fun s n t chain h some => firstPos_cases s n t h some⟩
  have run : exec (.decStart p tag k pr src quota level) s =
      .next (conclude s (doDecStart (asking p 13 tag) k pr src quota level s)) := exec_active ready rfl rfl
  rw [run]
  refine ⟨fun st h => by rw [doDecStart_refused h], fun passed x hx => ⟨fun live idle => ?_, fun live draining => ?_,
    fun live sampling => ?_, fun n lo hi offline => ?_⟩⟩
  · subst live hx
    rw [doDecStart_live passed, startLive_idle idle]
    rfl
  · subst live hx
    rw [doDecStart_live passed, startLive_draining draining]
    rfl
  · subst live hx
    rw [doDecStart_live passed, startLive_sampling sampling]
    rfl
  · subst offline hx
    refine ⟨_, _, _, rfl, rfl, rfl, ?_⟩
    rw [doDecStart_offline passed]
    rfl

/-! ## The checks of DEC_START (R106) -/

theorem protocolInRange_uart {c : UartCfg} : protocolInRange (.uart c) = true ↔ c.rx ≤ 15 ∧ 5 ≤ c.dataBits ∧
    c.dataBits ≤ 9 ∧ (c.stopBits = 1 ∨ c.stopBits = 2) ∧ 50 ≤ c.baud ∧ c.baud ≤ 25000000 := by
  have stops : c.stopBits = 1 ∨ c.stopBits = 2 ↔ 1 ≤ c.stopBits ∧ c.stopBits ≤ 2 := by omega
  simp only [protocolInRange, Bool.and_eq_true, decide_eq_true_eq, stops, and_assoc]

theorem protocolInRange_spi {c : SpiCfg} {chans : List Nat}
    (h : chans = [c.clock, c.mosi] ++ c.select.toList ++ c.miso.toList) :
    protocolInRange (.spi c) = true ↔ (∀ ch ∈ chans, ch ≤ 15) ∧ chans.Nodup ∧ 4 ≤ c.wordLength ∧ c.wordLength ≤ 16 ∧
      c.gapTimeout < 2 ^ 32 := by
  subst h
  have timeout : c.gapTimeout < 2 ^ 32 ↔ c.gapTimeout ≤ 4294967295 := by omega
  simp only [protocolInRange, Bool.and_eq_true, decide_eq_true_eq, List.all_eq_true, distinct, timeout, and_assoc]

theorem protocolInRange_i2c {c : I2cCfg} :
    protocolInRange (.i2c c) = true ↔ c.scl ≤ 15 ∧ c.sda ≤ 15 ∧ c.scl ≠ c.sda := by
  simp only [protocolInRange, Bool.and_eq_true, decide_eq_true_eq, and_assoc]

theorem protocolInRange_strobed {c : StrobeCfg} : protocolInRange (.strobed c) = true ↔ 1 ≤ c.data.length ∧
    c.data.length ≤ 8 ∧ c.strobe ≤ 15 ∧ (∀ ch ∈ c.data, ch ≤ 15) ∧ c.strobe ∉ c.data ∧ c.data.Nodup := by
  simp [protocolInRange, distinct, List.nodup_cons, and_assoc]

section
variable {k : Nat} {pr : Protocol} {src : Source} {quota level : Nat} {s : State}

/-- The checks of R106 up to the quotas of all slots together. -/
structure SlotFits (k : Nat) (pr : Protocol) (quota level : Nat) (s : State) : Prop where
  number : k ≤ 3
  free : (s.slot k).state = .free
  protocol : protocolInRange pr = true
  some : 1 ≤ quota
  most : quota ≤ 8192
  level : level ≤ 32

theorem startCheck_noSuch (h : 3 < k) : startCheck k pr src quota level s = some .noSuch := if_pos h

theorem startCheck_notFree (hk : k ≤ 3) (h : (s.slot k).state ≠ .free) :
    startCheck k pr src quota level s = some .wrongState := by
  rw [startCheck, if_neg (by omega), if_pos h]

theorem startCheck_outOfRange (hk : k ≤ 3) (free : (s.slot k).state = .free)
    (h : protocolInRange pr = false ∨ quota = 0 ∨ 8192 < quota ∨ 32 < level) :
    startCheck k pr src quota level s = some .outOfRange := by
  rw [startCheck, if_neg (by omega), if_neg (by simp [free]), if_pos]
  simp only [Bool.not_eq_true', Bool.and_eq_false_iff, decide_eq_false_iff_not, Config.noteCount]
  rcases h with h | h | h | h
  · exact .inl (.inl (.inl h))
  · exact .inl (.inl (.inr (by omega)))
  · exact .inl (.inr (decide_eq_false (Nat.not_le.mpr h)))
  · exact .inr (by omega)

theorem startCheck_fits (h : SlotFits k pr quota level s) : startCheck k pr src quota level s =
    if 8192 < s.quotas + quota then some .noRoom
    else match sourceCheck s src with
      | some st => some st
      | none => if periodShort
        (Protocol.periodFor (some pr) (s.sourceDivider src)) then some .outOfRange else none := by
  rw [startCheck, if_neg (Nat.not_lt.mpr h.number), if_neg (not_not_intro h.free), if_neg]
  · rfl
  · simp [h.protocol, h.some, h.most, h.level, Config.noteCount]

theorem startCheck_noRoom (h : SlotFits k pr quota level s) (full : 8192 < s.quotas + quota) :
    startCheck k pr src quota level s = some .noRoom := by
  rw [startCheck_fits h, if_pos full]

theorem startCheck_source (h : SlotFits k pr quota level s) (room : s.quotas + quota ≤ 8192) {st : Status}
    (source : sourceCheck s src = some st) : startCheck k pr src quota level s = some st := by
  rw [startCheck_fits h, if_neg (Nat.not_lt.mpr room), source]

theorem startCheck_period (h : SlotFits k pr quota level s) (room : s.quotas + quota ≤ 8192)
    (source : sourceCheck s src = none) : startCheck k pr src quota level s =
      if periodShort (Protocol.periodFor (some pr) (s.sourceDivider src)) then some .outOfRange else none := by
  rw [startCheck_fits h, if_neg (Nat.not_lt.mpr room), source]

theorem sourceCheck_sealed {n lo hi : Nat} (available : s.store.available = true) (hn : n ≤ 15)
    (h : (s.seg n).state = .sealed) : sourceCheck s (.offline n lo hi) =
      if min hi (s.seg n).stop < max lo (s.seg n).start then some .outOfRange else none := by
  have named : s.noSegment n = false := noSegment_false hn (by simp [h])
  simp only [sourceCheck, available, named, h, ne_eq, not_true, Bool.true_eq_false, Bool.false_eq_true, if_false]

theorem sourceCheck_unsealed {n lo hi : Nat} (available : s.store.available = true) (hn : n ≤ 15)
    (h : (s.seg n).state = .filling ∨ (s.seg n).state = .releasing) :
    sourceCheck s (.offline n lo hi) = some .wrongState := by
  have named : s.noSegment n = false := noSegment_false hn (by rcases h with h | h <;> simp [h])
  have unsealed : (s.seg n).state ≠ .sealed := by rcases h with h | h <;> simp [h]
  simp only [sourceCheck, available, named, ne_eq, unsealed, not_false_eq_true, Bool.true_eq_false, Bool.false_eq_true,
    if_false, if_true]

end

/-- Settles O28: the checks in turn, each past those before it, and the ranges of the four protocols. -/
theorem decStartChecks : Obligations.DecStartChecks := by
  refine ⟨fun k pr quota level s => ⟨fun src => startCheck_noSuch, fun src => startCheck_notFree,
    fun src => startCheck_outOfRange, fun hk free protocol some most hl => ⟨fun src => ?noRoom,
      fun room => ⟨?source, ?period⟩⟩,
    fun n lo hi => rfl, fun n h => by simp only [State.sourceDivider, h], fun h => by simp only [State.sourceDivider,
      h]⟩,
    fun c => protocolInRange_uart, fun c chans => protocolInRange_spi, fun c => protocolInRange_i2c,
    fun c => protocolInRange_strobed, fun code => rfl⟩
  all_goals have fits : SlotFits k pr quota level s := ⟨hk, free, protocol, some, most, hl⟩
  case noRoom => exact startCheck_noRoom fits
  case source =>
    rintro n lo hi src rfl
    refine ⟨fun off => ?_, fun on none => ?_, fun on hn h => ?_, fun on hn h out => ?_⟩ <;>
      refine startCheck_source fits room ?_
    · exact if_pos off
    · simp only [sourceCheck, on, noSegment_iff.mpr none, Bool.true_eq_false, if_false, if_true]
    · exact sourceCheck_unsealed on hn h
    · rw [sourceCheck_sealed on hn h, if_pos out]
  case period =>
    intro src source
    have passed : sourceCheck s src = none := by
      rcases source with rfl | ⟨on, n, lo, hi, rfl, hn, h, inside⟩
      · rfl
      · rw [sourceCheck_sealed on hn h, if_neg (Nat.not_lt.mpr inside)]
    rw [startCheck_period fits room passed]
    refine ⟨?_, fun long => if_neg ?_⟩
    · rintro c rfl short
      exact if_pos (decide_eq_true short)
    · cases pr with
      | uart c => simpa [Protocol.periodFor, periodShort] using long c rfl
      | _ => simp [Protocol.periodFor, periodShort]

/-! ## DEC_STOP and DEC_CLEAR (R111, R112, R137) -/

section
variable {q : Asker} {k : Nat} {s : State}

theorem doDecStop_refused {st : Status} (h : slotCheck q k s = some st) : doDecStop q k s = refuse q st s := by
  rw [doDecStop, h]

theorem doDecStop_stops (h : slotCheck q k s = none) (on : (s.slot k).state = .running ∨ (s.slot k).state = .waiting) :
    doDecStop q k s = answer q .ok .none (stopSlot k .request s) := by
  simp only [doDecStop, h, if_pos on]

theorem doDecStop_over (h : slotCheck q k s = none)
    (off : (s.slot k).state = .done ∨ (s.slot k).state = .truncated ∨ (s.slot k).state = .stopped) :
    doDecStop q k s = refuse q .wrongState s := by
  have neither : ¬((s.slot k).state = .running ∨ (s.slot k).state = .waiting) := by
    rcases off with h | h | h <;> simp [h]
  simp only [doDecStop, h, if_neg neither]

theorem Slot.live_iff {x : Slot} : x.live = true ↔ x.state = .running ∧ x.source = some .live := by
  simp [Slot.live]

theorem Slot.offline_iff {x : Slot} : x.offline = true ↔ x.state = .running ∧ x.source ≠ some .live := by
  simp [Slot.offline]

theorem stopSlot_waiting {cause : StopCause} (h : (s.slot k).state = .waiting) :
    stopSlot k cause s = s.setSlot k { s.slot k with state := .stopped, cause := some cause } := by
  simp only [stopSlot, Slot.live, Slot.offline, h, if_true]
  rfl

theorem stopSlot_live {cause : StopCause} (h : (s.slot k).live = true) : stopSlot k cause s =
    leaveTap k (s.setSlot k { s.slot k with state := .stopped, cause := some cause, tag := none, joinNext := false }) :=
  if_pos h

theorem stopSlot_offline {cause : StopCause} (h : (s.slot k).offline = true) (hk : k < s.slots.length) :
    stopSlot k cause s = dropPin (s.slot k).segment (fun q => { q with decode := q.decode - 1 })
      (withdraw .decoder k (s.setSlot k { s.slot k with state := .stopped, cause := some cause })) := by
  have notLive : (s.slot k).live = false := by
    obtain ⟨_, source⟩ := Slot.offline_iff.mp h
    simp [Slot.live, source]
  have slot : (s.setSlot k { s.slot k with cause := some cause }).slot k = { s.slot k with cause := some cause } := by
    rw [slot_setSlot hk, if_pos rfl]
  have twice : ∀ x y : Slot, (s.setSlot k x).setSlot k y = s.setSlot k y := by
    intro x y
    simp [State.setSlot]
  simp only [stopSlot, notLive, h, finishOffline, slot, twice, if_true, Bool.false_eq_true, if_false]
  rfl

theorem doDecClear_refused {st : Status} (h : slotCheck q k s = some st) : doDecClear q k s = refuse q st s := by
  rw [doDecClear, h]

theorem doDecClear_cleared (h : slotCheck q k s = none) :
    doDecClear q k s = answer q .ok (.removed (s.notesOf k).length) (freeSlot k s) := by
  rw [doDecClear, h]

theorem purgeSlot_keeps (k : Nat) (s : State) : (purgeSlot k s).slots = s.slots ∧ (purgeSlot k s).notes =
    s.notes.set k [] ∧
    (purgeSlot k s).store = s.store := by
  simp [purgeSlot]

theorem freeSlot_slot (hk : k < s.slots.length) : (freeSlot k s).slot k = Slot.empty := by
  obtain ⟨slots, _, _⟩ := purgeSlot_keeps k ((stopSlot k .request s).setSlot k Slot.empty)
  rw [freeSlot, State.slot, slots]
  exact getD_set_self _ _ _ _ (by simpa using hk)

theorem freeSlot_notes (k : Nat) (s : State) : (freeSlot k s).notes = (stopSlot k .request s).notes.set k [] := by
  obtain ⟨_, notes, _⟩ := purgeSlot_keeps k ((stopSlot k .request s).setSlot k Slot.empty)
  exact notes

theorem freeSegment_notes_length (n : Nat) (s : State) : (freeSegment n s).notes.length = s.notes.length := by
  simp [freeSegment, purgeSegment, removeNotes_length]

theorem dropPin_notes_length (n : Nat) (f : Pins → Pins) (s : State) : (dropPin n f s).notes.length =
    s.notes.length := by
  unfold dropPin
  dsimp only
  split
  · exact freeSegment_notes_length n _
  · rfl

theorem stopSlot_notes_length (k : Nat) (cause : StopCause) (s : State) :
    (stopSlot k cause s).notes.length = s.notes.length := by
  unfold stopSlot
  dsimp only
  split
  · simp [stopLive]
  · split
    · simp [finishOffline, dropPin_notes_length]
    · split <;> rfl

/-- A slot that does not read the store leaves every annotation and the store as they are when it stops. -/
theorem stopSlot_notOffline {cause : StopCause} (h : (s.slot k).offline = false) :
    (stopSlot k cause s).notes = s.notes ∧ (stopSlot k cause s).store = s.store := by
  unfold stopSlot
  simp only [h, Bool.false_eq_true, if_false]
  split
  · simp [stopLive]
  · split <;> simp

end

/-- Settles O29: DEC_STOP by what the slot does; DEC_CLEAR by the slot freed. -/
theorem decStopClearResult : Obligations.DecStopClearResult := by
  refine ⟨fun p tag k s ready => ?stop, fun p tag k s ready slots notes => ?clear⟩
  case stop =>
    have run : exec (.decStop p tag k) s = .next (doDecStop (asking p 14 tag) k s) := exec_ready ready rfl
    rw [run]
    refine ⟨fun h => by rw [doDecStop_refused (slotCheck_noSuch h)],
      fun hk hf ho => by rw [doDecStop_refused (slotCheck_foreign hk hf ho)], fun hk hf ho => ?_⟩
    have passed := slotCheck_passed (q := asking p 14 tag) hk hf ho
    refine ⟨fun waiting => ?_, fun live => ?_, fun offline inside => ?_, fun off => by rw [doDecStop_over passed off]⟩
    · rw [doDecStop_stops passed (.inr waiting), stopSlot_waiting waiting]
    · rw [doDecStop_stops passed (.inl (Slot.live_iff.mp live).1), stopSlot_live live]
    · rw [doDecStop_stops passed (.inl (Slot.offline_iff.mp offline).1), stopSlot_offline offline inside]
  case clear =>
    have run : exec (.decClear p tag k) s = .next (doDecClear (asking p 15 tag) k s) := exec_ready ready rfl
    rw [run]
    refine ⟨fun hk hf ho => ?_, fun h => by rw [doDecClear_refused (slotCheck_noSuch h)],
      fun hk hf ho => by rw [doDecClear_refused (slotCheck_foreign hk hf ho)]⟩
    rw [doDecClear_cleared (slotCheck_passed hk hf ho)]
    refine ⟨freeSlot k s, rfl, freeSlot_slot (by omega), ?_, by simp, by simp, by simp, fun off => ⟨fun j hj => ?_, ?_⟩⟩
    · rw [State.notesOf, freeSlot_notes]
      exact getD_set_self _ _ _ _ (by rw [stopSlot_notes_length]; omega)
    · rw [State.notesOf, freeSlot_notes, (stopSlot_notOffline off).1]
      exact getD_set_ne _ _ _ hj
    · obtain ⟨_, _, store⟩ := purgeSlot_keeps k ((stopSlot k .request s).setSlot k Slot.empty)
      exact store.trans (stopSlot_notOffline off).2

end Sys2Proof.Machine
end

section
/-! PROOFS. Measurements: what the engine does with records (R143, R144), its result (R145), MEASURE and MEASURE_RESULT
(R142, R147). -/

namespace Sys2Proof.Machine

/-! ## Counts by channel -/

theorem length_bumpFrom (bits : Half) (n k : Nat) (l : List Nat) : (bumpFrom bits n k l).length = l.length := by
  induction l generalizing k with
  | nil => rfl
  | cons c r ih => simp [bumpFrom, ih]

theorem getElem?_bumpFrom (bits : Half) (n b k : Nat) (l : List Nat) :
    (bumpFrom bits n b l)[k]? = l[k]?.map fun c => if bits.getLsbD (b + k) then c + n else c := by
  induction l generalizing b k with
  | nil => rfl
  | cons c r ih =>
    cases k with
    | zero => simp [bumpFrom]
    | succ k =>
      rw [bumpFrom, List.getElem?_cons_succ, ih, List.getElem?_cons_succ, Nat.add_assoc, Nat.add_comm 1]

/-- The channels of a result are those of the mask. -/
theorem mem_chanResults {mask : Half} {u k : Nat} {es hs : List Nat} {c : ChanResult} :
    c ∈ chanResults mask u k es hs ↔ mask.getLsbD c.chan = true ∧ k ≤ c.chan ∧ es[c.chan - k]? = some c.edges ∧
      hs[c.chan - k]? = some c.high ∧ c.unknown = u := by
  induction es generalizing k hs with
  | nil => simp [chanResults]
  | cons e es ih =>
    cases hs with
    | nil => simp [chanResults]
    | cons h hs =>
      have rest := ih (k := k + 1) (hs := hs)
      have here : c = { chan := k, edges := e, high := h, unknown := u } ↔
          c.chan = k ∧ c.edges = e ∧ c.high = h ∧ c.unknown = u := by
        cases c
        simp
      have split : ∀ l : List Nat, ∀ x y, k ≤ c.chan → ((x :: l)[c.chan - k]? = some y ↔
          (c.chan = k ∧ x = y) ∨ (k + 1 ≤ c.chan ∧ l[c.chan - (k + 1)]? = some y)) := by
        intro l x y low
        rcases Nat.eq_or_lt_of_le low with e | lt
        · rw [show c.chan - k = 0 by omega, List.getElem?_cons_zero]
          constructor
          · exact fun h => .inl ⟨e.symm, Option.some.inj h⟩
          · rintro (⟨_, h⟩ | ⟨lt, _⟩)
            · rw [h]
            · omega
        · obtain ⟨d, hd⟩ : ∃ d, c.chan - k = d + 1 := ⟨c.chan - (k + 1), by omega⟩
          have back : c.chan - (k + 1) = d := by omega
          rw [hd, List.getElem?_cons_succ, back]
          constructor
          · exact fun h => .inr ⟨lt, h⟩
          · rintro (⟨e, _⟩ | ⟨_, h⟩)
            · omega
            · exact h
      rw [chanResults]
      split
      · rename_i bit
        rw [List.mem_cons, rest, here]
        constructor
        · rintro (⟨rfl, rfl, rfl, rfl⟩ | ⟨hm, low, he, hh, hu⟩)
          · simp [bit]
          · exact ⟨hm, by omega, (split es _ _ (by omega)).mpr (.inr ⟨low, he⟩),
              (split hs _ _ (by omega)).mpr (.inr ⟨low, hh⟩), hu⟩
        · rintro ⟨hm, low, he, hh, hu⟩
          rcases (split es _ _ low).mp he with ⟨same, ee⟩ | ⟨after, he⟩
          · rcases (split hs _ _ low).mp hh with ⟨_, hh⟩ | ⟨after, _⟩
            · exact .inl ⟨same, ee.symm, hh.symm, hu⟩
            · omega
          · rcases (split hs _ _ low).mp hh with ⟨same, _⟩ | ⟨_, hh⟩
            · omega
            · exact .inr ⟨hm, after, he, hh, hu⟩
      · rename_i bit
        rw [rest]
        constructor
        · rintro ⟨hm, low, he, hh, hu⟩
          exact ⟨hm, by omega, (split es _ _ (by omega)).mpr (.inr ⟨low, he⟩),
            (split hs _ _ (by omega)).mpr (.inr ⟨low, hh⟩), hu⟩
        · rintro ⟨hm, low, he, hh, hu⟩
          have other : c.chan ≠ k := fun e => bit (e ▸ hm)
          rcases (split es _ _ low).mp he with ⟨same, _⟩ | ⟨after, he⟩
          · exact absurd same other
          · rcases (split hs _ _ low).mp hh with ⟨same, _⟩ | ⟨_, hh⟩
            · exact absurd same other
            · exact ⟨hm, after, he, hh, hu⟩

/-! ## Accounting (R144) -/

section
variable {m : Measure} {t : Nat}

theorem account_past (h : min t m.b ≤ m.acct) : m.account t = m := if_pos h

theorem account_known {st : Half} (h : m.acct < min t m.b) (cur : m.cur = some st) :
    m.account t = { m with high := bumpFrom st (min t m.b - m.acct) 0 m.high, acct := min t m.b } := by
  rw [Measure.account, if_neg (Nat.not_le.mpr h), cur]

theorem account_unknown (h : m.acct < min t m.b) (cur : m.cur = none) :
    m.account t = { m with unknown := m.unknown + (min t m.b - m.acct), acct := min t m.b } := by
  rw [Measure.account, if_neg (Nat.not_le.mpr h), cur]

/-- What accounting leaves alone. -/
theorem account_keeps (m : Measure) (t : Nat) : (m.account t).st = m.st ∧ (m.account t).port = m.port ∧
    (m.account t).seg = m.seg ∧ (m.account t).a = m.a ∧ (m.account t).b = m.b ∧ (m.account t).mask = m.mask ∧
    (m.account t).cur = m.cur ∧ (m.account t).edges = m.edges := by
  unfold Measure.account
  dsimp only
  split
  · exact ⟨rfl, rfl, rfl, rfl, rfl, rfl, rfl, rfl⟩
  · split <;> exact ⟨rfl, rfl, rfl, rfl, rfl, rfl, by simp [*], rfl⟩

end

/-! ## Records read (R143) -/

/-- The engine with a record's time accounted. -/
def Measure.atRecord (m : Measure) (r : Record) : Measure :=
  { m.account (m.time + r.delta) with time := m.time + r.delta, place := m.place + 1 }

section
variable {r : Record} {rs : List Record} {m : Measure}

theorem read_past (h : m.b ≤ m.time + r.delta) : Measure.read (r :: rs) m = (m.atRecord r, true) := by
  obtain ⟨_, _, _, _, b, _⟩ := account_keeps m (m.time + r.delta)
  unfold Measure.read
  exact if_pos (by simpa only [b] using h)

theorem read_stop {d v : Nat} (h : m.time + d < m.b) :
    Measure.read (.mark d .stop v :: rs) m = ({ m.atRecord (.mark d .stop v) with cur := none }, true) := by
  obtain ⟨_, _, _, _, b, _⟩ := account_keeps m (m.time + d)
  rw [Measure.read, if_neg]
  · rfl
  · simp only [Record.delta, b]
    omega

/-- A record before B that is no END: the engine goes on. -/
theorem read_before (h : m.time + r.delta < m.b) (open' : r.isEnd = false) :
    Measure.read (r :: rs) m = Measure.read rs ((m.atRecord r).apply (m.time + r.delta) r) := by
  obtain ⟨_, _, _, _, b, _⟩ := account_keeps m (m.time + r.delta)
  rw [Measure.read, if_neg (by simp only [b]; omega)]
  · rfl
  · rintro d v rfl
    simp [Record.isEnd] at open'

theorem countEdges_counted {t : Nat} {st was : Half} (cur : m.cur = some was) (low : m.a < t) (high : t < m.b) :
    m.countEdges t st = { m with edges := bumpFrom (was ^^^ st) 1 0 m.edges } := by
  simp only [Measure.countEdges, cur, low, high, and_self, if_true]

theorem countEdges_not {t : Nat} {st : Half} (h : m.cur = none ∨ t ≤ m.a) : m.countEdges t st = m := by
  unfold Measure.countEdges
  split
  · rename_i was cur
    exact if_neg fun inside => h.elim (fun h => by simp [h] at cur) fun h => by omega
  · rfl

end

/-! ## Bursts, the TRIMMED answer and the result (R143, R145) -/

section
variable {recs : List Record} {full tail : Bool} {s : State} {m : Measure}

theorem measureRecords_done (h : Measure.read recs s.meas = (m, true)) :
    measureRecords recs full tail s = completeMeasure { s with meas := m } := by
  simp only [measureRecords, h, if_true]

theorem measureRecords_partial (h : Measure.read recs s.meas = (m, false)) :
    measureRecords recs false tail s = { s with meas := m } := by
  simp only [measureRecords, h, Bool.false_eq_true, if_false]

theorem measureRecords_filling (h : Measure.read recs s.meas = (m, false)) (f : (s.seg m.seg).state = .filling) :
    measureRecords recs true true s = completeMeasure { s with meas := { m with cur := none } } := by
  have f' : (({ s with meas := m } : State).seg m.seg).state = .filling := f
  simp only [measureRecords, h, f', Bool.false_eq_true, and_self, if_true, if_false]

theorem measureRecords_next (h : Measure.read recs s.meas = (m, false)) : measureRecords recs true false s =
    { s with meas := { m with pos := some (m.pos.getD 0 + 1), place := 0 } } := by
  simp only [measureRecords, h, Bool.false_eq_true, false_and, if_true, if_false]

/-- R145: what a measurement completes with. -/
theorem completeMeasure_eq (s : State) : completeMeasure s =
    raiseTo s.meas.port .measureDone s.meas.seg (dropPin s.meas.seg (fun q => { q with measure := false })
      { s with meas := { Measure.reset with
        st := .ready
        result := some ((s.meas.account s.meas.b).resultOf (s.seg s.meas.seg).latched.divider) } }) := by
  obtain ⟨_, port, seg, _⟩ := account_keeps s.meas s.meas.b
  rw [completeMeasure, port, seg]

theorem measureTrimmed_eq {e : Segment} (h : s.seg s.meas.seg = e) :
    measureTrimmed s = { s with meas := { s.meas with
      cur := none, pos := some e.trimmed, place := 0, time := e.start
      unknown := s.meas.unknown + (min e.start s.meas.b - s.meas.acct)
      acct := max s.meas.acct (min e.start s.meas.b) } } := by
  rw [measureTrimmed, h]
  rcases Nat.lt_or_ge s.meas.acct (min e.start s.meas.b) with some | none
  · rw [account_unknown (m := { s.meas with cur := Option.none }) some rfl, Nat.max_eq_right (Nat.le_of_lt some)]
  · rw [account_past (m := { s.meas with cur := Option.none }) none, Nat.max_eq_left none, Nat.sub_eq_zero_of_le none,
      Nat.add_zero]

end

/-! ## MEASURE and MEASURE_RESULT -/

section
variable {q : Asker} {n a b : Nat} {mask : Half} {s : State}

theorem doMeasure_busy (h : s.store.available = false ∨ s.meas.st = .busy) :
    doMeasure q n a b mask s = refuse q .wrongState s := by
  unfold doMeasure
  split
  · rfl
  · rename_i available
    rw [if_pos (h.resolve_left available)]

theorem doMeasure_noSuch (on : s.store.available = true) (free : s.meas.st ≠ .busy)
    (h : 15 < n ∨ (s.seg n).state = .empty) : doMeasure q n a b mask s = refuse q .noSuch s := by
  rw [doMeasure, if_neg (by simp [on]), if_neg free, if_pos (noSegment_iff.mpr h)]

theorem doMeasure_releasing (on : s.store.available = true) (free : s.meas.st ≠ .busy) (hn : n ≤ 15)
    (h : (s.seg n).state = .releasing) : doMeasure q n a b mask s = refuse q .wrongState s := by
  rw [doMeasure, if_neg (by simp [on]), if_neg free, noSegment_false hn (by simp [h]), if_neg (by simp), if_pos h]

/-- The state with the measurement taken. -/
def measureTaken (q : Asker) (n a b : Nat) (mask : Half) (s : State) : State :=
  { answer q .accepted (.measuring (min a b) (max a b))
      (s.setSeg n { s.seg n with pins := { (s.seg n).pins with measure := true } }) with
    meas := { Measure.reset with st := .busy, port := q.port, seg := n, a := min a b, b := max a b, mask := mask,
                                 acct := min a b } }

theorem doMeasure_taken (on : s.store.available = true) (free : s.meas.st ≠ .busy) (hn : n ≤ 15)
    (h : (s.seg n).state = .filling ∨ (s.seg n).state = .sealed) : doMeasure q n a b mask s =
      if min a b = max a b then completeMeasure (measureTaken q n a b mask s) else measureTaken q n a b mask s := by
  have live : (s.seg n).state ≠ .empty ∧ (s.seg n).state ≠ .releasing := by rcases h with h | h <;> simp [h]
  rw [doMeasure, if_neg (by simp [on]), if_neg free, noSegment_false hn live.1, if_neg (by simp), if_neg live.2]
  rfl

theorem doMeasureResult_ready {r : MeasResult} (st : s.meas.st = .ready) (h : s.meas.result = some r) :
    doMeasureResult q s = answer q .ok (.measured r) s := by
  simp only [doMeasureResult, st, h]

theorem doMeasureResult_busy (st : s.meas.st = .busy) :
    doMeasureResult q s = answer q .wrongState (.measureBusy s.meas.seg s.meas.a s.meas.b) s := by
  simp only [doMeasureResult, st]

theorem doMeasureResult_empty (st : s.meas.st = .empty) : doMeasureResult q s = refuse q .noSuch s := by
  simp only [doMeasureResult, st]

end

/-- A measurement of no ticks counts nothing. -/
theorem resultOf_nothing {m : Measure} {d : Nat} (edges : m.edges = List.replicate 16 0)
    (high : m.high = List.replicate 16 0) (unknown : m.unknown = 0) :
    ∀ c ∈ (m.resultOf d).chans, c.edges = 0 ∧ c.high = 0 ∧ c.unknown = 0 := by
  intro c hc
  obtain ⟨_, _, he, hh, hu⟩ := mem_chanResults.mp hc
  rw [edges] at he
  rw [high] at hh
  exact ⟨List.eq_of_mem_replicate (List.mem_of_getElem? he), List.eq_of_mem_replicate (List.mem_of_getElem? hh),
    hu.trans unknown⟩

/-- Settles O32: the requests by their checks; the engine by the record it reads. -/
theorem measureRequestsResult : Obligations.MeasureRequestsResult := by
  refine ⟨fun p tag n a b mask s ready => ?measure, fun p tag s ready => ?result,
    fun bits n k l => ⟨length_bumpFrom .., by simpa using getElem?_bumpFrom bits n 0 k l⟩, fun m t e he => ?account,
    fun r rs m a t ht ha => ?read, fun m => rfl, fun recs full tail s u m done h hu => ?burst, fun s m hm => ?complete,
    fun s e a he ha => ?trimmed⟩
  case measure =>
    have run : exec (.measure p tag n a b mask) s = .next (conclude s (doMeasure (asking p 19 tag) n a b mask s)) :=
      exec_active ready rfl rfl
    rw [run]
    refine ⟨fun h => by rw [doMeasure_busy h], fun on free => ⟨fun h => by rw [doMeasure_noSuch on free h],
      fun hn h => by rw [doMeasure_releasing on free hn h], fun hn h => ⟨fun ne => ?_, fun eq => ?_⟩⟩⟩
    · rw [doMeasure_taken on free hn h, if_neg (by omega)]
      rfl
    · subst eq
      rw [doMeasure_taken on free hn h, if_pos (by simp), completeMeasure_eq]
      have done : (measureTaken (asking p 19 tag) n a a mask s).meas.account
          (measureTaken (asking p 19 tag) n a a mask s).meas.b = (measureTaken (asking p 19 tag) n a a mask s).meas :=
        account_past (by simp [measureTaken])
      rw [done]
      refine ⟨_, _, rfl, by simp, by simp; rfl, rfl, rfl, by simp [Measure.resultOf, measureTaken],
        by simp [Measure.resultOf, measureTaken], rfl, resultOf_nothing rfl rfl rfl, by simp [measureTaken]⟩
  case result =>
    have run : exec (.measureResult p tag) s = .next (doMeasureResult (asking p 20 tag) s) := exec_ready ready rfl
    rw [run]
    exact ⟨fun r st h => by rw [doMeasureResult_ready st h], fun st => by rw [doMeasureResult_busy st],
      fun st => by rw [doMeasureResult_empty st]⟩
  case account =>
    subst he
    exact ⟨account_past, fun st => account_known, account_unknown⟩
  case read =>
    obtain rfl : a = m.atRecord r := ha.trans (by rw [ht]; rfl)
    subst ht
    obtain ⟨_, _, _, keptA, keptB, _, keptCur, keptEdges⟩ := account_keeps m (m.time + r.delta)
    refine ⟨read_past, fun before => ⟨fun st hr => ?_, fun st d v hr => ?_, fun d st was hr cur low => ?_,
      fun d st hr out => ?_, fun d v hr => ?_, fun d v hr => ?_⟩⟩
    · subst hr
      exact read_before before rfl
    · rcases hr with rfl | rfl | rfl <;> exact read_before before rfl
    · subst hr
      rw [read_before before rfl]
      have counted := countEdges_counted (m := m.atRecord (.trans d st)) (st := st) (keptCur.trans cur)
        (by rw [← keptA] at low; exact low) (by rw [← keptB] at before; exact before)
      rw [Measure.apply, counted]
      have edges : (m.atRecord (.trans d st)).edges = m.edges := keptEdges
      rw [edges]
    · subst hr
      rw [read_before before rfl, Measure.apply, countEdges_not]
      rcases out with cur | out
      · exact .inl (keptCur.trans cur)
      · exact .inr (by rw [← keptA] at out; exact out)
    · rcases hr with rfl | rfl <;> exact read_before before rfl
    · subst hr
      exact read_stop before
  case burst =>
    subst hu
    refine ⟨fun hd => ?_, fun hd hf => ?_, fun hd hf ht fill => ?_, fun hd hf ht => ?_⟩ <;> subst hd
    · exact measureRecords_done h
    · subst hf
      exact measureRecords_partial h
    · subst hf ht
      exact measureRecords_filling h fill
    · subst hf ht
      exact measureRecords_next h
  case complete =>
    subst hm
    obtain ⟨_, port, seg, _⟩ := account_keeps s.meas s.meas.b
    refine ⟨(s.meas.account s.meas.b).resultOf (s.seg s.meas.seg).latched.divider,
      by rw [port, seg]; exact completeMeasure_eq s, rfl, rfl, rfl, rfl, rfl, rfl, by rw [seg]; rfl,
      by simp [Measure.resultOf], fun c => ?_⟩
    rw [Measure.resultOf, mem_chanResults]
    simp
  case trimmed =>
    subst ha
    refine ⟨measureTrimmed_eq he, fun busy past => ?_, finishMeasure_idle⟩
    rw [measureTrimmed_eq he]
    refine finishMeasure_done busy ?_
    show s.meas.b ≤ max s.meas.acct (min e.start s.meas.b)
    omega

end Sys2Proof.Machine
end

section
/-! PROOFS. Requests of the renderer and the panel link: view, layout, palette, cursors (R148 to R151), the panel's
states (R171 to R174), overlays (R182, R183). -/

namespace Sys2Proof.Machine

/-! ## Layouts (R149) -/

/-- What R149 asks of a row. -/
def legalRow (r : RowReq) : Prop :=
  ((r.kind = 0 ∧ r.subject ≤ 15) ∨ (r.kind = 1 ∧ r.subject ≤ 3) ∨ r.kind = 2) ∧ 4 ≤ r.height ∧ r.height ≤ 32 ∧
    r.colour ≤ 7

/-- The kind a row names, with its subject. -/
def rowKind? (r : RowReq) : Option RowKind :=
  if r.kind = 0 ∧ r.subject ≤ 15 then some (.channel r.subject)
  else if r.kind = 1 ∧ r.subject ≤ 3 then some (.annotation r.subject)
  else if r.kind = 2 then some .blank
  else none

theorem rowKind?_isSome {r : RowReq} :
    (rowKind? r).isSome = true ↔ (r.kind = 0 ∧ r.subject ≤ 15) ∨ (r.kind = 1 ∧ r.subject ≤ 3) ∨ r.kind = 2 := by
  unfold rowKind?
  repeat' split
  all_goals simp_all

theorem rowOf?_kind {r : RowReq} {k : RowKind} (h : rowKind? r = some k) : rowOf? r =
    if 4 ≤ r.height ∧ r.height ≤ 32 ∧ r.colour ≤ 7 then some { kind := k, height := r.height, colour := r.colour }
    else none := by
  unfold rowKind? at h
  simp only [rowOf?, h]

theorem rowOf?_noKind {r : RowReq} (h : rowKind? r = none) : rowOf? r = none := by
  unfold rowKind? at h
  simp only [rowOf?, h]

theorem rowOf?_isSome {r : RowReq} : (rowOf? r).isSome = true ↔ legalRow r := by
  unfold legalRow
  rw [← rowKind?_isSome]
  cases h : rowKind? r with
  | none => simp [rowOf?_noKind h]
  | some k => simp [rowOf?_kind h]

theorem rowOf?_keeps {r : RowReq} {x : Row} (h : rowOf? r = some x) : x.height = r.height ∧ x.colour = r.colour := by
  cases hk : rowKind? r with
  | none => simp [rowOf?_noKind hk] at h
  | some k =>
    rw [rowOf?_kind hk] at h
    split at h
    · obtain rfl := Option.some.inj h
      exact ⟨rfl, rfl⟩
    · simp at h

theorem mapM_rowOf?_isSome (rows : List RowReq) : (rows.mapM rowOf?).isSome = true ↔ ∀ r ∈ rows, legalRow r := by
  induction rows with
  | nil => simp
  | cons r rs ih =>
    have first := rowOf?_isSome (r := r)
    rw [List.forall_mem_cons, ← ih, ← first]
    rw [List.mapM_cons]
    cases rowOf? r <;> cases rs.mapM rowOf? <;> simp

theorem mapM_rowOf?_keeps {rows : List RowReq} {l : List Row} (h : rows.mapM rowOf? = some l) :
    l.map (·.height) = rows.map (·.height) ∧ l.map (·.colour) = rows.map (·.colour) := by
  induction rows generalizing l with
  | nil =>
    obtain rfl : [] = l := by simpa using h
    exact ⟨rfl, rfl⟩
  | cons r rs ih =>
    rw [List.mapM_cons] at h
    cases hr : rowOf? r with
    | none => simp [hr] at h
    | some x =>
      cases hs : rs.mapM rowOf? with
      | none => simp [hr, hs] at h
      | some xs =>
        obtain rfl : x :: xs = l := by simpa [hr, hs] using h
        obtain ⟨height, colour⟩ := rowOf?_keeps hr
        obtain ⟨heights, colours⟩ := ih hs
        simp [height, colour, heights, colours]

/-! ## SET_VIEW, SET_LAYOUT, SET_PALETTE, SET_CURSORS -/

section
variable {q : Asker} {s : State}

theorem doSetView_taken {seg : ViewSeg} {t0 scale : Nat} {follow : Bool} (h : ∀ n, seg = .number n → n ≤ 15) :
    doSetView q seg t0 scale follow s = requestFrame (answer q .ok
      (.viewed (min t0 (2 ^ 47 - 1)) (max 16 (min (2 ^ 32) scale)))
      { s with render := { s.render with
        view := ⟨seg, min t0 (2 ^ 47 - 1), max 16 (min (2 ^ 32) scale), follow, some q.port⟩ } }) := by
  have scaled : clampNat 16 4294967296 scale = max 16 (min (2 ^ 32) scale) := clampNat_eq _ _ _ (by decide)
  cases seg with
  | number n => simp only [doSetView, Nat.not_lt.mpr (h n rfl), decide_false, Bool.false_eq_true, if_false,
    scaled] <;> rfl
  | follow => simp only [doSetView, Bool.false_eq_true, if_false, scaled] <;> rfl

theorem doSetView_outOfRange {n t0 scale : Nat} {follow : Bool} (h : 15 < n) :
    doSetView q (.number n) t0 scale follow s = refuse q .outOfRange s := by
  simp only [doSetView, h, decide_true, if_true]

theorem doSetLayout_taken {rows : List RowReq} {l : List Row} (h : layoutOf? rows = some l) : doSetLayout q rows s =
    requestFrame (answer q .ok .none { s with render := { s.render with layout := l } }) := by
  simp only [doSetLayout, h]

theorem doSetLayout_refused {rows : List RowReq} (h : layoutOf? rows = none) :
    doSetLayout q rows s = refuse q .outOfRange s := by
  simp only [doSetLayout, h]

end

/-- Settles O33: each setting replaced and a frame requested; a layout by its rows. -/
theorem viewSettingsResult : Obligations.ViewSettingsResult := by
  refine ⟨fun p tag s ready => ⟨fun seg t0 scale follow h => ?_, fun n t0 scale follow h => ?_, fun rows l h => ?_,
    fun rows h => ?_, fun cs h => ?_, fun a b => ?_⟩, fun rows => ⟨?legal, fun l h => ?keeps⟩⟩
  case legal =>
    unfold layoutOf?
    split
    · rename_i number
      rw [mapM_rowOf?_isSome]
      exact ⟨fun h => ⟨number.1, number.2, h⟩, fun h => h.2.2⟩
    · rename_i number
      exact ⟨fun h => by simp at h, fun h => absurd ⟨h.1, h.2.1⟩ number⟩
  case keeps =>
    unfold layoutOf? at h
    split at h
    · exact mapM_rowOf?_keeps h
    · simp at h
  · have run : exec (.setView p tag seg t0 scale follow) s =
        .next (conclude s (doSetView (asking p 21 tag) seg t0 scale follow s)) :=
      exec_active (r := .setView seg t0 scale follow) (ready_of_alike ready rfl rfl) rfl rfl
    rw [run, doSetView_taken h]
    rfl
  · have run : exec (.setView p tag (.number n) t0 scale follow) s =
        .next (conclude s (doSetView (asking p 21 tag) (.number n) t0 scale follow s)) :=
      exec_active (r := .setView (.number n) t0 scale follow) (ready_of_alike ready rfl rfl) rfl rfl
    rw [run, doSetView_outOfRange h]
  · exact exec_active (r := .setLayout rows) (ready_of_alike ready rfl rfl) rfl (doSetLayout_taken h)
  · exact exec_active (r := .setLayout rows) (ready_of_alike ready rfl rfl) rfl (doSetLayout_refused h)
  · exact exec_active (r := .setPalette cs) (ready_of_alike ready rfl rfl) rfl (if_pos h)
  · exact exec_active (r := .setCursors a b) (ready_of_alike ready rfl rfl) rfl rfl

/-! ## The panel's states (R171 to R174) -/

theorem setupInRange_iff {r : PanelSetup} : setupInRange r = true ↔ (r.width = 8 ∨ r.width = 16) ∧ r.wakeDelay ≤ 255 ∧
    (r.teUsed = .on ∨ r.teUsed = .off) ∧ r.tePolarity ≤ 1 ∧ r.init.length ≤ 32 ∧
    ∀ e ∈ r.init, (∃ code ps, e = .command code ps ∧ ps.length ≤ 4) ∨ (∃ ms, e = .delay ms ∧ 1 ≤ ms ∧ ms ≤ 255) := by
  have te : r.teUsed ≠ .unknown ↔ r.teUsed = .on ∨ r.teUsed = .off := by cases r.teUsed <;> simp
  have entry : ∀ e : InitEntry, (match e with
      | .command _ ps => decide (ps.length ≤ 4)
      | .delay ms => decide (1 ≤ ms) && decide (ms ≤ 255)) = true ↔
      (∃ code ps, e = .command code ps ∧ ps.length ≤ 4) ∨ (∃ ms, e = .delay ms ∧ 1 ≤ ms ∧ ms ≤ 255) := by
    intro e
    cases e with
    | command code ps =>
      show decide (ps.length ≤ 4) = true ↔ _
      rw [decide_eq_true_iff]
      refine ⟨fun short => .inl ⟨code, ps, rfl, short⟩, ?_⟩
      rintro (⟨_, _, ⟨⟩, short⟩ | ⟨_, ⟨⟩, _⟩)
      exact short
    | delay ms =>
      show (decide (1 ≤ ms) && decide (ms ≤ 255)) = true ↔ _
      rw [Bool.and_eq_true, decide_eq_true_iff, decide_eq_true_iff]
      refine ⟨fun range => .inr ⟨ms, rfl, range⟩, ?_⟩
      rintro (⟨_, _, ⟨⟩, _⟩ | ⟨_, ⟨⟩, range⟩)
      exact range
  simp only [setupInRange, Bool.and_eq_true, Bool.or_eq_true, decide_eq_true_eq, te, List.all_eq_true, and_assoc]
  exact and_congr_right fun _ => and_congr_right fun _ => and_congr_right fun _ => and_congr_right fun _ =>
    and_congr_right fun _ => forall₂_congr fun e _ => entry e

/-- A band on the bus: whatever waits, waits on. -/
theorem pokeBus_busy {s : State} (h : s.panel.bus ≠ .idle) : pokeBus s = s := by
  simp [pokeBus, h]

theorem leaveShowing_band {s : State} {b : Nat} (emission : s.panel.emission = .emitting)
    (bus : s.panel.bus = .band b) :
    leaveShowing s = { s with panel := { s.panel with teTimer := false, teMissing := false, leaving := true } } := by
  simp only [leaveShowing, emission, bus]

theorem leaveShowing_idle {s : State} (emission : s.panel.emission = .idle) :
    leaveShowing s = { s with panel := { s.panel with teTimer := false, teMissing := false } } := by
  simp only [leaveShowing, emission]

/-- Nothing but a band on the bus: there is nothing to abandon. -/
theorem abandon_band {p : Panel} {b : Nat} (bus : p.bus = .band b) (waiting : p.waiting = []) : p.abandon = p := by
  cases p
  simp only at bus waiting
  subst bus waiting
  rfl

theorem abandon_start {p : Panel} {left : List InitEntry} (bus : p.bus = .start left) (waiting : p.waiting = []) :
    p.abandon = { p with bus := .idle } := by
  cases p
  simp only at bus waiting
  subst bus waiting
  rfl

theorem queueOff_band {s : State} {b : Nat} (bus : s.panel.bus = .band b) (emission : s.panel.emission = .emitting)
    (waiting : s.panel.waiting = []) : queueOff s = { s with panel := { s.panel with
      st := .off, dormantSleep := false, teTimer := false, teMissing := false, leaving := true, waiting :=
        [.off] } } := by
  have left := leaveShowing_band (s := { s with panel := { s.panel with st := .off, dormantSleep := false } })
    emission bus
  simp only [queueOff, abandon_band bus waiting, left]
  rw [pokeBus_busy (by simp [bus])]
  simp [waiting]

theorem turnOff_band {s : State} {b : Nat} (bus : s.panel.bus = .band b) : turnOff s = queueOff s := by
  simp only [turnOff, bus]

theorem sleepPanel_band {s : State} {b : Nat} {d : Bool} (bus : s.panel.bus = .band b)
    (emission : s.panel.emission = .emitting) (waiting : s.panel.waiting = []) :
    sleepPanel d s = { s with panel := { s.panel with
      st := .sleeping, dormantSleep := d, teTimer := false, teMissing := false, leaving := true,
      waiting := [.sleepIn] } } := by
  have left := leaveShowing_band (s := { s with panel := { s.panel with st := .sleeping, dormantSleep := d } })
    emission bus
  simp only [sleepPanel, abandon_band bus waiting, left]
  rw [pokeBus_busy (by simp [bus])]
  simp [waiting]

/-! ## PANEL_OFF during a start sequence (R173) -/

theorem initCommands_commands (cmds : List (Byte × List Byte)) {rest : List InitEntry}
    (h : rest = [] ∨ ∃ ms l, rest = .delay ms :: l) :
    initCommands ((cmds.map fun c => .command c.1 c.2) ++ rest) = cmds.map fun c => initTransfers c.1 c.2 := by
  induction cmds with
  | nil => rcases h with rfl | ⟨ms, l, rfl⟩ <;> rfl
  | cons c cs ih => simp [initCommands, ih]

theorem afterDelay_commands (cmds : List (Byte × List Byte)) {rest : List InitEntry}
    (h : rest = [] ∨ ∃ ms l, rest = .delay ms :: l) :
    afterDelay ((cmds.map fun c => .command c.1 c.2) ++ rest) = none ↔ rest = [] := by
  induction cmds with
  | nil => rcases h with rfl | ⟨ms, l, rfl⟩ <;> simp [afterDelay]
  | cons c cs ih => simpa [afterDelay] using ih

theorem initTransfers_eq (code : Byte) (ps : List Byte) :
    initTransfers code ps = .command code :: ps.map fun b => .data (b.setWidth 16) := by
  have byte : ∀ b : Byte, param b.toNat = .data (b.setWidth 16) := by
    intro b
    have := b.isLt
    simp only [param, Transfer.data.injEq]
    apply BitVec.eq_of_toNat_eq
    simp
    omega
  simp [initTransfers, byte]

/-- An off sequence alone waits and the bus is idle: it is granted the bus. -/
theorem pokeBus_off {s : State} (bus : s.panel.bus = .idle) (waiting : s.panel.waiting = [.off])
    (changes : s.panel.changes = []) (emission : s.panel.emission = .idle) :
    pokeBus s = { s with panel := { s.panel with
      waiting := [], out := [.command s.panel.codes.displayOff, .command s.panel.codes.sleepIn], bus := .off } } := by
  have begun : beginEmission s = s := by simp [beginEmission, emission]
  have granted : pokeBus s = busGrant (63 + 1) false s := by
    simp [pokeBus, bus, waiting, busBoundary_idle bus changes]
  rw [granted, busGrant, begun]
  simp only [waiting, runWaiting, runSeq]
  rfl

/-- The state after PANEL_OFF has abandoned a start sequence. -/
theorem queueOff_start {s : State} {left : List InitEntry} (bus : s.panel.bus = .start left)
    (waiting : s.panel.waiting = []) (changes : s.panel.changes = []) (emission : s.panel.emission = .idle) :
    queueOff s = { s with panel := { s.panel with
      st := .off, dormantSleep := false, teTimer := false, teMissing := false, waiting := [], bus := .off
      out := [.command s.panel.codes.displayOff, .command s.panel.codes.sleepIn] } } := by
  have left := leaveShowing_idle
    (s := { s with panel := { s.panel with bus := .idle, st := .off, dormantSleep := false } }) emission
  simp only [queueOff, abandon_start bus waiting, left]
  rw [pokeBus_off rfl (by simp [waiting]) (by exact changes) (by exact emission)]
  rfl

theorem turnOff_start {s : State} {left : List InitEntry} (bus : s.panel.bus = .start left)
    (waiting : s.panel.waiting = []) (changes : s.panel.changes = []) (emission : s.panel.emission = .idle) :
    turnOff s = { s with
      free := s.free + 1
      panel := { s.panel with
        st := .off, dormantSleep := false, teTimer := false, teMissing := false, bus := .off
        out := s.panel.out ++ sentInit s.panel.codes.displayOn left (Config.initSent s.free) ++
          [.command s.panel.codes.displayOff, .command s.panel.codes.sleepIn] } } := by
  have off := queueOff_start (s := { s with free := s.free + 1 }) bus waiting changes emission
  simp only [turnOff, bus, off, waiting]

section
variable {q : Asker} {s : State}

theorem doPanelSetup_off {r : PanelSetup} (st : s.panel.st = .off) (idle : s.panel.seqBusy = false) :
    doPanelSetup q r s = if setupInRange r then answer q .ok .none { s with panel := { s.panel with setup := some r } }
      else refuse q .outOfRange s :=
  if_neg (by simp [st, idle])

theorem doPanelSetup_refused {r : PanelSetup} (h : s.panel.st ≠ .off ∨ s.panel.seqBusy = true) :
    doPanelSetup q r s = refuse q .wrongState s := if_pos h

theorem doPanelOn_refused (h : s.panel.st ≠ .off ∨ s.panel.setup = none) : doPanelOn q s = refuse q .wrongState s :=
  if_neg (by rcases h with h | h <;> simp [h])

end

/-- Settles O36: each request by the panel's state; a band on the bus; the ranges; a start sequence turned off. -/
theorem panelRequestsResult : Obligations.PanelRequestsResult := by
  refine ⟨fun p tag s ready => ?requests, fun s b d st bus emission waiting => ?band, fun r => setupInRange_iff,
    fun p tag s r cmds rest ready st setup waiting changes emission hrest bus => ?starting⟩
  case requests =>
    have setup : ∀ r, exec (.panelSetup p tag r) s = .next (doPanelSetup (asking p 26 tag) r s) :=
      fun r => exec_ready (r := .panelSetup r) (ready_of_alike ready rfl rfl) rfl
    have off : s.ready p .panelOff := ready_of_alike ready rfl rfl
    have sleep : s.ready p .panelSleep := ready_of_alike ready rfl rfl
    have wake : s.ready p .panelWake := ready_of_alike ready rfl rfl
    refine ⟨fun r st idle => ⟨fun h => ?_, fun h => ?_⟩, fun r h => ?_, fun st loaded => ?_, fun h => ?_, fun st => ?_,
      fun st => ?_, fun st => ?_, fun st => ?_, fun st => ?_, fun st => ?_⟩
    · rw [setup, doPanelSetup_off st idle, if_pos h]
    · rw [setup, doPanelSetup_off st idle, if_neg (by simp [h])]
    · rw [setup, doPanelSetup_refused h]
    · exact exec_active ready rfl (if_pos ⟨st, loaded⟩)
    · exact exec_active ready rfl (doPanelOn_refused h)
    · exact exec_active off rfl (if_neg st)
    · exact exec_active off rfl (if_pos st)
    · exact exec_active sleep rfl (if_pos st)
    · exact exec_active sleep rfl (if_neg st)
    · exact exec_active wake rfl ((if_pos st).trans (by cases p <;> rfl))
    · exact exec_active wake rfl (if_neg st)
  case band => exact ⟨(turnOff_band bus).trans (queueOff_band bus emission waiting),
    sleepPanel_band bus emission waiting⟩
  case starting =>
    have codes : s.panel.codes = r := by simp [Panel.codes, setup]
    refine ⟨Config.initSent s.free, decide (cmds.length ≤ Config.initSent s.free ∧ rest = []), _,
      fun h => (of_decide_eq_true h).symm, rfl, ?_⟩
    have answered := turnOff_start (s := answer (asking p 28 tag) .ok .none s)
      (left := (cmds.map fun c => .command c.1 c.2) ++ rest) (by simpa using bus) (by simpa using waiting)
      (by simpa using changes) (by simpa using emission)
    refine exec_active ready rfl ((if_neg st : doPanelOff (asking p 28 tag) s = _).trans (answered.trans ?_))
    simp [sentInit, initCommands_commands cmds hrest, afterDelay_commands cmds hrest, codes, initTransfers_eq,
      List.flatMap, ← List.map_take]

/-! ## Overlays (R182, R183) -/

section
variable {q : Asker} {id : Nat} {s : State}

theorem doOverlaySet_outOfRange {x y w h : Nat} (hid : id ≤ 3) (out : w = 0 ∨ h = 0 ∨ 320 < x + w ∨ 240 < y + h) :
    doOverlaySet q id x y w h s = refuse q .outOfRange s := by
  rw [doOverlaySet, if_neg (by omega), if_pos out]

theorem doOverlaySet_taken {x y w h : Nat} (hid : id ≤ 3) (inside : ¬(w = 0 ∨ h = 0 ∨ 320 < x + w ∨ 240 < y + h)) :
    doOverlaySet q id x y w h s = pendChange q id (some { x := x, y := y, w := w, h := h }) s := by
  rw [doOverlaySet, if_neg (by omega), if_neg inside]

theorem doOverlayClear_taken {r : Rect} (hid : id ≤ 3) (h : s.panel.overlays.getD id none = some r) :
    doOverlayClear q id s = pendChange q id none s := by
  rw [doOverlayClear, if_neg (by simp only [h, reduceCtorEq, or_false]; omega)]

theorem doOverlayPixels_noSuch {offset : Nat} {px : List Half} (h : 3 < id ∨ s.panel.overlays.getD id none = none) :
    doOverlayPixels q id offset px s = refuse q .noSuch s := by
  have absent : (if 3 < id then none else s.panel.overlays.getD id none) = none := by
    split
    · rfl
    · exact h.resolve_left (by assumption)
  simp only [doOverlayPixels, absent]

theorem doOverlayPixels_registered {offset : Nat} {px : List Half} {r : Rect} (hid : id ≤ 3)
    (h : s.panel.overlays.getD id none = some r) : doOverlayPixels q id offset px s =
      if px.length = 0 ∨ r.w * r.h < offset + px.length then refuse q .outOfRange s
      else if 2048 < queueLevel s.panel.queue + px.length then refuse q .noRoom s
      else pokeBus (answer q .ok (.queueLevel (queueLevel s.panel.queue + px.length))
        { s with panel := { s.panel with queue := s.panel.queue ++
        [{ id := id, offset := offset, pixels := px }] } }) := by
  have present : (if 3 < id then none else s.panel.overlays.getD id none) = some r := by
    rw [if_neg (by omega), h]
  simp only [doOverlayPixels, present]
  rfl

end

/-- Settles O37: the checks in their order, then the change pended or the run queued. -/
theorem overlayRequestsResult : Obligations.OverlayRequestsResult := by
  refine ⟨fun p tag id x y w h s ready => ?changes, fun p tag id offset px s ready => ?pixels⟩
  case changes =>
    have set : exec (.overlaySet p tag id x y w h) s = .next (doOverlaySet (asking p 31 tag) id x y w h s) :=
      exec_ready ready rfl
    have clear : exec (.overlayClear p tag id) s = .next (doOverlayClear (asking p 32 tag) id s) :=
      exec_ready (r := .overlayClear id) (ready_of_alike ready rfl rfl) rfl
    rw [set, clear]
    refine ⟨fun hid => ?_, fun hid out => ?_, fun hid hw hh hx hy => ?_, fun none => ?_, fun r hid present => ?_⟩
    · rw [doOverlaySet, if_pos hid]
    · rw [doOverlaySet_outOfRange hid out]
    · rw [doOverlaySet_taken hid (by omega)]
      rfl
    · rw [doOverlayClear, if_pos none]
    · rw [doOverlayClear_taken hid present]
      rfl
  case pixels =>
    refine ⟨fun none => exec_active ready rfl (doOverlayPixels_noSuch none), fun r level hid present hl => ?_⟩
    obtain rfl : level = queueLevel s.panel.queue := hl
    have run : exec (.overlayPixels p tag id offset px) s =
      .next (conclude s (doOverlayPixels (asking p 33 tag) id offset px s)) :=
      exec_active ready rfl rfl
    have pos : px ≠ [] → ¬ px.length = 0 := fun h e => h (List.length_eq_zero_iff.mp e)
    rw [run, doOverlayPixels_registered hid present]
    refine ⟨fun out => ?_, fun some inside full => ?_, fun some inside room => ?_⟩
    · rw [if_pos (out.imp (fun e => by rw [e]; rfl) fun e => e)]
    · rw [if_neg (not_or.mpr ⟨pos some, by omega⟩), if_pos full]
    · rw [if_neg (not_or.mpr ⟨pos some, by omega⟩), if_neg (Nat.not_lt.mpr room)]

end Sys2Proof.Machine
end

section
/-! PROOFS. A frame requested (R75, R153 to R156): the latch, the segment viewed and its VIEW pin. -/

namespace Sys2Proof.Machine

/-! ## The segment a view names (R155) -/

theorem noPreference : Preference fun _ _ => false := ⟨fun h => by simp at h, fun _ _ => rfl⟩

theorem newer_preference : Preference fun a b => b.order < a.order :=
  ⟨fun {a b} h => by simp at h ⊢; omega, fun {a b c} h h' => by simp at h h' ⊢; omega⟩

theorem getElem?_of_state_ne {s : State} {n : Nat} (h : (s.seg n).state ≠ .empty) : s.store.segs[n]? =
    some (s.seg n) := by
  have inside : n < s.store.segs.length := by
    refine Classical.byContradiction fun out => ?_
    rw [State.seg, List.getD_eq_getElem?_getD, List.getElem?_eq_none (by omega)] at h
    exact h rfl
  simp [State.seg, List.getD_eq_getElem?_getD, inside]

/-- The best of the segments that pass a test, when one number alone can be. -/
theorem bestSegment_eq {ok : Segment → Bool} {better : Segment → Segment → Bool} (pref : Preference better) {s : State}
    {n : Nat} (entry : s.store.segs[n]? = some (s.seg n)) (pass : ok (s.seg n) = true)
    (only : ∀ i, ok (s.seg i) = true → (∀ j, j < s.store.segs.length → ok (s.seg j) = true →
      better (s.seg j) (s.seg i) = false ∧ (j < i → better (s.seg i) (s.seg j) = true)) → i = n) :
    (bestSegment ok better s.store.segs 0).map (·.1) = some n := by
  obtain ⟨⟨m, e⟩, best⟩ := Option.isSome_iff_exists.mp
    ((bestSegment_isSome (better := better) (n := 0)).mpr ⟨_, List.mem_of_getElem? entry, pass⟩)
  obtain ⟨i, rfl, hi, passI, first⟩ := bestSegment_some pref best
  rw [best]
  obtain rfl := seg_of_getElem? hi
  simp only [Nat.zero_add, Option.map_some, Option.some.injEq]
  refine only i passI fun j hj hok => first j _ ?_ hok
  rw [State.seg, List.getD_eq_getElem?_getD, List.getElem?_eq_getElem hj, Option.getD_some]

theorem filling_eq {s : State} {n : Nat} (h : (s.seg n).state = .filling)
    (first : ∀ j, j < n → (s.seg j).state ≠ .filling) :
    s.filling = some n := by
  have entry := getElem?_of_state_ne (s := s) (n := n) (by simp [h])
  refine bestSegment_eq noPreference entry (by simpa using h) fun i hi best => ?_
  have inside : n < s.store.segs.length := (List.getElem?_eq_some_iff.mp entry).1
  have notAfter : ¬ n < i := fun lt => by simpa using (best n inside (by simpa using h)).2 lt
  have notBefore : ¬ i < n := fun lt => first i lt (by simpa using hi)
  omega

theorem filling_none {s : State} (h : ∀ j, (s.seg j).state ≠ .filling) : s.filling = none := by
  rw [State.filling, bestSegment_none]
  · rfl
  · intro e he
    obtain ⟨j, hj⟩ := List.getElem?_of_mem he
    simpa [seg_of_getElem? hj] using h j

theorem latestSealed_eq {s : State} {n : Nat} (h : (s.seg n).state = .sealed)
    (newest : ∀ j, (s.seg j).state = .sealed →
      (s.seg j).order < (s.seg n).order ∨ ((s.seg j).order = (s.seg n).order ∧ n ≤ j)) : s.latestSealed = some n := by
  have entry := getElem?_of_state_ne (s := s) (n := n) (by simp [h])
  refine bestSegment_eq newer_preference entry (by simpa using h) fun i hi best => ?_
  have inside : n < s.store.segs.length := (List.getElem?_eq_some_iff.mp entry).1
  obtain ⟨notNewer, before⟩ := best n inside (by simpa using h)
  simp at notNewer before
  rcases newest i (by simpa using hi) with lt | ⟨eq, le⟩
  · omega
  · rcases Nat.lt_or_ge n i with lt | ge
    · have := before lt
      omega
    · omega

theorem latestSealed_none {s : State} (h : ∀ j, (s.seg j).state ≠ .sealed) : s.latestSealed = none := by
  rw [State.latestSealed, bestSegment_none]
  · rfl
  · intro e he
    obtain ⟨j, hj⟩ := List.getElem?_of_mem he
    simpa [seg_of_getElem? hj] using h j

/-- What a view resolves to. -/
theorem resolve_eq {s : State} {v : ViewSeg} {n : Nat} (h : v = .number n ∨ (v = .follow ∧
    (((s.seg n).state = .filling ∧ ∀ j, j < n → (s.seg j).state ≠ .filling) ∨
      ((s.seg n).state = .sealed ∧ ∀ j, (s.seg j).state ≠ .filling ∧ ((s.seg j).state = .sealed →
        (s.seg j).order < (s.seg n).order ∨ ((s.seg j).order = (s.seg n).order ∧ n ≤ j)))))) :
    s.resolve v = some n := by
  rcases h with rfl | ⟨rfl, ⟨filling, first⟩ | ⟨sealed', newest⟩⟩
  · rfl
  · rw [State.resolve, filling_eq filling first]
    rfl
  · rw [State.resolve, filling_none fun j => (newest j).1, latestSealed_eq sealed' fun j => (newest j).2]
    rfl

theorem resolve_follow_none {s : State} (h : ∀ j, (s.seg j).state ≠ .filling ∧ (s.seg j).state ≠ .sealed) :
    s.resolve .follow = none := by
  rw [State.resolve, filling_none fun j => (h j).1, latestSealed_none fun j => (h j).2]
  rfl

/-! ## The VIEW pin (R75) -/

theorem getElem?_of_view {s : State} {n : Nat} (h : (s.seg n).pins.view = true) : s.store.segs[n]? =
    some (s.seg n) := by
  have inside : n < s.store.segs.length := by
    refine Classical.byContradiction fun out => ?_
    rw [State.seg, List.getD_eq_getElem?_getD, List.getElem?_eq_none (by omega)] at h
    exact absurd h (by decide)
  simp [State.seg, List.getD_eq_getElem?_getD, inside]

theorem viewed_some {s : State} {v : Nat} (h : s.viewed = some v) :
    v < s.store.segs.length ∧ (s.seg v).pins.view = true := by
  obtain ⟨⟨v', e⟩, best, rfl⟩ := Option.map_eq_some_iff.mp h
  obtain ⟨i, rfl, hi, pass, _⟩ := bestSegment_some noPreference best
  simp only [Nat.zero_add]
  rw [seg_of_getElem? hi]
  exact ⟨(List.getElem?_eq_some_iff.mp hi).1, pass⟩

theorem viewed_only {s : State} {j : Nat} (h : (s.seg j).pins.view = true) (only : ∀ i, (s.seg i).pins.view = true →
    i = j) :
    s.viewed = some j :=
  bestSegment_eq noPreference (getElem?_of_view h) h fun i hi _ => only i hi

/-- The state with the pin of the segment viewed before dropped, unless the new one is the same. -/
def unpinOld (named : Option Nat) (s : State) : State :=
  match s.viewed with
  | some v => if named = some v then s else dropPin v (fun p => { p with view := false }) s
  | none => s

theorem unpinOld_seg_named (n : Nat) (s : State) : (unpinOld (some n) s).seg n = s.seg n := by
  unfold unpinOld
  split
  · rename_i v hv
    split
    · rfl
    · rename_i other
      rw [dropPin_seg _ (viewed_some hv).1, if_neg fun e => other (by rw [e])]
  · rfl

/-- The pin of another segment, the only one, drops. -/
theorem unpinOld_other {named : Option Nat} {s : State} {j : Nat} (other : named ≠ some j)
    (h : (s.seg j).pins.view = true) (only : ∀ i, (s.seg i).pins.view = true → i = j) :
    unpinOld named s = dropPin j (fun p => { p with view := false }) s := by
  simp only [unpinOld, viewed_only h only, if_neg other]

theorem moveView_eq (named : Option Nat) (s : State) : moveView named s =
    match named with
    | none => (unpinOld named s, none)
    | some n => match ((unpinOld named s).seg n).state with
      | .filling => (addPin n (fun p => { p with view := true }) (unpinOld named s), some n)
      | .sealed => (addPin n (fun p => { p with view := true }) (unpinOld named s), some n)
      | .releasing => (unpinOld named s, if ((unpinOld named s).seg n).pins.view then some n else none)
      | .empty => (unpinOld named s, none) := rfl

section
variable {s : State} {n : Nat}

theorem moveView_pinned (h : (s.seg n).state = .filling ∨ (s.seg n).state = .sealed) : moveView (some n) s =
    (addPin n (fun p => { p with view := true }) (unpinOld (some n) s), some n) := by
  rw [moveView_eq]
  simp only [unpinOld_seg_named]
  rcases h with h | h <;> simp only [h]

theorem moveView_kept (h : (s.seg n).state = .releasing) (pin : (s.seg n).pins.view = true) :
    moveView (some n) s = (unpinOld (some n) s, some n) := by
  rw [moveView_eq]
  simp only [unpinOld_seg_named, h, pin, if_true]

theorem moveView_gone (h : (s.seg n).state = .empty ∨ ((s.seg n).state = .releasing ∧ (s.seg n).pins.view = false)) :
    moveView (some n) s = (unpinOld (some n) s, none) := by
  rw [moveView_eq]
  simp only [unpinOld_seg_named]
  rcases h with h | ⟨h, pin⟩
  · simp only [h]
  · simp only [h, pin, Bool.false_eq_true, if_false]

theorem moveView_none : moveView none s = (unpinOld none s, none) := rfl

/-- Apart from the segment named, the move leaves what dropping the old pin left. -/
theorem moveView_seg_other {j : Nat} (h : j ≠ n) :
    (moveView (some n) s).1.seg j = (unpinOld (some n) s).seg j := by
  have pinned : (addPin n (fun p => { p with view := true }) (unpinOld (some n) s)).seg j =
      (unpinOld (some n) s).seg j := by
    have segs : (addPin n (fun p => { p with view := true }) (unpinOld (some n) s)).store.segs =
      (unpinOld (some n) s).store.segs.set n _ := rfl
    rw [State.seg, segs]
    exact getD_set_ne _ _ _ h
  rw [moveView_eq]
  dsimp only
  split
  · exact pinned
  · exact pinned
  · rfl
  · rfl

/-- The segment available has its VIEW pin set and is otherwise as it was. -/
theorem moveView_available (h : (s.seg n).state = .filling ∨ (s.seg n).state = .sealed ∨
      ((s.seg n).state = .releasing ∧ (s.seg n).pins.view = true)) : (moveView (some n) s).2 = some n ∧
    (moveView (some n) s).1.seg n = { s.seg n with pins := { (s.seg n).pins with view := true } } := by
  rw [← or_assoc] at h
  rcases h with h | ⟨releasing, pin⟩
  · have state : (s.seg n).state ≠ .empty := by rcases h with h | h <;> simp [h]
    have inside : n < (unpinOld (some n) s).store.segs.length := by
      have same := unpinOld_seg_named n s
      have entry := getElem?_of_state_ne (s := unpinOld (some n) s) (n := n) (by rw [same]; exact state)
      exact (List.getElem?_eq_some_iff.mp entry).1
    rw [moveView_pinned h]
    refine ⟨rfl, ?_⟩
    have added : addPin n (fun p => { p with view := true }) (unpinOld (some n) s) =
      (unpinOld (some n) s).setSeg n { (unpinOld (some n) s).seg n with
        pins := { ((unpinOld (some n) s).seg n).pins with view := true } } := rfl
    simp only [added, seg_setSeg inside, if_true, unpinOld_seg_named]
  · rw [moveView_kept releasing pin]
    refine ⟨rfl, (unpinOld_seg_named n s).trans ?_⟩
    cases hs : s.seg n with
    | mk => rw [hs] at pin; simp at pin; simp [← pin]

end

/-! ## LATCH (R155, R156) -/

/-- The segment a frame latches. -/
def State.toView (s : State) : Option Nat := (moveView (s.resolve s.render.view.seg) s).2

/-- The state with the VIEW pin moved for a frame. -/
def State.viewMoved (s : State) : State := (moveView (s.resolve s.render.view.seg) s).1

/-- What LATCH fixes. -/
def State.newLatch (s : State) : Latch :=
  let start := (s.toView.map fun n => (s.viewMoved.seg n).start).getD 0
  let stop := (s.toView.map fun n => (s.viewMoved.seg n).stop).getD 0
  { seg := s.toView, start := start, stop := stop, t0 := latchedT0 s.render.view s.toView start stop,
    scale := s.render.view.scale, layout := s.render.layout, palette := s.render.palette, cursorA := s.render.cursorA,
    cursorB := s.render.cursorB }

/-- The state with the frame latched, before its bands are marked. -/
def latched (s : State) : State :=
  { s.viewMoved with render := { s.viewMoved.render with
    latch := s.newLatch
    frame := .classifying
    reader := { done := s.newLatch.readsNothing, pos := none, place := 0, time := 0, recs := [], frozen := [],
                frameStart := s.newLatch.start, walks := List.replicate 4 NoteWalk.head } } }

theorem latchFrame_eq (s : State) : latchFrame s =
    if s.newLatch.layout ≠ s.render.latch.layout ∨ s.newLatch.palette ≠ s.render.latch.palette then
      markBands allBands (latched s)
    else latched s := by
  unfold latchFrame latched State.newLatch State.viewMoved State.toView
  dsimp only
  generalize moveView (s.resolve s.render.view.seg) s = m
  obtain ⟨u, o⟩ := m
  cases o <;> rfl

theorem viewMoved_keeps (s : State) : s.viewMoved.store.mem = s.store.mem ∧ s.viewMoved.render.view = s.render.view ∧
    s.viewMoved.render.trace = s.render.trace := by
  simp [State.viewMoved]

/-- What the frame that LATCH begins is. -/
theorem latchFrame_keeps (s : State) : (latchFrame s).render.latch = s.newLatch ∧
    (latchFrame s).render.frame = .classifying ∧ (latchFrame s).render.reader.done = s.newLatch.readsNothing ∧
    (latchFrame s).render.reader.pos = none ∧ (latchFrame s).render.reader.recs = [] ∧
    (latchFrame s).render.view = s.render.view ∧ (latchFrame s).render.trace = s.render.trace ∧
    (latchFrame s).store = s.viewMoved.store := by
  obtain ⟨_, view, trace⟩ := viewMoved_keeps s
  rw [latchFrame_eq]
  split <;> simp [latched, markBands, view, trace]

theorem latchFrame_seg (s : State) (n : Nat) : (latchFrame s).seg n = s.viewMoved.seg n := by
  obtain ⟨_, _, _, _, _, _, _, store⟩ := latchFrame_keeps s
  exact seg_congr (by rw [store]) n

/-- A changed layout or palette dirties every band (R168). -/
theorem latchFrame_dirty {s : State} {b : Nat}
    (h : s.render.layout ≠ s.render.latch.layout ∨ s.render.palette ≠ s.render.latch.palette) (hb : b < 15) :
    b ∈ (latchFrame s).render.dirty := by
  rw [latchFrame_eq, if_pos (by exact h)]
  simp [markBands, addBands, allBands, hb]

theorem requestFrame_idle {s : State} (frame : s.render.frame = .idle) (entry : s.power.st ≠ .entry) :
    requestFrame s = latchFrame s := if_pos ⟨frame, entry⟩

theorem requestFrame_again {s : State} (h : s.render.frame ≠ .idle ∨ s.power.st = .entry) :
    requestFrame s = { s with render := { s.render with again := true } } :=
  if_neg fun ⟨frame, entry⟩ => h.elim (absurd frame) (absurd · entry)

theorem readsNothing_iff {l : Latch} : l.readsNothing = true ↔
    l.seg = none ∨ l.stop ≤ max l.t0 l.start ∨ colEnd l.t0 l.scale 299 ≤ l.start := by
  have first : l.edge 0 = l.t0 := by simp [Latch.edge, colEdge]
  simp only [Latch.readsNothing, first, or_assoc, Bool.or_eq_true, decide_eq_true_eq]
  rfl

/-- Settles O34: the frame begun or remembered; the segment viewed by what the view resolves to and its state. -/
theorem frameRequested : Obligations.FrameRequested := by
  refine ⟨fun s => ⟨fun frame entry => ?begun, requestFrame_again⟩, fun s t v frame entry hv ht => ?viewed⟩
  case begun =>
    obtain ⟨latch, classifying, _, _, _, view, trace, store⟩ := latchFrame_keeps s
    rw [requestFrame_idle frame entry, latch]
    exact ⟨classifying, rfl, rfl, rfl, rfl, rfl, view, trace, by rw [store, (viewMoved_keeps s).1],
      fun changed b hb => latchFrame_dirty changed hb⟩
  case viewed =>
    obtain ⟨latch, _, done, pos, recs, _, _, _⟩ := latchFrame_keeps s
    subst hv
    obtain rfl : t = latchFrame s := ht.trans (requestFrame_idle frame entry)
    refine ⟨fun n named => ⟨fun available => ?available, fun gone => ?gone, fun j other pin only => ?old⟩,
      fun follow none => ?nothing, fun fixed => ?fixedT0, fun chosen follows => ?followT0, ?reads, pos, recs⟩
    case available =>
      obtain ⟨seg, pinned⟩ := moveView_available available
      rw [← resolve_eq named] at seg pinned
      have toView : s.toView = some n := seg.trans (resolve_eq named)
      have moved : s.viewMoved.seg n = { s.seg n with pins := { (s.seg n).pins with view := true } } := pinned
      rw [latchFrame_seg, latch]
      exact ⟨toView, moved, by simp only [State.newLatch, toView, Option.map_some, Option.getD_some, moved],
        by simp only [State.newLatch, toView, Option.map_some, Option.getD_some, moved]⟩
    case gone =>
      rw [latch]
      have moved := moveView_gone gone
      rw [← resolve_eq named] at moved
      exact congrArg Prod.snd moved
    case old =>
      have different : s.resolve s.render.view.seg ≠ some j := by
        rw [resolve_eq named]
        exact fun e => other (Option.some.inj e).symm
      have dropped := unpinOld_other different pin only
      have inside : j < s.store.segs.length := (List.getElem?_eq_some_iff.mp (getElem?_of_view pin)).1
      have seg : s.viewMoved.seg j = (dropPin j (fun p => { p with view := false }) s).seg j := by
        rw [← dropped, State.viewMoved, resolve_eq named]
        exact moveView_seg_other other
      rw [latchFrame_seg, seg, dropPin_seg _ inside, if_pos rfl]
      refine ⟨fun stays => if_neg fun ⟨releasing, free⟩ => ?_, fun releasing free => if_pos ⟨releasing, free⟩⟩
      rcases stays with h | h
      · exact h releasing
      · simp [h] at free
    case nothing =>
      rw [latch]
      have resolved : s.resolve s.render.view.seg = Option.none := by rw [follow, resolve_follow_none none]
      show (moveView (s.resolve s.render.view.seg) s).2 = Option.none
      rw [resolved, moveView_none]
    case fixedT0 =>
      rw [latch] at fixed ⊢
      refine if_neg fun ⟨follows, chosen⟩ => ?_
      rcases fixed with h | h
      · exact chosen h
      · rw [h] at follows
        exact absurd follows (by decide)
    case followT0 =>
      rw [latch] at chosen ⊢
      exact if_pos ⟨follows, chosen⟩
    case reads =>
      rw [done, latch, readsNothing_iff]
      rfl

end Sys2Proof.Machine
end

section
/-! PROOFS. The readout streams: how an annotation stream walks its list, what a burst of records leaves in a stream
and when its chunk or packet goes out; READ_NEXT and STREAM_CANCEL (O42). -/

namespace Sys2Proof.Machine

/-! ## The walk of an annotation list (R140) -/

/-- What a cursor at `c` still has to deliver. -/
def notesAhead (list : List Note) (pick : Note → Bool) (c : Nat) : List Note := (list.drop c).filter pick

/-- The next entry is the first of those ahead, and the cursor then has the others ahead. -/
theorem nextNote_ahead (list : List Note) (pick : Note → Bool) (c : Nat) :
    (nextNote pick (list.drop c) c).1 = (notesAhead list pick c).head? ∧
    notesAhead list pick (nextNote pick (list.drop c) c).2 = (notesAhead list pick c).tail ∧
    (list.length ≤ (nextNote pick (list.drop c) c).2 → (notesAhead list pick c).tail = []) := by
  have general : ∀ (rest : List Note) (c : Nat), list.drop c = rest →
      (nextNote pick rest c).1 = (rest.filter pick).head? ∧
      notesAhead list pick (nextNote pick rest c).2 = (rest.filter pick).tail := by
    intro rest
    induction rest with
    | nil =>
      intro c at_end
      exact ⟨rfl, by simp [nextNote, notesAhead, at_end]⟩
    | cons e rest ih =>
      intro c here
      have next : list.drop (c + 1) = rest := by rw [← List.drop_drop, here]; rfl
      cases picked : pick e with
      | true => simp [nextNote, picked, notesAhead, next]
      | false => simpa [nextNote, picked] using ih (c + 1) next
  obtain ⟨first, ahead⟩ := general _ c rfl
  refine ⟨first, ahead, fun past => ?_⟩
  rw [← show _ = (notesAhead list pick c).tail from ahead, notesAhead, List.drop_eq_nil_of_le past, List.filter_nil]

/-- The bytes an entry adds to a stream that steps over it (R217). -/
def entryBytes (e : Note) : List Byte :=
  (Stream.stepNotes { source := .notes 0 0 0 0, header := [], headerSent := true, pos := 0, place := 0, left := 1,
                      cursor := 0, ended := false, want := none, acc := [], buffer := [], endQueued := false,
                      cancelled := false, delivered := 0 } [e] fun _ => true).acc

/-- The stream `x` after it has delivered `es`, its cursor at `c`. -/
def Stream.delivering (x : Stream) (es : List Note) (c : Nat) (ended : Bool) : Stream :=
  { x with acc := x.acc ++ es.flatMap entryBytes, left := x.left - es.length, cursor := c, ended := ended }

theorem Stream.delivering_delivering (x : Stream) (es fs : List Note) (c c' : Nat) (ended ended' : Bool) :
    (x.delivering es c ended).delivering fs c' ended' = x.delivering (es ++ fs) c' ended' := by
  simp [Stream.delivering, Nat.sub_sub]

theorem length_entryBytes (e : Note) : (entryBytes e).length = 20 := rfl

theorem length_flatMap_entryBytes (es : List Note) : (es.flatMap entryBytes).length = 20 * es.length := by
  induction es with
  | nil => rfl
  | cons e es ih =>
    rw [List.flatMap_cons, List.length_append, length_entryBytes, ih, List.length_cons]
    omega

theorem stepNotes_eq {x : Stream} {list : List Note} {pick : Note → Bool} (goesOn : x.ended = false) :
    ∃ c ended, x.stepNotes list pick = x.delivering ((notesAhead list pick x.cursor).take 1) c ended ∧
      notesAhead list pick c = (notesAhead list pick x.cursor).tail ∧
      (ended = true → x.left ≤ 1 ∨ (notesAhead list pick x.cursor).tail = []) ∧
      (x.left ≤ 1 ∨ notesAhead list pick x.cursor = [] → ended = true) := by
  obtain ⟨first, ahead, last⟩ := nextNote_ahead list pick x.cursor
  refine ⟨_, (x.stepNotes list pick).ended, ?_, ahead, ?_, ?_⟩ <;>
    rcases here : notesAhead list pick x.cursor with _ | ⟨e, rest⟩ <;> rw [here] at first last <;>
    simp only [Stream.stepNotes, first, List.head?_nil, List.head?_cons, Stream.delivering]
  · simp
  · simp
    rfl
  · simp
  · intro ended
    simp only [Bool.or_eq_true, decide_eq_true_eq] at ended
    exact ended.imp id last
  · simp
  · intro short
    simpa using Or.inl (short.resolve_right (by simp))

/-- The walk delivers the next entries, as many as the room and the count allow, and ends when no more are to come. -/
theorem walkNotes_eq {list : List Note} {pick : Note → Bool} {room : Nat} (m : Nat) :
    ∀ (fuel : Nat) (x : Stream), x.ended = false → 1 ≤ x.left → x.acc.length + 20 * m = room → m ≤ fuel →
    ∃ c ended, Stream.walkNotes list pick room fuel x =
        x.delivering ((notesAhead list pick x.cursor).take (min m x.left)) c ended ∧
      notesAhead list pick c = (notesAhead list pick x.cursor).drop (min m x.left) ∧
      (ended = true → x.left ≤ m ∨ (notesAhead list pick x.cursor).length ≤ min m x.left) ∧
      (x.left ≤ min m (notesAhead list pick x.cursor).length → ended = true) := by
  induction m with
  | zero =>
    intro fuel x goesOn left full _
    have stays : Stream.walkNotes list pick room fuel x = x := by
      cases fuel with
      | zero => rfl
      | succ fuel => simp [Stream.walkNotes, show room ≤ x.acc.length by omega]
    exact ⟨x.cursor, false, by simp [stays, Stream.delivering, ← goesOn], by simp, by simp, by omega⟩
  | succ m ih =>
    intro fuel x goesOn left full enough
    obtain ⟨fuel, rfl⟩ : ∃ f, fuel = f + 1 := ⟨fuel - 1, by omega⟩
    have walks : Stream.walkNotes list pick room (fuel + 1) x =
        Stream.walkNotes list pick room fuel (x.stepNotes list pick) := by
      simp [Stream.walkNotes, goesOn, show ¬ room ≤ x.acc.length by omega]
    obtain ⟨c, ended, step, ahead, why, must⟩ := stepNotes_eq (list := list) (pick := pick) goesOn
    rw [walks, step]
    cases ended with
    | true =>
      have stays : ∀ y : Stream, y.ended = true → Stream.walkNotes list pick room fuel y = y := by
        intro y hy
        cases fuel <;> simp [Stream.walkNotes, hy]
      rw [stays _ rfl]
      have all : x.left = 1 ∨ (notesAhead list pick x.cursor).length ≤ 1 :=
        (why rfl).imp (by omega) fun h => by
          have := congrArg List.length h
          simp only [List.length_tail, List.length_nil] at this
          omega
      have first : (notesAhead list pick x.cursor).take (min (m + 1) x.left) =
        (notesAhead list pick x.cursor).take 1 := by
        rcases all with one | short
        · rw [one, Nat.min_eq_right (by omega)]
        · rw [List.take_of_length_le short, List.take_of_length_le (by omega)]
      refine ⟨c, true, by rw [first], ?_, fun _ => by omega, fun _ => rfl⟩
      rw [ahead]
      rcases all with one | short
      · rw [one, Nat.min_eq_right (by omega), List.drop_one]
      · rw [List.drop_of_length_le (by omega), ← List.drop_one, List.drop_of_length_le short]
    | false =>
      have two : 2 ≤ x.left := by
        refine Classical.byContradiction fun h => ?_
        exact absurd (must (.inl (by omega))) (by simp)
      obtain ⟨e, rest, here⟩ : ∃ e rest, notesAhead list pick x.cursor = e :: rest :=
        List.exists_cons_of_ne_nil fun h => absurd (must (.inr h)) (by simp)
      rw [here] at ahead ⊢
      obtain ⟨c', ended, walked, ahead', why', must'⟩ := ih fuel (x.delivering ((e :: rest).take 1) c false) rfl
        (by simp [Stream.delivering]; omega) (by simp [Stream.delivering, length_entryBytes]; omega) (by omega)
      have still : (x.delivering ((e :: rest).take 1) c false).left = x.left - 1 := rfl
      have upto : min (m + 1) x.left = min m (x.left - 1) + 1 := by omega
      rw [still, show (x.delivering ((e :: rest).take 1) c false).cursor = c from rfl,
        ahead] at walked why' must' ahead'
      refine ⟨c', ended, ?_, by rw [upto]; exact ahead', fun h => ?_, fun h => must' ?_⟩
      · rw [walked, upto]
        exact Stream.delivering_delivering ..
      · rcases why' h with h | h <;> simp at h ⊢ <;> omega
      · simp at h ⊢
        omega

/-- What a READ_NEXT takes of an annotation stream: up to 12 entries, and whether they are the last (log 76). -/
theorem chunkNotes_eq {list : List Note} {pick : Note → Bool} {x : Stream} (goesOn : x.ended = false)
    (left : 1 ≤ x.left)
    (fresh : x.acc = []) {es : List Note} (hes : es = (notesAhead list pick x.cursor).take (min 12 x.left)) :
    ∃ c last, (Stream.walkNotes list pick 240 16 x).passRest list pick = x.delivering es c last ∧
      (last = true ↔ es.length = x.left ∨ es = notesAhead list pick x.cursor) ∧
      (last = false → notesAhead list pick c = (notesAhead list pick x.cursor).drop es.length) := by
  obtain ⟨c, ended, walked, ahead, why, must⟩ := walkNotes_eq (list := list) (pick := pick) (room := 240) 12 16 x goesOn
    left (by simp [fresh]) (by omega)
  rw [← hes] at walked
  have count : es.length = min (min 12 x.left) (notesAhead list pick x.cursor).length := by rw [hes, List.length_take]
  have whole : es = notesAhead list pick x.cursor ↔ (notesAhead list pick x.cursor).length ≤ min 12 x.left := by
    refine ⟨fun h => ?_, fun h => hes.trans (List.take_of_length_le h)⟩
    have := congrArg List.length h
    omega
  have rest : notesAhead list pick c = (notesAhead list pick x.cursor).drop es.length := by
    rw [ahead, count]
    rcases Nat.le_total (min 12 x.left) (notesAhead list pick x.cursor).length with h | h
    · rw [Nat.min_eq_left h]
    · rw [Nat.min_eq_right h, List.drop_of_length_le h, List.drop_length]
  rw [walked, Stream.passRest_eq]
  by_cases none : notesAhead list pick c = []
  · refine ⟨c + (list.drop c).length, true, if_pos none, ?_, by simp⟩
    · simp only [true_iff]
      right
      rw [rest, List.drop_eq_nil_iff] at none
      exact whole.mpr (by omega)
  · refine ⟨c, ended, if_neg none, ?_, fun _ => rest⟩
    · rw [rest, List.drop_eq_nil_iff] at none
      rw [whole]
      constructor
      · intro h
        have := why h
        omega
      · intro h
        exact must (by omega)

/-! ## Records streams -/

theorem removeNotes_recordsStream {k seg : Nat} {keep : Note → Bool} {s : State} {x : Stream}
    (h : s.ports.con.stream = some x) (hx : x.source = .records seg) :
    (removeNotes k keep s).ports.con.stream = some x := by
  have removed : (removeNotes k keep s).ports.con.stream =
      s.ports.con.stream.map fun x => x.afterRemoval k (s.notesOf k) keep := by
    simp [removeNotes]
  rw [removed, h]
  simp [Stream.afterRemoval, hx]

theorem storeLowTest_conStream (s : State) : (storeLowTest s).ports.con.stream = s.ports.con.stream := by
  rcases storeLowTest_eq s with e | e | e <;> rw [e]
  exact (PortState.raised_rest ..).2

/-- A freed segment leaves a records stream of the console as it is. -/
theorem dropPin_recordsStream {n seg : Nat} {f : Pins → Pins} {s : State} {x : Stream}
    (h : s.ports.con.stream = some x) (hx : x.source = .records seg) :
    (dropPin n f s).ports.con.stream = some x := by
  have freed : ∀ t : State, t.ports.con.stream = some x → (freeSegment n t).ports.con.stream = some x := by
    intro t ht
    have purged : (purgeSegment n { t with store := { t.store with
        freeList := t.store.freeList ++ (t.seg n).chain, segs :=
          t.store.segs.set n Segment.empty } }).ports.con.stream =
          some x := by
      have pumped : ∀ u : State, (pumpTether u).ports.con = u.ports.con := fun u => by simp
      rw [purgeSegment, pumped]
      exact removeNotes_recordsStream (removeNotes_recordsStream (removeNotes_recordsStream
        (removeNotes_recordsStream ht hx) hx) hx) hx
    rw [freeSegment, storeLowTest_conStream]
    exact (PortState.raised_rest ..).2.trans purged
  unfold dropPin
  dsimp only
  split
  · exact freed _ h
  · exact h

/-- What a burst of records leaves in a stream: the words still owed, and where it reads on. -/
def Stream.fed (x : Stream) (ws : List Word) (full tail : Bool) : Stream :=
  { x with
    acc := x.acc ++ (ws.take x.left).flatMap fun w => leBytes 4 w.toNat
    left := x.left - ws.length
    ended := decide (x.left ≤ ws.length)
    pos := if full = true ∧ tail = false then x.pos + 1 else x.pos
    place := if full = true ∧ tail = false then 0 else x.place + min x.left ws.length }

theorem takeWords_eq_fed (x : Stream) (ws : List Word) (full tail : Bool) :
    (if full && !tail then { x.takeWords ws with pos := (x.takeWords ws).pos + 1, place := 0 } else x.takeWords ws) =
      x.fed ws full tail := by
  cases full <;> cases tail <;> simp [Stream.takeWords, Stream.fed, wordBytes] <;> omega

theorem streamWords_console {seg : Nat} {ws : List Word} {full tail : Bool} {s : State} {x : Stream}
    (h : s.ports.con.stream = some x) :
    streamWords .console seg ws full tail s = formChunk
      (if (x.fed ws full tail).ended then dropPin seg (clearRead .console)
        (setStream .console (some (x.fed ws full tail)) s)
        else setStream .console (some (x.fed ws full tail)) s) := by
  have here : (s.ports.port .console).stream = some x := h
  simp only [streamWords, here, takeWords_eq_fed]

theorem streamWords_tether {seg : Nat} {ws : List Word} {full tail : Bool} {s : State} {x : Stream}
    (h : s.ports.teth.stream = some x) :
    streamWords .tether seg ws full tail s = pumpTether
      (if (x.fed ws full tail).ended then dropPin seg (clearRead .tether)
        (setStream .tether (some (x.fed ws full tail)) s)
        else setStream .tether (some (x.fed ws full tail)) s) := by
  have here : (s.ports.port .tether).stream = some x := h
  simp only [streamWords, here, takeWords_eq_fed]

theorem formChunk_waits {s : State} {x : Stream} {q : Deferred} {n : Nat} (h : s.ports.con.stream = some x)
    (want : x.want = some (q, n)) (short : x.acc.length < n) (goesOn : x.ended = false) : formChunk s = s := by
  simp only [formChunk, h, want]
  exact if_neg (by simp [goesOn, short])

/-- The chunk goes out once its bytes stand, and the stream with it when it takes the rest. -/
theorem formChunk_forms {s : State} {x : Stream} {q : Deferred} {n : Nat} (h : s.ports.con.stream = some x)
    (want : x.want = some (q, n)) (ready : n ≤ x.acc.length ∨ x.ended = true) :
    formChunk s = answerDeferred q .ok (.chunk (x.acc.take n)) (x.ended && decide (x.acc.length ≤ n))
      (setStream .console (if x.ended = true ∧ x.acc.length ≤ n then none
        else some { x with acc := x.acc.drop n, want := none, delivered :=
          x.delivered + (x.acc.take n).length }) s) := by
  simp only [formChunk, h, want]
  rw [if_pos ready]
  simp only [Bool.and_eq_true, decide_eq_true_eq]

theorem setStream_setStream (p : Port) (x y : Option Stream) (s : State) :
    setStream p x (setStream p y s) = setStream p x s := by
  cases p <;> rfl

theorem setStream_seg (p : Port) (x : Option Stream) (s : State) (n : Nat) : (setStream p x s).seg n = s.seg n :=
  seg_congr (by simp) n

theorem setSeg_setStream (p : Port) (x : Option Stream) (s : State) (n : Nat) (e : Segment) :
    (setStream p x s).setSeg n e = setStream p x (s.setSeg n e) := by
  cases p <;> rfl

/-! ## The tether endpoint -/

theorem pumpTether_records {s : State} {x : Stream} {seg : Nat} (source : x.source = .records seg)
    (link : s.ports.link = .configured) (sent : x.headerSent = true) :
    pumpTether (setStream .tether (some x) s) = setStream .tether (some (Stream.cutPackets 3 x)) s := by
  have up : ¬ (setStream .tether (some x) s).ports.link ≠ .configured := by simpa using link
  have here : (setStream .tether (some x) s).ports.teth.stream = some x := rfl
  simp only [pumpTether, here, if_neg up, sent, if_true, source]
  rfl

theorem pumpTether_cancelled {s : State} {x : Stream} (cancelled : x.cancelled = true)
    (link : s.ports.link = .configured) (sent : x.headerSent = true) :
    pumpTether (setStream .tether (some x) s) = setStream .tether (some (Stream.cutPackets 3 x)) s := by
  have up : ¬ (setStream .tether (some x) s).ports.link ≠ .configured := by simpa using link
  have here : (setStream .tether (some x) s).ports.teth.stream = some x := rfl
  simp only [pumpTether, here, if_neg up, sent, if_true, cancelled]
  split <;> rfl

theorem cutPackets_waits {x : Stream} {fuel : Nat} (wait : x.acc.length < 512 ∧ x.ended = false ∨ 2 ≤ x.buffer.length) :
    Stream.cutPackets fuel x = x := by
  cases fuel with
  | zero => rfl
  | succ fuel =>
    rw [Stream.cutPackets]
    split
    · rfl
    · rename_i room
      obtain ⟨short, goesOn⟩ := wait.resolve_right fun full => room (.inl full)
      rw [if_neg (by omega), if_neg (by simp [goesOn])]

theorem cutPackets_whole {x : Stream} {fuel : Nat} (room : x.buffer.length < 2) (unqueued : x.endQueued = false)
    (whole : 512 ≤ x.acc.length) :
    Stream.cutPackets (fuel + 1) x = Stream.cutPackets fuel
      { x with acc := x.acc.drop 512, buffer := x.buffer ++ [x.acc.take 512], delivered := x.delivered + 512 } := by
  rw [Stream.cutPackets, if_neg (by simp [unqueued]; omega), if_pos whole]

theorem cutPackets_end {x : Stream} {fuel : Nat} (room : x.buffer.length < 2) (unqueued : x.endQueued = false)
    (short : x.acc.length < 512) (ended : x.ended = true) :
    Stream.cutPackets (fuel + 1) x =
      { x with acc := [], buffer := x.buffer ++ [x.acc], delivered := x.delivered + x.acc.length, endQueued :=
      true } := by
  rw [Stream.cutPackets, if_neg (by simp [unqueued]; omega), if_neg (by omega), if_pos ended]

/-! ## READ_NEXT and STREAM_CANCEL -/

theorem doReadNext_none {q : Asker} {s : State} (port : q.port = .console) (h : s.ports.con.stream = none) :
    doReadNext q s = refuse q .wrongState s := by
  simp only [doReadNext, port, h]

theorem doReadNext_header {q : Asker} {s : State} {x : Stream} (port : q.port = .console)
    (h : s.ports.con.stream = some x) (fresh : x.headerSent = false) :
    doReadNext q s = answer q .ok (.header x.header)
      (setStream .console (some { x with headerSent := true, delivered := x.delivered + x.header.length }) s) := by
  simp only [doReadNext, port, h]
  exact if_pos fresh

theorem doReadNext_records {q : Asker} {s : State} {x : Stream} {n : Nat} (port : q.port = .console)
    (h : s.ports.con.stream = some x) (sent : x.headerSent = true) (source : x.source = .records n)
    (goesOn : x.ended = false) (short : x.acc.length < 256) :
    doReadNext q s = defer q (setStream .console (some { x with want := some (q, 256) }) s) := by
  have old : ¬ x.headerSent = false := by simp [sent]
  simp only [doReadNext, port, h, source, if_neg old]
  refine formChunk_waits (x := { x with want := some (q, 256) }) (q := q) (n := 256) ?_ rfl short goesOn
  rw [(show ∀ t : State, (defer q t).ports.con = t.ports.con from fun t => by simp), source]
  rfl

theorem doReadNext_notes {q : Asker} {s : State} {x y : Stream} {k n lo hi : Nat} (port : q.port = .console)
    (h : s.ports.con.stream = some x) (sent : x.headerSent = true) (source : x.source = .notes k n lo hi)
    (hy : (Stream.walkNotes (s.notesOf k) (noteSelected n lo hi) 240 16 x).passRest (s.notesOf k)
      (noteSelected n lo hi) = y) :
    doReadNext q s = pushReply .console
      { kind := q.kind, tag := q.tag, status := .ok, body := .chunk y.acc, last := y.ended }
      (setStream .console (if y.ended then none else some { y with acc := [], delivered :=
        y.delivered + y.acc.length }) s) := by
  have old : ¬ x.headerSent = false := by simp [sent]
  simp only [doReadNext, port, h, source, if_neg old, hy]

theorem noteSelected_eq (n lo hi : Nat) :
    noteSelected n lo hi = fun e => decide (e.seg = n ∧ lo ≤ e.start ∧ e.start ≤ hi) := by
  funext e
  simp [noteSelected, Bool.and_assoc]

theorem stopReading_none {p : Port} {s : State} {x : Stream} (h : (s.ports.port p).stream = some x)
    (reading : x.reading = none) : stopReading p s = s := by
  simp only [stopReading, h, reading]

theorem stopReading_some {p : Port} {s : State} {x : Stream} {n : Nat} (h : (s.ports.port p).stream = some x)
    (reading : x.reading = some n) :
    stopReading p s = dropPin n (clearRead p) (withdraw (readRequester p) 0 s) := by
  simp only [stopReading, h, reading]

theorem source_of_reading {x : Stream} {n : Nat} (h : x.reading = some n) : x.source = .records n := by
  unfold Stream.reading at h
  split at h
  · split at h
    · cases h
    · rename_i m source _
      rw [source, Option.some.inj h]
  · cases h

theorem cancelStream_console {s : State} {x : Stream} (h : (stopReading .console s).ports.con.stream = some x)
    (want : x.want = none) : cancelStream .console s = setStream .console none (stopReading .console s) := by
  have here : ((stopReading .console s).ports.port .console).stream = some x := h
  simp only [cancelStream, here, want]

theorem cancelStream_tether {s : State} {x : Stream} (h : (stopReading .tether s).ports.teth.stream = some x) :
    cancelStream .tether s = pumpTether (setStream .tether (some x.cutShort) (stopReading .tether s)) := by
  have here : ((stopReading .tether s).ports.port .tether).stream = some x := h
  simp only [cancelStream, here]

theorem doStreamCancel_some {q : Asker} {s : State} {x : Stream} (h : (s.ports.port q.port).stream = some x) :
    doStreamCancel q s = answer q .ok (.cancelled x.delivered) (cancelStream q.port s) := by
  simp only [doStreamCancel, h]

theorem readNext_console : ∀ (tag : Tag) (s : State), s.ready .console .readNext →
    (s.ports.con.stream = none → exec (.readNext .console tag) s =
      .next (conclude s (refuse (asking .console 38 tag) .wrongState s))) ∧
    (∀ x, s.ports.con.stream = some x → x.headerSent = false → exec (.readNext .console tag) s =
      .next (conclude s (answer (asking .console 38 tag) .ok (.header x.header)
        (setStream .console (some { x with headerSent := true, delivered := x.delivered + x.header.length }) s)))) ∧
    (∀ x n, s.ports.con.stream = some x → x.headerSent = true → x.source = .records n → x.ended = false →
      x.acc.length < 256 → exec (.readNext .console tag) s =
        .next (conclude s (defer (asking .console 38 tag)
          (setStream .console (some { x with want := some (asking .console 38 tag, 256) }) s)))) :=
  fun _ _ ready => ⟨fun h => exec_active ready rfl (doReadNext_none rfl h),
    fun _ h fresh => exec_active ready rfl (doReadNext_header rfl h fresh),
    fun _ _ h sent source goesOn short => exec_active ready rfl (doReadNext_records rfl h sent source goesOn short)⟩

/-- Settles O42: READ_NEXT by the kind of the stream, STREAM_CANCEL by port, a burst by what it leaves owed. -/
theorem streamRequestsResult : Obligations.StreamRequestsResult := by
  refine ⟨fun tag s ready => ?readNext, fun tag s ready => exec_active ready rfl rfl, fun p tag s ready idle => ?idle,
    fun tag x s ready here want => ⟨fun reading => ?cancelled, fun n reading => ?withdrawn⟩,
    fun tag x s ready here reading live room => ?cutShort, fun seg ws full tail s u x y q n here source want hy hu =>
      ?console,
    fun seg ws full tail s x y here source link sent unqueued hy => ?tether⟩
  case readNext =>
    obtain ⟨absent, header, records⟩ := readNext_console tag s ready
    refine ⟨absent, header, records, fun x k n lo hi es here sent source goesOn fresh left hes => ?_⟩
    simp only [← noteSelected_eq] at hes ⊢
    obtain ⟨c, last, walked, isLast, rest⟩ := chunkNotes_eq goesOn left fresh hes
    refine ⟨c, last, isLast, rest, exec_active ready rfl ((doReadNext_notes rfl here sent source walked).trans ?_)⟩
    simp only [Stream.delivering, fresh, List.nil_append, length_flatMap_entryBytes]
    cases last with
    | true => rfl
    | false => rw [goesOn]; rfl
  case idle =>
    have refused : doStreamCancel (asking p 39 tag) s = refuse (asking p 39 tag) .wrongState s := by
      simp only [doStreamCancel, show (asking p 39 tag).port = p from rfl, idle]
    exact (exec_ready ready rfl).trans (congrArg Host.Outcome.next refused)
  case cancelled =>
    have here' : (s.ports.port .console).stream = some x := here
    have stopped := stopReading_none here' reading
    have done : doStreamCancel (asking .console 39 tag) s = answer (asking .console 39 tag) .ok (.cancelled x.delivered)
        (setStream .console none s) := by
      rw [doStreamCancel_some here', show (asking Port.console 39 tag).port = .console from rfl,
        cancelStream_console (by rw [stopped]; exact here) want, stopped]
    exact (exec_ready ready rfl).trans (congrArg Host.Outcome.next done)
  case withdrawn =>
    have here' : (s.ports.port .console).stream = some x := here
    have stopped := stopReading_some here' reading
    have kept : (stopReading .console s).ports.con.stream = some x := by
      rw [stopped]
      exact dropPin_recordsStream (by simpa using here) (source_of_reading reading)
    have done : doStreamCancel (asking .console 39 tag) s = answer (asking .console 39 tag) .ok (.cancelled x.delivered)
        (setStream .console none (dropPin n (clearRead .console) (withdraw .console 0 s))) := by
      rw [doStreamCancel_some here', show (asking Port.console 39 tag).port = .console from rfl,
        cancelStream_console kept want, stopped]
      rfl
    exact (exec_ready ready rfl).trans (congrArg Host.Outcome.next done)
  case cutShort =>
    have here' : (s.ports.port .tether).stream = some x := here
    have stopped := stopReading_none here' reading
    have link : s.ports.link = .configured := by
      have received : (decide (s.power.st = .run) && decide (s.ports.link = .configured) &&
        decide (s.ports.tethReplies.length + s.ports.tethService < 8)) = true := ready.1
      simp only [Bool.and_eq_true, decide_eq_true_eq] at received
      exact received.1.2
    have cut : x.cutShort =
      { x with acc := [], ended := true, endQueued := false, cancelled := true, headerSent := true } :=
      if_neg (by simp [live])
    have packets := cutPackets_end (x := x.cutShort) (fuel := 2) (by rw [cut]; exact room) (by rw [cut])
      (by rw [cut]; exact Nat.zero_lt_succ _) (by rw [cut])
    have done : doStreamCancel (asking .tether 39 tag) s = answer (asking .tether 39 tag) .ok (.cancelled x.delivered)
        (setStream .tether (some { x with acc := [], ended := true, cancelled := true, headerSent := true,
                                          buffer := x.buffer ++ [[]], endQueued := true }) s) := by
      rw [doStreamCancel_some here', show (asking Port.tether 39 tag).port = .tether from rfl,
        cancelStream_tether (by rw [stopped]; exact here), stopped,
        pumpTether_cancelled (x := x.cutShort) (by rw [cut]) link (by rw [cut]), packets, cut]
      rfl
    exact (exec_ready ready rfl).trans (congrArg Host.Outcome.next done)
  case console =>
    obtain rfl : y = x.fed ws full tail := hy
    subst hu
    have want' : (x.fed ws full tail).want = some (q, n) := want
    rw [streamWords_console here]
    refine ⟨fun owes short => ?_, fun owes whole => ?_, fun last short => ?_, fun last whole => ?_⟩
    · have goesOn : (x.fed ws full tail).ended = false := decide_eq_false (by omega)
      rw [goesOn, if_neg (by simp), formChunk_waits rfl want' short goesOn]
    · have goesOn : (x.fed ws full tail).ended = false := decide_eq_false (by omega)
      rw [goesOn, if_neg (by simp), formChunk_forms rfl want' (.inl whole), goesOn, if_neg (by simp),
        List.length_take_of_le whole, setStream_setStream]
      rfl
    · have ends : (x.fed ws full tail).ended = true := decide_eq_true last
      rw [ends, if_pos rfl, formChunk_forms (dropPin_recordsStream (x := x.fed ws full tail) rfl source) want'
        (.inr ends), ends,
        if_pos ⟨rfl, short⟩, List.take_of_length_le short, decide_eq_true short]
      rfl
    · have ends : (x.fed ws full tail).ended = true := decide_eq_true last
      rw [if_pos ends, formChunk_forms (dropPin_recordsStream (x := x.fed ws full tail) rfl source) want' (.inr ends),
        if_neg (by omega), List.length_take_of_le (Nat.le_of_lt whole), decide_eq_false (show ¬ _ ≤ n by omega),
          Bool.and_false]
      rfl
  case tether =>
    obtain rfl : y = x.fed ws full tail := hy
    rw [streamWords_tether here]
    refine ⟨fun owes wait => ?_, fun owes whole room => ?_, fun last short room stays => ?_⟩
    · have goesOn : (x.fed ws full tail).ended = false := decide_eq_false (by omega)
      rw [if_neg (by simp [goesOn]), pumpTether_records (x := x.fed ws full tail) source link sent,
        cutPackets_waits (wait.imp (⟨·, goesOn⟩) id)]
    · have goesOn : (x.fed ws full tail).ended = false := decide_eq_false (by omega)
      rw [if_neg (by simp [goesOn]), pumpTether_records (x := x.fed ws full tail) source link sent,
        cutPackets_whole (x := x.fed ws full tail) (show x.buffer.length < 2 by omega) unqueued whole,
        cutPackets_waits (.inr (by simp [Stream.fed, room]))]
      rfl
    · have ends : (x.fed ws full tail).ended = true := decide_eq_true last
      have pinned : dropPin seg (clearRead .tether) (setStream .tether (some (x.fed ws full tail)) s) =
          setStream .tether (some (x.fed ws full tail))
            (s.setSeg seg { s.seg seg with pins := { (s.seg seg).pins with readTether := false } }) :=
        (dropPin_keeps (.inl (by rwa [setStream_seg]))).trans (by rw [setStream_seg]; exact setSeg_setStream ..)
      have linked : ∀ e, (s.setSeg seg e).ports.link = .configured := fun _ => link
      rw [if_pos ends, pinned]
      refine (pumpTether_records (x := x.fed ws full tail) source (linked _) sent).trans ?_
      rw [cutPackets_end (x := x.fed ws full tail) (show x.buffer.length < 2 by omega) unqueued short ends]
      rfl

end Sys2Proof.Machine
end

section
/-! PROOFS. The wire format: each field's parser reads back what its encoder puts, so a request's frame is read as the
request (O10). -/

namespace Sys2Proof.Wire

open Sys2Proof.Machine (length_leBytes leNat_leBytes)

/-! ## Single fields -/

/-- A parser that reads a field goes on with the value. -/
theorem bind_read {α β : Type} {x : Option α} {f : α → Option β} {a : α} {b : β} (hx : x = some a) (hf : f a = some b) :
    (x >>= f) = some b := by
  rw [hx]
  exact hf

theorem field_append {n : Nat} {bs : List Byte} (h : bs.length = n) (rest : List Byte) :
    field n (bs ++ rest) = some (leNat bs, rest) := by
  have enough : ¬ (bs ++ rest).length < n := by simp [h]
  rw [field, if_neg enough, List.take_left' h, List.drop_left' h]

@[simp] theorem field_leBytes {n v : Nat} (h : fits n v = true) (rest : List Byte) :
    field n (leBytes n v ++ rest) = some (v, rest) := by
  have small : v < 256 ^ n := by simpa [fits] using h
  rw [field_append (length_leBytes n v), leNat_leBytes, Nat.mod_eq_of_lt small]

@[simp] theorem field_cons (b : Byte) (rest : List Byte) : field 1 (b :: rest) = some (b.toNat, rest) := by
  simpa [leNat] using field_append (n := 1) (bs := [b]) rfl rest

theorem byte_cons (b : Byte) (rest : List Byte) : byte (b :: rest) = some (b, rest) := rfl

@[simp] theorem below_cons {k : Nat} {b : Byte} (h : b.toNat < k) (rest : List Byte) :
    below k (b :: rest) = some (b.toNat, rest) := by
  simp [below, h]

theorem choice_cons {k : Nat} {b : Byte} (h : b.toNat ≤ k) (rest : List Byte) :
    choice k (b :: rest) = some (b.toNat, rest) := below_cons (by omega) rest

theorem choice_leBytes {k v : Nat} (hk : k < 256) (h : v < k + 1) (rest : List Byte) :
    choice k (leBytes 1 v ++ rest) = some (v, rest) := by
  have small : fits 1 v = true := by
    simp only [fits, decide_eq_true_eq]
    omega
  simp [choice, below, small, h]

theorem switch_put (x : Switch) (rest : List Byte) : switch (putSwitch x :: rest) = some (x, rest) := by
  cases x <;> simp [switch, choice, putSwitch, switchOf]

/-- The first-listed of two values travels as 0, and a switch reads it as `on`. -/
theorem switch_putFirst (b : Bool) (rest : List Byte) :
    switch (putFirst b :: rest) = some (if b then .on else .off, rest) := by
  cases b <;> simp [switch, choice, putFirst, switchOf]

theorem flag_put (b : Bool) (rest : List Byte) : flag (putBool b :: rest) = some (b, rest) := by
  cases b <;> simp [flag, putBool]

theorem half_put (h : Half) (rest : List Byte) : half (putHalf h ++ rest) = some (h, rest) := by
  have small : fits 2 h.toNat = true := by
    simp only [fits, decide_eq_true_eq]
    exact h.isLt
  simp [half, putHalf, small]

theorem optional_put {n : Nat} {x : Option Nat} (h : fitsOpt n x = true) (rest : List Byte) :
    optional (field n) (putOptional n x ++ rest) = some (x, rest) := by
  cases x with
  | none =>
    have zero : fits n 0 = true := decide_eq_true (Nat.pow_pos (by decide))
    simp [optional, putOptional, zero]
  | some v =>
    have small : fits n v = true := h
    simp [optional, putOptional, small]

theorem signed16_put {v : Int} (h : -32768 ≤ v ∧ v ≤ 32767) (rest : List Byte) :
    signed16 (leBytes 2 (BitVec.ofInt 16 v).toNat ++ rest) = some (v, rest) := by
  have small : fits 2 (BitVec.ofInt 16 v).toNat = true := by
    simp only [fits, decide_eq_true_eq]
    exact (BitVec.ofInt 16 v).isLt
  have back : (BitVec.ofInt 16 v).toInt = v := by
    rw [BitVec.toInt_ofInt]
    exact Int.bmod_eq_of_le (by omega) (by omega)
  rw [signed16, field_leBytes small]
  simp only [BitVec.ofNat_toNat, BitVec.setWidth_eq, back]

theorem optional_putSigned {x : Option Int} (h : fitsSigned x = true) (rest : List Byte) :
    optional signed16 (putSigned x ++ rest) = some (x, rest) := by
  cases x with
  | none =>
    have zero := signed16_put (v := 0) (by omega) rest
    simp only [show (BitVec.ofInt 16 0).toNat = 0 from rfl] at zero
    simp [optional, putSigned, putOptional, zero]
  | some v =>
    have bounds : -32768 ≤ v ∧ v ≤ 32767 := by simpa [fitsSigned] using h
    simp only [optional, putSigned, Option.map_some, putOptional, List.cons_append,
      below_cons (show (1 : Byte).toNat < 2 by decide),
      signed16_put bounds]
    rfl

/-! ## Lists -/

theorem many_put {α : Type} {p : Parser α} {put : α → List Byte} {as : List α}
    (each : ∀ a ∈ as, ∀ rest, p (put a ++ rest) = some (a, rest)) (rest : List Byte) :
    many p as.length (as.flatMap put ++ rest) = some (as, rest) := by
  induction as with
  | nil => rfl
  | cons a as ih =>
    have tail := ih fun b hb => each b (List.mem_cons_of_mem a hb)
    simp [many, each a List.mem_cons_self, tail]

theorem counted_put {α : Type} {p : Parser α} {put : α → List Byte} {as : List α} (short : fits 1 as.length = true)
    (each : ∀ a ∈ as, ∀ rest, p (put a ++ rest) = some (a, rest)) (rest : List Byte) :
    counted p (leBytes 1 as.length ++ (as.flatMap put ++ rest)) = some (as, rest) := by
  simp [counted, short, many_put each]

/-! ## Fields of several forms -/

theorem chanCond_put (c : ChanCond) (rest : List Byte) : chanCond (putChan c :: rest) = some (c, rest) := by
  cases c <;> simp [chanCond, choice, putChan, chanCondOf]

theorem qualifier_put {x : Qualifier} (h : x.wf = true) (rest : List Byte) :
    qualifier (putQualifier x ++ rest) = some (x, rest) := by
  cases x <;> simp_all [Qualifier.wf, qualifier, choice, putQualifier, fits]

theorem target_put {x : Target} (h : x.wf = true) (rest : List Byte) :
    target (putTarget x :: rest) = some (x, rest) := by
  cases x with
  | final => simp [target, choice, putTarget]
  | stage k =>
    have small : k < 4 ∨ k = 5 := by simpa [Target.wf] using h
    have byte : (BitVec.ofNat 8 k).toNat = k := by
      rw [BitVec.toNat_ofNat]
      omega
    have inside : k ≤ 5 := by omega
    have named : k ≠ 4 := by omega
    simp [target, putTarget, choice_cons (byte ▸ inside), byte, named]

theorem stageCond_put {x : StageCond} (h : x.wf = true) (rest : List Byte) :
    stageCond (putCond x ++ rest) = some (x, rest) := by
  cases x with
  | pattern cs =>
    have count : cs.length = 16 := by simpa [StageCond.wf] using h
    have items := many_put (p := chanCond) (put := fun c => [putChan c]) (as := cs) (fun c _ => chanCond_put c) rest
    rw [count, ← List.map_eq_flatMap] at items
    simp [stageCond, putCond, items]
  | decoder slot kind value mask =>
    simp only [StageCond.wf, Bool.and_eq_true] at h
    obtain ⟨⟨⟨hs, hk⟩, hv⟩, hm⟩ := h
    simp [stageCond, putCond, hs, hk, hv, hm]

theorem stage_put {g : Stage} (h : g.wf = true) (rest : List Byte) : stage (putStage g ++ rest) = some (g, rest) := by
  simp only [Stage.wf, Bool.and_eq_true] at h
  obtain ⟨⟨⟨⟨⟨hcond, hqual⟩, hcount⟩, hnext⟩, hon⟩, htime⟩ := h
  simp [stage, putStage, stageCond_put hcond, qualifier_put hqual, hcount, target_put hnext, target_put hon, htime]

theorem armParams_put {a : ArmParams} (h : a.wf = true) (rest : List Byte) :
    armParams (putParams a ++ rest) = some (a, rest) := by
  simp only [ArmParams.wf, Bool.and_eq_true, decide_eq_true_eq, List.all_eq_true] at h
  obtain ⟨⟨⟨⟨⟨hw, hb⟩, hp⟩, hs⟩, four⟩, stages⟩ := h
  have items := many_put (fun g hg => stage_put (stages g hg)) rest
  rw [four] at items
  simp [armParams, putParams, hw, hb, hp, hs, switch_put, items]

theorem watch_put {w : Option (Nat × Nat)} (h : (Request.setWatch w).wf = true) (rest : List Byte) :
    watch (putPayload (.setWatch w) ++ rest) = some (w, rest) := by
  cases w with
  | none => simp [watch, putPayload]
  | some x =>
    obtain ⟨ch, e⟩ := x
    simp only [Request.wf, Bool.and_eq_true, decide_eq_true_eq] at h
    obtain ⟨channel, edge⟩ := h
    simp [watch, putPayload, channel, choice_leBytes (k := 3) (by omega) edge]

theorem uartCfg_put {c : UartCfg} {bytes : List Byte} (h : (Protocol.uart c).wf = true)
    (hb : putProtocol (.uart c) = 0 :: bytes) (rest : List Byte) : uartCfg (bytes ++ rest) = some (some c, rest) := by
  obtain rfl := (List.cons.inj hb).2
  simp only [Protocol.wf, Bool.and_eq_true] at h
  obtain ⟨⟨⟨rx, bits⟩, stops⟩, baud⟩ := h
  obtain ⟨_, idle, _, parity, _, _⟩ := c
  cases idle <;> cases parity <;>
    simp [uartCfg, rx, bits, stops, baud, switch_putFirst, choice, putParity, parityOf]

theorem spiCfg_put {c : SpiCfg} {bytes : List Byte} (h : (Protocol.spi c).wf = true)
    (hb : putProtocol (.spi c) = 1 :: bytes) (rest : List Byte) : spiCfg (bytes ++ rest) = some (some c, rest) := by
  obtain rfl := (List.cons.inj hb).2
  simp only [Protocol.wf, Bool.and_eq_true] at h
  obtain ⟨⟨⟨⟨⟨clock, select⟩, mosi⟩, miso⟩, bits⟩, gap⟩ := h
  obtain ⟨_, _, active, _, _, idle, edge, _, order, _⟩ := c
  have known : ∀ b : Bool, (if b = true then Switch.on else .off) ≠ .unknown := by decide
  have known' : ∀ b : Bool, (if b = false then Switch.on else .off) ≠ .unknown := by decide
  simp [spiCfg, clock, mosi, bits, gap, optional_put select, optional_put miso, switch_putFirst, known, known']

theorem strobeCfg_put {c : StrobeCfg} {bytes : List Byte} (h : (Protocol.strobed c).wf = true)
    (hb : putProtocol (.strobed c) = 3 :: bytes) (rest : List Byte) : strobeCfg (bytes ++ rest) =
    some (some c, rest) := by
  obtain rfl := (List.cons.inj hb).2
  simp only [Protocol.wf, Bool.and_eq_true, List.all_eq_true] at h
  obtain ⟨⟨short, items⟩, strobe⟩ := h
  obtain ⟨data, _, edge⟩ := c
  have each : ∀ v ∈ data, ∀ rest, field 1 (leBytes 1 v ++ rest) = some (v, rest) :=
    fun v hv => field_leBytes (items v hv)
  cases edge <;> simp [strobeCfg, counted_put short each, strobe, choice, putEdge, edgeOf]

theorem protocol_put {x : Protocol} (h : x.wf = true) (rest : List Byte) :
    protocol (putProtocol x ++ rest) = some (x, rest) := by
  cases x with
  | uart c =>
    obtain ⟨bytes, hb⟩ : ∃ bytes, putProtocol (.uart c) = 0 :: bytes := ⟨_, rfl⟩
    simp [protocol, hb, uartCfg_put h hb, protocolOf]
  | spi c =>
    obtain ⟨bytes, hb⟩ : ∃ bytes, putProtocol (.spi c) = 1 :: bytes := ⟨_, rfl⟩
    simp [protocol, hb, spiCfg_put h hb, protocolOf]
  | i2c c =>
    simp only [Protocol.wf, Bool.and_eq_true] at h
    obtain ⟨scl, sda⟩ := h
    simp [protocol, putProtocol, scl, sda]
  | strobed c =>
    obtain ⟨bytes, hb⟩ : ∃ bytes, putProtocol (.strobed c) = 3 :: bytes := ⟨_, rfl⟩
    simp [protocol, hb, strobeCfg_put h hb, protocolOf]
  | unknown n => simp [Protocol.wf] at h

theorem source_put {x : Source} (h : x.wf = true) (rest : List Byte) : source (putSource x ++ rest) =
    some (x, rest) := by
  cases x with
  | offline seg lo hi =>
    simp only [Source.wf, Bool.and_eq_true] at h
    obtain ⟨⟨hseg, hlo⟩, hhi⟩ := h
    simp [source, putSource, hseg, hlo, hhi]
  | live => simp [source, putSource]

theorem viewSeg_put {x : ViewSeg} (h : x.wf = true) (rest : List Byte) : viewSeg (putView x ++ rest) =
    some (x, rest) := by
  cases x with
  | number n =>
    have number : fits 1 n = true := h
    simp [viewSeg, putView, number]
  | follow => simp [viewSeg, putView]

theorem cursor_put {x : Option Nat} (h : fitsOpt 6 x = true) (rest : List Byte) :
    cursor (putCursor x ++ rest) = some (x, rest) := by
  cases x with
  | none => simp [cursor, putCursor]
  | some t =>
    have tick : fits 6 t = true := h
    simp [cursor, putCursor, tick]

theorem rowReq_put {x : RowReq} (h : x.wf = true) (rest : List Byte) : rowReq (putRow x ++ rest) = some (x, rest) := by
  simp only [RowReq.wf, Bool.and_eq_true, decide_eq_true_eq] at h
  obtain ⟨⟨⟨kind, subject⟩, height⟩, colour⟩ := h
  simp [rowReq, putRow, choice_leBytes (k := 3) (by omega) kind, subject, height, colour]

theorem initEntry_put {x : InitEntry} (h : x.wf = true) (rest : List Byte) :
    initEntry (putInit x ++ rest) = some (x, rest) := by
  cases x with
  | command code ps =>
    have items := counted_put (p := byte) (put := fun b => [b]) h (fun b _ => byte_cons b) rest
    rw [List.flatMap_singleton'] at items
    simp [initEntry, putInit, byte_cons, items]
  | delay ms =>
    have time : fits 1 ms = true := h
    simp [initEntry, putInit, time]

theorem panelSetup_put {x : PanelSetup} (h : x.wf = true) (rest : List Byte) :
    panelSetup (putSetup x ++ rest) = some (x, rest) := by
  simp only [PanelSetup.wf, Bool.and_eq_true, decide_eq_true_eq, List.all_eq_true] at h
  obtain ⟨⟨⟨⟨width, delay⟩, polarity⟩, short⟩, items⟩ := h
  have init := counted_put short (fun e he => initEntry_put (items e he)) rest
  simp only [putSetup, List.append_assoc, List.cons_append, List.nil_append]
  have codes : ∀ b r, byte (b :: r) = some (b, r) := byte_cons
  exact bind_read (field_leBytes width _) <| bind_read (codes ..) <| bind_read (codes ..) <| bind_read (codes ..) <|
    bind_read (codes ..) <| bind_read (codes ..) <| bind_read (codes ..) <| bind_read (codes ..) <|
    bind_read (field_leBytes delay _) <| bind_read (switch_put _ _) <|
    bind_read (choice_leBytes (k := 2) (by omega) polarity _) <| bind_read init rfl

theorem alertPair_put {x : Nat × Nat} (h : (fits 1 x.1 && decide (x.2 < 4)) = true) (rest : List Byte) :
    alertPair (leBytes 1 x.1 ++ leBytes 1 x.2 ++ rest) = some (x, rest) := by
  simp only [Bool.and_eq_true, decide_eq_true_eq] at h
  simp [alertPair, h.1, choice_leBytes (k := 3) (by omega) h.2]

theorem selector_put (x : StatusSel) (rest : List Byte) :
    choice 5 (putSelector x :: rest) = some ((putSelector x).toNat, rest) :=
  choice_cons (by cases x <;> decide) rest

theorem selectorOf_put (x : StatusSel) : selectorOf (putSelector x).toNat = x := by
  cases x <;> rfl

/-! ## Payloads -/

theorem one_put {k : Nat → Request} {n : Nat} (h : fits 1 n = true) (rest : List Byte) :
    one k (leBytes 1 n ++ rest) = some (k n, rest) := by
  simp [one, h]

/-- Every well-formed request's payload is read back as the request. -/
theorem payload_put {r : Request} (h : r.wf = true) (rest : List Byte) :
    payload (code r) (putPayload r ++ rest) = some (r, rest) := by
  cases r with
  | setPods a b =>
    simp only [Request.wf, Bool.and_eq_true] at h
    simp [code, payload, putPayload, optional_putSigned h.1, optional_putSigned h.2]
  | setClock d m =>
    have div : fits 4 d = true := h
    simp [code, payload, putPayload, div, half_put]
  | setWatch w => simp [code, payload, watch_put h]
  | loadTrigger a => simp [code, payload, putPayload, armParams_put h]
  | setStoreLow n =>
    have count : fits 2 n = true := h
    simp [code, payload, putPayload, count]
  | drop n | keep n | unkeep n | decStop n | decClear n | queuePeek n | setLiveDivider n | overlayClear n =>
    exact one_put h rest
  | readRecords n lo hi =>
    simp only [Request.wf, Bool.and_eq_true] at h
    simp [code, payload, putPayload, h]
  | decStart slot p src quota level =>
    simp only [Request.wf, Bool.and_eq_true] at h
    obtain ⟨⟨⟨⟨hslot, hp⟩, hsrc⟩, hquota⟩, hlevel⟩ := h
    simp [code, payload, putPayload, hslot, protocol_put hp, source_put hsrc, hquota, hlevel]
  | queueTake n m =>
    simp only [Request.wf, Bool.and_eq_true] at h
    simp [code, payload, putPayload, h]
  | readNotes slot n lo hi m =>
    simp only [Request.wf, Bool.and_eq_true] at h
    simp [code, payload, putPayload, h]
  | measure n a b m =>
    simp only [Request.wf, Bool.and_eq_true] at h
    simp [code, payload, putPayload, h, half_put]
  | setView n t scale follow =>
    simp only [Request.wf, Bool.and_eq_true] at h
    simp [code, payload, putPayload, viewSeg_put h.1.1, h, flag_put]
  | setLayout rows =>
    simp only [Request.wf, Bool.and_eq_true, List.all_eq_true] at h
    simp [code, payload, putPayload, counted_put h.1 fun x hx => rowReq_put (h.2 x hx)]
  | setPalette cs =>
    have eight : cs.length = 8 := by simpa [Request.wf] using h
    have items := many_put (as := cs) (fun c _ => half_put c) rest
    rw [eight] at items
    simp [code, payload, putPayload, items]
  | setCursors a b =>
    simp only [Request.wf, Bool.and_eq_true] at h
    simp [code, payload, putPayload, cursor_put h.1, cursor_put h.2]
  | panelSetup x => simp [code, payload, putPayload, panelSetup_put h]
  | overlaySet i x y w z =>
    simp only [Request.wf, Bool.and_eq_true] at h
    simp [code, payload, putPayload, h]
  | overlayPixels i offset px =>
    simp only [Request.wf, Bool.and_eq_true] at h
    simp [code, payload, putPayload, h, counted_put h.2 fun x _ => half_put x]
  | claim take => simp [code, payload, putPayload, flag_put]
  | alertLevels ps =>
    simp only [Request.wf, Bool.and_eq_true, List.all_eq_true] at h
    have pairs := counted_put h.1 (fun x hx => alertPair_put (by simpa using h.2 x hx)) rest
    simp [code, payload, putPayload, pairs]
  | status x => simp [code, payload, putPayload, selector_put, selectorOf_put]
  | doze n =>
    have secs : fits 2 n = true := h
    simp [code, payload, putPayload, secs]
  | setBattery a b =>
    simp only [Request.wf, Bool.and_eq_true] at h
    simp [code, payload, putPayload, h]
  | arm | force | halt | measureResult | panelOn | panelOff | panelSleep | panelWake | panelStatus | release | portReset
  | readNext | streamCancel | alertFetch | identify | nop | wakeCausesClear | resetPart | powerStatus => rfl

/-! ## Frames -/

theorem code_bounds (r : Request) : 1 ≤ code r ∧ code r ≤ 49 := by
  cases r <;> simp [code]

/-- The header of a request's frame, byte by byte, the payload after it. -/
theorem frame_eq (tag : Tag) (r : Request) : frame tag r =
    1 :: BitVec.ofNat 8 (code r) :: BitVec.ofNat 8 tag.toNat :: BitVec.ofNat 8 (tag.toNat / 256) ::
      BitVec.ofNat 8 (putPayload r).length :: BitVec.ofNat 8 ((putPayload r).length / 256) :: 0 :: 0 :: putPayload r :=
        rfl

theorem requestFrame_frame {tag : Tag} {r : Request} (pad : List Byte) (h : r.wf = true)
    (short : (putPayload r).length ≤ 256) :
    lengthField (frame tag r ++ pad) = (putPayload r).length ∧
    requestFrame true (frame tag r ++ pad) = .request (BitVec.ofNat 8 (code r)) tag r := by
  have bytes : ∀ v < 65536, leNat [BitVec.ofNat 8 v, BitVec.ofNat 8 (v / 256)] = v := by
    intro v hv
    exact (leNat_leBytes 2 v).trans (Nat.mod_eq_of_lt hv)
  have count : lengthField (frame tag r ++ pad) = (putPayload r).length := bytes _ (by omega)
  have kind : kindByte (frame tag r ++ pad) = BitVec.ofNat 8 (code r) := rfl
  have kindNat : (BitVec.ofNat 8 (code r)).toNat = code r := by
    rw [BitVec.toNat_ofNat]
    exact Nat.mod_eq_of_lt (by have := code_bounds r; omega)
  have tagged : tagOf (frame tag r ++ pad) = tag := by
    show BitVec.ofNat 16 (leNat [BitVec.ofNat 8 tag.toNat, BitVec.ofNat 8 (tag.toNat / 256)]) = tag
    rw [bytes _ tag.isLt, BitVec.ofNat_toNat, BitVec.setWidth_eq]
  have fields : ((frame tag r ++ pad).drop 8).take (putPayload r).length = putPayload r := by
    rw [frame_eq]
    simp
  have parsed : parsePayload (code r) (putPayload r) = some r := by
    have read := payload_put h []
    rw [List.append_nil] at read
    rw [parsePayload, read]
  refine ⟨count, ?_⟩
  rw [requestFrame, kind, kindNat, count, tagged, fields, parsed]
  exact if_pos ⟨(code_bounds r).1, (code_bounds r).2, short, rfl, rfl, rfl⟩

end Sys2Proof.Wire

namespace Sys2Proof.Machine

/-- Settles O10: the payload is read field by field, and the header's checks pass. -/
theorem requestFrameRoundTrip : Obligations.RequestFrameRoundTrip := by
  intro tag r pad wf short
  obtain ⟨count, read⟩ := Wire.requestFrame_frame (tag := tag) [] wf short
  rw [List.append_nil] at count read
  have exactly : (Wire.frame tag r).length = 8 + Wire.lengthField (Wire.frame tag r) := by
    rw [count, Wire.frame_eq]
    simp only [List.length_cons]
    omega
  constructor
  · rw [Wire.tetherFrame, decide_eq_true exactly, read]
    exact if_pos rfl
  · exact (Wire.requestFrame_frame pad wf short).2

end Sys2Proof.Machine
end

section
/-! PROOFS. The frames the part sends: a reply's header and payload, the fields chapter 12 lays out, and the bytes that
go out on the console port (O11). -/

namespace Sys2Proof.Machine

/-! ## A reply's frame -/

theorem length_body_le (b : ReplyBody) : b.bytes.length ≤ 256 := by
  cases b with
  | none => simp [ReplyBody.bytes]
  | badForm n => simp [ReplyBody.bytes]
  | alert a left => cases a <;> simp [ReplyBody.bytes, alertBytes]
  | _ => exact List.length_take_le 256 _

theorem leBytes_two (v : Nat) : leBytes 2 v = [BitVec.ofNat 8 v, BitVec.ofNat 8 (v / 256)] := rfl

theorem leBytes_tag (t : Tag) : leBytes 2 t.toNat = [t.setWidth 8, t.extractLsb' 8 8] := by
  have low : BitVec.ofNat 8 t.toNat = t.setWidth 8 := BitVec.eq_of_toNat_eq (by simp)
  have high : BitVec.ofNat 8 (t.toNat / 256) = t.extractLsb' 8 8 :=
    BitVec.eq_of_toNat_eq (by simp [BitVec.extractLsb'_toNat, Nat.shiftRight_eq_div_pow])
  rw [leBytes_two, low, high]

theorem reply_bytes (r : Reply) : r.bytes =
    [2, r.kind, r.tag.setWidth 8, r.tag.extractLsb' 8 8, BitVec.ofNat 8 r.body.bytes.length,
      BitVec.ofNat 8 (r.body.bytes.length / 256), BitVec.ofNat 8 r.status.code, if r.last then 1 else 0] ++
      r.body.bytes := by
  have last : leBytes 1 r.last.toNat = [if r.last then 1 else 0] := by cases r.last <;> rfl
  rw [Reply.bytes, leBytes_tag, leBytes_two, last]
  rfl

theorem none_bytes (starting waiting : Bool) (n : Nat) : (OutFrame.none starting waiting n).bytes =
    [0, BitVec.ofNat 8 n, 0, 0, 0, 0, 0, (if starting then 1 else 0) + (if waiting then 2 else 0)] := by
  cases starting <;> cases waiting <;> rfl

/-! ## Fields of a payload -/

theorem level_bytes {ls : List AlertLevel} (h : ls.length = 15) : (ReplyBody.levels ls).bytes =
    ls.map fun l => BitVec.ofNat 8 l.code := by
  have parts : (ReplyBody.levels ls).parts.flatMap (ReplyPart.bytes (.levels ls)) =
      ls.map fun l => BitVec.ofNat 8 l.code := by
    rw [ReplyBody.parts, List.flatMap_map, List.map_eq_flatMap]
    rfl
  show (_ : List Byte).take 256 = _
  rw [parts, List.take_of_length_le (by simp [h])]

/-! ## What goes out -/

theorem clocked_eq (f : OutFrame) (n : Nat) :
    (f.clocked n).length = n ∧ ∀ i, i < n → (f.clocked n)[i]? = some (f.bytes.getD i 0) := by
  constructor
  · simp [OutFrame.clocked]
  · intro i hi
    rw [OutFrame.clocked, List.getElem?_take_of_lt hi, List.getD_eq_getElem?_getD]
    rcases Nat.lt_or_ge i f.bytes.length with inside | past
    · rw [List.getElem?_append_left inside, List.getElem?_eq_getElem inside, Option.getD_some]
    · rw [List.getElem?_append_right past, List.getElem?_eq_none past, Option.getD_none,
        List.getElem?_replicate_of_lt (by omega)]

/-- Settles O11: the hand-written frames by evaluation, the frames sent by their fields. -/
theorem writtenFramesAreRead : Obligations.WrittenFramesAreRead := by
  refine ⟨by decide, by decide, by decide, by decide, fun r n hn => ?_, rfl, none_bytes, fun x l left => rfl,
    fun left => rfl,
    fun n => rfl, fun le hle => ?_, fun ls h => (level_bytes h).trans ?_, clocked_eq⟩
  · subst hn
    exact ⟨length_body_le r.body, reply_bytes r⟩
  · obtain rfl : le = leBytes := funext fun w => funext fun v => (hle w v).trans (leBytes_eq w v).symm
    have whole : ∀ l : List Byte, l.length ≤ 256 → l.take 256 = l := fun l => List.take_of_length_le
    have laid : ∀ (b : ReplyBody) (l : List Byte), b.parts.flatMap (ReplyPart.bytes b) = l → l.length ≤ 256 →
        (b.parts.flatMap (ReplyPart.bytes b)).take 256 = l := fun b l e short => e ▸ whole _ (e ▸ short)
    refine ⟨fun t => laid (.tick t) _ (by simp [ReplyBody.parts]) (by simp),
      fun lo hi n => laid (.recordsStream lo hi n) _ (by simp [ReplyBody.parts]) (by simp),
      fun a b => laid (.measuring a b) _ (by simp [ReplyBody.parts]) (by simp),
      fun low n armed => ⟨Config.replyField (.storeLow low n armed) 0, Config.replyField (.storeLow low n armed) 1,
        congrArg (List.take 256) (?_ : List.flatMap _ (ReplyBody.storeLow low n armed).parts = _)⟩,
      fun t0 scale => ⟨Config.replyField (.viewed t0 scale) 0,
        congrArg (List.take 256) (?_ : List.flatMap _ (ReplyBody.viewed t0 scale).parts = _)⟩,
      fun seg a b => ⟨Config.replyField (.measureBusy seg a b) 0,
        congrArg (List.take 256) (?_ : List.flatMap _ (ReplyBody.measureBusy seg a b).parts = _)⟩⟩ <;>
      simp [ReplyBody.parts]
  · refine congrArg (List.map · ls) (funext fun l => ?_)
    cases l <;> rfl

end Sys2Proof.Machine
end

section
/-! PROOFS. The UART decoder: the bit period and the sample points, and what a whole frame's samples form (O16). -/

namespace Sys2Proof.Machine

/-! ## The bit period (R108) -/

theorem uartPeriod_iff {d baud q : Nat} (h : 0 < d * baud) :
    uartPeriod d baud = q ↔ 2 * (d * baud) * q ≤ 204800000000 + d * baud ∧
      204800000000 + d * baud < 2 * (d * baud) * (q + 1) := by
  rw [uartPeriod, Nat.div_eq_iff (by omega), Nat.mul_add, Nat.mul_comm q]
  omega

theorem uartPeriod_even {d baud : Nat} (h : 2 ∣ d * baud) :
    uartPeriod d baud = (102400000000 + d * baud / 2) / (d * baud) := by
  obtain ⟨n, hn⟩ := h
  rw [uartPeriod, hn, Nat.mul_div_cancel_left n (by decide), show 204800000000 + 2 * n =
    2 * (102400000000 + n) by omega,
    Nat.mul_div_mul_left _ _ (by decide)]

/-! ## Start edges and sample points -/

theorem uartEdge_starts {c : UartCfg} {r : UartRx} {was is : Half} (t : Nat) (hunt : r.phase = .hunt)
    (idle : was.getLsbD c.rx = c.idleHigh) (active : is.getLsbD c.rx = !c.idleHigh) :
    uartEdge c r was is t = { phase := .start, t0 := t, bit := 0, value := 0, par := false, allActive := true } :=
  if_pos ⟨hunt, idle, by rw [levelOf, active]; simp⟩

theorem uartEdge_stays {c : UartCfg} {r : UartRx} {was is : Half} (t : Nat)
    (h : r.phase ≠ .hunt ∨ was.getLsbD c.rx = !c.idleHigh ∨ is.getLsbD c.rx = c.idleHigh) :
    uartEdge c r was is t = r := by
  refine if_neg fun ⟨hunt, idle, active⟩ => ?_
  rcases h with h | h | h
  · exact h hunt
  · rw [levelOf, h] at idle
    simp at idle
  · exact active h

theorem uartAdvance_stops {c : UartCfg} {P limit fuel : Nat} {cur : Half} {r : UartRx}
    (h : r.phase = .hunt ∨ limit < samplePoint P r.t0 r.bit) : uartAdvance c P cur limit (fuel + 1) r = (r, []) := by
  rw [uartAdvance]
  split
  · rfl
  · rename_i live
    exact if_pos (h.resolve_left live)

theorem uartAdvance_samples {c : UartCfg} {P limit fuel : Nat} {cur : Half} {r : UartRx} (live : r.phase ≠ .hunt)
    (due : samplePoint P r.t0 r.bit ≤ limit) {x : UartRx × List Formed}
    (hx : x = uartSample c r (samplePoint P r.t0 r.bit) (cur.getLsbD c.rx = c.idleHigh)) :
    uartAdvance c P cur limit (fuel + 1) r =
      ((uartAdvance c P cur limit fuel x.1).1, x.2 ++ (uartAdvance c P cur limit fuel x.1).2) := by
  have sample : (levelOf cur c.rx == c.idleHigh) = decide (cur.getLsbD c.rx = c.idleHigh) := rfl
  rw [uartAdvance, if_neg live]
  simp only [if_neg (Nat.not_lt.mpr due), sample, ← hx]

/-! ## The value of the data bits (R119, R120) -/

/-- What data bits that begin at bit `j` add to the value. -/
def bitsFrom (data : List Bool) (j : Nat) : Nat := ((data.zipIdx j).map fun x => x.1.toNat * 2 ^ x.2).sum

theorem bitsFrom_cons (b : Bool) (data : List Bool) (j : Nat) :
    bitsFrom (b :: data) j = b.toNat * 2 ^ j + bitsFrom data (j + 1) := by
  simp [bitsFrom, List.zipIdx_cons]

theorem bitsFrom_succ (data : List Bool) : ∀ j, bitsFrom data (j + 1) = 2 * bitsFrom data j := by
  induction data with
  | nil => intro j; rfl
  | cons b data ih =>
    intro j
    rw [bitsFrom_cons, bitsFrom_cons, ih, Nat.pow_succ, Nat.mul_add, Nat.mul_comm (2 ^ j) 2, Nat.mul_left_comm]

theorem popCount_bits (data : List Bool) : ∀ n, data.length ≤ n → popCount n (bitsFrom data 0) = data.count true := by
  have zero : ∀ n, popCount n 0 = 0 := by
    intro n
    induction n with
    | zero => rfl
    | succ n ih => simpa [popCount] using ih
  induction data with
  | nil => exact fun n _ => zero n
  | cons b data ih =>
    intro n h
    obtain ⟨m, rfl⟩ : ∃ m, n = m + 1 := ⟨n - 1, by simp at h; omega⟩
    have short : data.length ≤ m := by simpa using h
    have half : (b.toNat + 2 * bitsFrom data 0) / 2 = bitsFrom data 0 := by cases b <;> simp <;> omega
    have bit : (b.toNat + 2 * bitsFrom data 0) % 2 = b.toNat := by cases b <;> simp <;> omega
    rw [bitsFrom_cons, bitsFrom_succ, Nat.pow_zero, Nat.mul_one, popCount, half, bit, ih m short]
    cases b <;> simp [Nat.add_comm]

/-! ## A frame's samples -/

/-- The receiver of a frame after `j` of its data bits. -/
def UartRx.after (c : UartCfg) (t0 j value : Nat) (allActive : Bool) : UartRx :=
  { phase := if j < c.dataBits + uartParityBits c then .bits else .stop, t0 := t0, bit := j + 1, value := value,
    par := false, allActive := allActive }

theorem uartFeed_start (c : UartCfg) (t0 t : Nat) (l : List (Nat × Bool)) (bits : 5 ≤ c.dataBits) :
    uartFeed c { phase := .start, t0 := t0, bit := 0, value := 0, par := false, allActive := true } ((t, false) :: l) =
      uartFeed c (.after c t0 0 0 true) l := by
  have more : 0 < c.dataBits + uartParityBits c := by omega
  simp [uartFeed, uartSample, UartRx.after, more]

theorem uartSample_data {c : UartCfg} {t0 j value : Nat} {active : Bool} (t : Nat) (b : Bool) (h : j < c.dataBits) :
    uartSample c (.after c t0 j value active) t b = (.after c t0 (j + 1) (value + b.toNat * 2 ^ j) (active && !b),
      []) := by
  have more : j < c.dataBits + uartParityBits c := by omega
  have data : j + 1 ≤ c.dataBits := h
  simp [uartSample, UartRx.after, more, data]

theorem uartFeed_data (c : UartCfg) (t0 : Nat) (rest : List (Nat × Bool)) (l : List (Nat × Bool)) :
    ∀ (j value : Nat) (active : Bool), j + l.length = c.dataBits →
      uartFeed c (.after c t0 j value active) (l ++ rest) = uartFeed c
        (.after c t0 c.dataBits (value + bitsFrom (l.map (·.2)) j) (active && l.all (!·.2))) rest := by
  induction l with
  | nil =>
    intro j value active hj
    obtain rfl : j = c.dataBits := hj
    simp [bitsFrom]
  | cons x l ih =>
    intro j value active hj
    rw [List.length_cons] at hj
    rw [List.cons_append, uartFeed, uartSample_data x.1 x.2 (by omega), ih _ _ _ (by omega), List.map_cons,
      bitsFrom_cons,
      List.all_cons, Nat.add_assoc, Bool.and_assoc]
    simp

/-- The receiver once the data and parity bits are in, before its `k`-th stop sample. -/
def UartRx.atStop (c : UartCfg) (t0 k value : Nat) (par allActive : Bool) : UartRx :=
  { phase := .stop, t0 := t0, bit := c.dataBits + uartParityBits c + 1 + k, value := value, par := par,
    allActive := allActive }

theorem uartFeed_parity {c : UartCfg} {t0 value : Nat} {active : Bool} (l rest : List (Nat × Bool))
    (h : l.length = if c.parity = .none then 0 else 1) :
    uartFeed c (.after c t0 c.dataBits value active) (l ++ rest) =
      uartFeed c (.atStop c t0 0 value ((l.map (·.2)).headD false) (active && l.all (!·.2))) rest := by
  by_cases none : c.parity = .none
  · rw [if_pos none] at h
    obtain rfl := List.length_eq_zero_iff.mp h
    simp [UartRx.after, UartRx.atStop, uartParityBits, none]
  · rw [if_neg none] at h
    obtain ⟨x, rfl⟩ := List.length_eq_one_iff.mp h
    have sampled : uartSample c (.after c t0 c.dataBits value active) x.1 x.2 =
        (.atStop c t0 0 value x.2 (active && !x.2), []) := by
      have past : ¬ c.dataBits + 1 ≤ c.dataBits := by omega
      simp [uartSample, UartRx.after, UartRx.atStop, uartParityBits, none, past]
    simp [uartFeed, sampled]

/-- The stop samples after the first good ones: the last of them forms the annotation. -/
theorem uartFeed_stops {c : UartCfg} {t0 t value : Nat} {par : Bool} (n : Nat) :
    ∀ (k : Nat) (active : Bool) (l : List (Nat × Bool)), k + n + 1 = c.stopBits → l.map (·.2) =
      List.replicate (n + 1) true →
      l.getLast? = some (t, true) → uartFeed c (.atStop c t0 k value par active) l =
        (UartRx.hunt, [uartFrame c (.atStop c t0 0 value par true) t true false]) := by
  induction n with
  | zero =>
    intro k active l count ones last
    obtain ⟨x, rfl⟩ : ∃ x, l = [x] := List.length_eq_one_iff.mp (by simpa using congrArg List.length ones)
    obtain rfl : x = (t, true) := by simpa using last
    have done : ¬ c.dataBits + uartParityBits c + 1 + k < c.dataBits + uartParityBits c + c.stopBits := by omega
    have sampled : uartSample c (.atStop c t0 k value par active) t true =
        (UartRx.hunt, [uartFrame c (.atStop c t0 k value par active) t true false]) := by
      simp [uartSample, UartRx.atStop, done]
    rw [uartFeed, sampled]
    rfl
  | succ n ih =>
    intro k active l count ones last
    obtain ⟨x, l, rfl⟩ : ∃ x l', l = x :: l' := List.exists_cons_of_ne_nil (by rintro rfl; simp at ones)
    rw [List.replicate_succ, List.map_cons] at ones
    obtain ⟨one, rest⟩ := List.cons.inj ones
    have sampled : uartSample c (.atStop c t0 k value par active) x.1 x.2 =
      (.atStop c t0 (k + 1) value par false, []) := by
      have more : c.dataBits + uartParityBits c + 1 + k < c.dataBits + uartParityBits c + c.stopBits := by omega
      simp only [uartSample, UartRx.atStop, one, if_true]
      exact if_pos more
    have last' : l.getLast? = some (t, true) := by
      rcases l with _ | ⟨y, l⟩
      · simp at rest
      · simpa using last
    rw [uartFeed, sampled, ih (k + 1) false l (by omega) rest last']
    simp

theorem uartFeed_badStop {c : UartCfg} {t0 t value : Nat} {par active : Bool} :
    uartFeed c (.atStop c t0 0 value par active) [(t, false)] =
      (UartRx.hunt, [uartFrame c (.atStop c t0 0 value par true) t false active]) := by
  have sampled : uartSample c (.atStop c t0 0 value par active) t false =
      (UartRx.hunt, [uartFrame c (.atStop c t0 0 value par active) t false active]) := by
    simp [uartSample, UartRx.atStop]
  rw [uartFeed, sampled]
  rfl

theorem uartParityGood_iff {c : UartCfg} {data pars : List Bool} (bits : c.dataBits ≤ 9) (hd : data.length = c.dataBits)
    (hp : pars.length = if c.parity = .none then 0 else 1) :
    uartParityGood c (bitsFrom data 0) (pars.headD false) = true ↔ c.parity = .none ∨
      (c.parity = .even ∧ (data.count true + pars.count true) % 2 = 0) ∨
      (c.parity = .odd ∧ (data.count true + pars.count true) % 2 = 1) := by
  have ones := popCount_bits data 9 (by omega)
  have parity : c.parity ≠ .none → (pars.headD false).toNat = pars.count true := by
    intro some
    rw [if_neg some] at hp
    obtain ⟨b, rfl⟩ := List.length_eq_one_iff.mp hp
    cases b <;> rfl
  unfold uartParityGood
  cases kind : c.parity with
  | none => simp
  | even =>
    simp only [ones, parity (by simp [kind]), decide_eq_true_eq]
    simp
  | odd =>
    simp only [ones, parity (by simp [kind]), decide_eq_true_eq]
    simp

/-- Settles O16: the bit period by arithmetic, the frame sample by sample. -/
theorem uartPeriodHolds : Obligations.UartPeriod := by
  refine ⟨⟨fun d baud _ _ even => uartPeriod_even even, fun d baud q => uartPeriod_iff, by decide, by decide⟩,
    fun c r was is t => ⟨uartEdge_starts t, uartEdge_stays t⟩, fun P t0 i => rfl,
    fun c P limit fuel cur r => ⟨uartAdvance_stops, fun x live due hx => uartAdvance_samples live due hx⟩,
    fun c r t0 t data pars l value good hr bits bits9 stops hd hp hv hgood => ?_⟩
  subst hr
  have header : ∀ tail, l.map (·.2) = false :: data ++ pars ++ tail → ∃ ls, ls.map (·.2) = tail ∧
      (tail ≠ [] → ls.getLast? = l.getLast?) ∧
      uartFeed c { phase := .start, t0 := t0, bit := 0, value := 0, par := false, allActive := true } l =
        uartFeed c (.atStop c t0 0 value (pars.headD false) (data.all (!·) && pars.all (!·))) ls := by
    intro tail hl
    obtain ⟨front, ls, rfl, hfront, hls⟩ := List.map_eq_append_iff.mp hl
    obtain ⟨front, lp, rfl, hfront, hlp⟩ := List.map_eq_append_iff.mp hfront
    obtain ⟨x, ld, rfl, hx, hld⟩ := List.map_eq_cons_iff.mp hfront
    refine ⟨ls, hls, fun some => ?_, ?_⟩
    · have ne : ls ≠ [] := by
        rintro rfl
        exact some hls.symm
      rw [List.getLast?_append, List.getLast?_eq_some_getLast ne, Option.some_or]
    · obtain ⟨tx, bx⟩ := x
      obtain rfl : bx = false := hx
      rw [List.append_assoc, List.cons_append, uartFeed_start c t0 tx _ bits,
        uartFeed_data c t0 _ ld 0 0 true (by rw [← hd, ← hld]; simp),
        uartFeed_parity lp ls (by rw [← hp, ← hlp]; simp), hld, hlp, Nat.zero_add, show bitsFrom data 0 =
          value from hv.symm,
        ← hld, ← hlp]
      simp [List.all_map, Function.comp_def]
  have aux : (if c.parity = .none then none else some (pars.headD false).toNat) = pars.head?.map Bool.toNat := by
    split at hp
    · rename_i none
      rw [if_pos none, List.length_eq_zero_iff.mp hp]
      rfl
    · rename_i parity
      obtain ⟨b, rfl⟩ := List.length_eq_one_iff.mp hp
      rw [if_neg parity]
      rfl
  have parity : uartParityGood c value (pars.headD false) = good :=
    Bool.eq_iff_iff.mpr (by rw [hv]; exact (uartParityGood_iff bits9 hd hp).trans hgood.symm)
  have single : ∀ {ls : List (Nat × Bool)}, ls.map (·.2) = [false] → ls.getLast? = some (t, false) → ls =
    [(t, false)] := by
    intro ls one last
    obtain ⟨x, rfl⟩ := List.length_eq_one_iff.mp (by simpa using congrArg List.length one : ls.length = 1)
    simpa using last
  refine ⟨fun hl last => ?_, fun hl last => ⟨fun ⟨b, hb, one⟩ => ?_, fun zeros => ?_⟩, ?_⟩
  · obtain ⟨ls, hls, hlast, fed⟩ := header _ hl
    obtain ⟨n, hn⟩ : ∃ n, c.stopBits = n + 1 := ⟨c.stopBits - 1, by omega⟩
    rw [hn] at hls hlast
    rw [fed, uartFeed_stops (t := t) n 0 _ ls (by omega) hls ((hlast (by simp)).trans last)]
    simp only [uartFrame, UartRx.atStop, parity, aux, if_true]
  · obtain ⟨ls, hls, hlast, fed⟩ := header _ hl
    obtain rfl : ls = [(t, false)] := single hls ((hlast (by simp)).trans last)
    have seen : (data.all (!·) && pars.all (!·)) = false := by
      rw [← List.all_append, List.all_eq_false]
      exact ⟨b, hb, by simp [one]⟩
    rw [fed, uartFeed_badStop, seen]
    simp only [uartFrame, UartRx.atStop, parity, aux, if_false, Bool.false_eq_true]
  · obtain ⟨ls, hls, hlast, fed⟩ := header _ hl
    obtain rfl : ls = [(t, false)] := single hls ((hlast (by simp)).trans last)
    have unseen : (data.all (!·) && pars.all (!·)) = true := by
      rw [← List.all_append, List.all_eq_true]
      exact fun b hb => by simp [zeros b hb]
    rw [fed, uartFeed_badStop, unseen]
    rfl
  · simp [uartFeed, uartSample]

end Sys2Proof.Machine
end

section
/-! PROOFS. What the panel is sent to draw: the spans of the plot columns, the colour of a plot pixel, the windows of a
band and of a chunk (O15). -/

namespace Sys2Proof.Machine

/-! ## Column spans (R159) -/

theorem colEdge_zero (t0 scale : Nat) : colEdge t0 scale 0 = t0 := by simp [colEdge]

theorem colEdge_le_succ (t0 scale c : Nat) : colEdge t0 scale c ≤ colEdge t0 scale (c + 1) := by
  simp only [colEdge, Nat.succ_mul]
  omega

theorem colEdge_lt_colEnd (t0 scale c : Nat) : colEdge t0 scale c < colEnd t0 scale c := by
  rw [colEnd]
  omega

theorem colEnd_of_wide {t0 scale c : Nat} (h : 256 ≤ scale) : colEnd t0 scale c = colEdge t0 scale (c + 1) := by
  simp only [colEnd, colEdge, Nat.succ_mul]
  omega

theorem colEnd_of_same {t0 scale c : Nat} (h : colEdge t0 scale (c + 1) = colEdge t0 scale c) :
    colEnd t0 scale c = colEdge t0 scale c + 1 := by
  rw [colEnd, h]
  omega

/-! ## The colour of a plot pixel (R162 to R165) -/

/-- The height of the latched layout. -/
def State.plotHeight (s : State) : Nat := (s.render.latch.layout.map (·.height)).sum

/-- The colour a palette index stands for in the latched frame. -/
def State.colour (s : State) (i : Nat) : Half := s.render.latch.palette.getD i 0

theorem pixel_cursorB {s : State} {c y : Nat} (h : y < s.plotHeight) (hb : c ∈ s.render.drawnB) :
    s.pixel (20 + c) y = s.colour 7 :=
  if_pos ⟨h, by simpa using hb⟩

theorem pixel_cursorA {s : State} {c y : Nat} (h : y < s.plotHeight) (hb : c ∉ s.render.drawnB)
    (ha : c ∈ s.render.drawnA) : s.pixel (20 + c) y = s.colour 6 :=
  (if_neg (by simp [hb])).trans (if_pos ⟨h, by simpa using ha⟩)

theorem pixel_below {s : State} {c y : Nat} (h : s.plotHeight ≤ y) : s.pixel (20 + c) y = s.colour 0 := by
  have under : ¬ y < (s.render.latch.layout.map (·.height)).sum := Nat.not_lt.mpr h
  have none : rowAt y 0 0 s.render.latch.layout = none := rowAt_below (by rw [Nat.zero_add]; exact h)
  simp only [State.pixel, under, false_and, if_false, none]
  rfl

/-- The cell to the left of column `c`. -/
def leftOf (cells : List Cell) (c : Nat) : Option Cell := if c = 0 then none else some (cells.getD (c - 1) .none)

theorem pixel_row {s : State} {c y i y0 : Nat} {row : Row} {cells : List Cell} {cell : Cell}
    (hb : c ∉ s.render.drawnB) (ha : c ∉ s.render.drawnA) (hrow : s.render.latch.layout[i]? = some row)
    (hy0 : y0 = ((s.render.latch.layout.take i).map (·.height)).sum) (top : y0 ≤ y) (bottom : y < y0 + row.height)
    (hcells : s.render.trace[i]? = some cells) (hcell : cells[c]? = some cell) :
    s.pixel (20 + c) y = s.colour (cellIndex cell (leftOf cells c) (20 + c) y y0 row) := by
  have here : rowAt y 0 0 s.render.latch.layout = some (i, y0, row) := by
    simpa using rowAt_of_rowFrom (y := y) (i₀ := 0) (y₀ := 0) ⟨hrow, by simpa using hy0⟩ top bottom
  have column : 20 + c - 20 = c := by omega
  have cells' : s.render.trace.getD i [] = cells := by simp [List.getD_eq_getElem?_getD, hcells]
  have cell' : cells.getD c .none = cell := by simp [List.getD_eq_getElem?_getD, hcell]
  have noB : ¬ (y < (s.render.latch.layout.map (·.height)).sum ∧ s.render.drawnB.contains c = true) := by simp [hb]
  have noA : ¬ (y < (s.render.latch.layout.map (·.height)).sum ∧ s.render.drawnA.contains c = true) := by simp [ha]
  simp only [State.pixel, column, if_neg noB, if_neg noA, here, cells', cell']
  rfl

theorem cellIndex_margin {cell : Cell} {left : Option Cell} {x y y0 : Nat} {row : Row}
    (h : y = y0 ∨ y + 1 = y0 + row.height) : cellIndex cell left x y y0 row = 0 := by
  have outside : (decide (y0 + 1 ≤ y) && decide (y ≤ y0 + row.height - 2)) = false := by
    simp only [Bool.and_eq_false_iff, decide_eq_false_iff_not]
    omega
  simp only [cellIndex, outside]
  rfl

/-- Inside a row's margins the index is the cell's. -/
theorem cellIndex_inside {cell : Cell} {left : Option Cell} {x y y0 : Nat} {row : Row} (top : y0 < y)
    (bottom : y + 1 < y0 + row.height) :
    (cell = .outside ∨ cell = .none → cellIndex cell left x y y0 row = 0) ∧
    (cell = .unknown → cellIndex cell left x y y0 row = if (x + y) % 4 = 0 then 1 else 0) ∧
    (cell = .edge → cellIndex cell left x y y0 row = row.colour) ∧
    (cell = .low → cellIndex cell left x y y0 row = if y + 2 = y0 + row.height ∨ left =
      some .high then row.colour else 0) ∧
    (cell = .high → cellIndex cell left x y y0 row = if y = y0 + 1 ∨ left = some .low then row.colour else 0) ∧
    (∀ hatch label ground, cell = .bar hatch label → ground =
      (if hatch = false ∨ (x + y) % 4 = 0 then row.colour else 0) →
      (label = none → cellIndex cell left x y y0 row = ground) ∧
      (∀ digit k line, label = some (digit, k) → line = y0 + (row.height - 7) / 2 → cellIndex cell left x y y0 row =
        if line ≤ y ∧ y < line + 7 ∧ k < 5 ∧ Config.glyph digit (y - line) k = true then 0 else ground)) := by
  have inside : (decide (y0 + 1 ≤ y) && decide (y ≤ y0 + row.height - 2)) = true := by
    simp only [Bool.and_eq_true, decide_eq_true_eq]
    omega
  have bottomLine : y = y0 + row.height - 2 ↔ y + 2 = y0 + row.height := by omega
  refine ⟨?_, ?_, ?_, ?_, ?_, ?_⟩
  · rintro (rfl | rfl) <;> simp only [cellIndex, inside, Bool.not_true, Bool.false_eq_true, if_false]
  · rintro rfl
    simp only [cellIndex, inside, Bool.not_true, Bool.false_eq_true, if_false]
  · rintro rfl
    simp only [cellIndex, inside, Bool.not_true, Bool.false_eq_true, if_false]
  · rintro rfl
    simp only [cellIndex, inside, Bool.not_true, Bool.false_eq_true, if_false, bottomLine]
  · rintro rfl
    simp only [cellIndex, inside, Bool.not_true, Bool.false_eq_true, if_false]
  · rintro hatch label ground rfl rfl
    refine ⟨?_, ?_⟩
    · rintro rfl
      simp only [cellIndex, inside, Bool.not_true, Bool.false_eq_true, if_false, Bool.or_eq_true, Bool.not_eq_true',
        decide_eq_true_eq]
    · rintro digit k line rfl rfl
      simp only [cellIndex, inside, Bool.not_true, Bool.false_eq_true, if_false, Bool.or_eq_true, Bool.not_eq_true',
        decide_eq_true_eq]

theorem leftOf_iff {cells : List Cell} {c : Nat} {cell kind : Cell} (h : cells[c]? = some cell) :
    leftOf cells c = some kind ↔ 1 ≤ c ∧ cells[c - 1]? = some kind := by
  have inside : c - 1 < cells.length := by
    have := (List.getElem?_eq_some_iff.mp h).1
    omega
  have known : cells.getD (c - 1) .none = cells[c - 1] := by simp [List.getD_eq_getElem?_getD, inside]
  rw [leftOf, known, List.getElem?_eq_getElem inside]
  by_cases zero : c = 0 <;> simp [zero]
  omega

/-! ## The windows of a band (R179) -/

theorem exists_mem_cons {α : Type} {p : α → Prop} {a : α} {l : List α} :
    (∃ x ∈ a :: l, p x) ↔ p a ∨ ∃ x ∈ l, p x := by
  constructor
  · rintro ⟨x, hx, h⟩
    rcases List.mem_cons.mp hx with rfl | hx
    · exact .inl h
    · exact .inr ⟨x, hx, h⟩
  · rintro (h | ⟨x, hx, h⟩)
    · exact ⟨a, List.mem_cons_self, h⟩
    · exact ⟨x, List.mem_cons_of_mem _ hx, h⟩

theorem flatMap_congr_mem {α β : Type} {l : List α} {f g : α → List β} (h : ∀ x ∈ l, f x = g x) :
    l.flatMap f = l.flatMap g := by
  rw [List.flatMap_def, List.flatMap_def, List.map_congr_left h]

theorem covered_iff {list : List (Option Rect)} {x y : Nat} : covered list x y = true ↔
    ∃ o, some o ∈ list ∧ o.x ≤ x ∧ x < o.x + o.w ∧ o.y ≤ y ∧ y < o.y + o.h := by
  rw [← Bool.not_eq_false, covered_eq_false]
  constructor
  · refine fun some => Classical.byContradiction fun none => some fun q hq => ?_
    exact Classical.byContradiction fun inside => none ⟨q, hq, by omega, by omega, by omega, by omega⟩
  · rintro ⟨o, ho, inside⟩ outside
    have := outside o ho
    omega

theorem mem_writtenSet {list : List (Option Rect)} {x y : Nat} :
    x ∈ writtenSet list y ↔ (20 ≤ x ∧ x < 320) ∧ covered list x y = false := by
  simp only [writtenSet, List.mem_filter, List.mem_map, List.mem_range, Bool.not_eq_true']
  refine and_congr_left fun _ => ⟨?_, fun ⟨lo, hi⟩ => ⟨x - 20, by omega, by omega⟩⟩
  rintro ⟨i, hi, rfl⟩
  omega

theorem writtenSet_sorted (list : List (Option Rect)) (y : Nat) : (writtenSet list y).Pairwise (· < ·) :=
  ((List.pairwise_lt_range (n := 300)).map (· + 20) fun _ _ h => Nat.add_lt_add_right h 20).filter _

/-- The runs of a rising list are its maximal runs of consecutive numbers, from the left. -/
theorem columnRuns_spec {xs : List Nat} (sorted : xs.Pairwise (· < ·)) :
    (∀ c ∈ columnRuns xs, c.1 ≤ c.2) ∧ (∀ x, x ∈ xs ↔ ∃ c ∈ columnRuns xs, c.1 ≤ x ∧ x ≤ c.2) ∧
    (columnRuns xs).Pairwise fun c d => c.2 + 1 < d.1 := by
  induction xs with
  | nil => simp [columnRuns]
  | cons x xs ih =>
    obtain ⟨above, sorted⟩ := List.pairwise_cons.mp sorted
    obtain ⟨ordered, members, apart⟩ := ih sorted
    rcases here : columnRuns xs with _ | ⟨⟨a, b⟩, r⟩ <;> rw [here] at ordered members apart
    · have none : xs = [] := List.eq_nil_iff_forall_not_mem.mpr fun y hy => by simpa using (members y).mp hy
      subst none
      simp [columnRuns]
      omega
    · have ab : a ≤ b := ordered (a, b) List.mem_cons_self
      have xa : x < a := above a ((members a).mpr ⟨(a, b), List.mem_cons_self, Nat.le_refl a, ab⟩)
      obtain ⟨first, apart⟩ := List.pairwise_cons.mp apart
      by_cases next : a = x + 1
      · have run : columnRuns (x :: xs) = (x, b) :: r := by simp [columnRuns, here, next]
        rw [run]
        refine ⟨fun c hc => ?_, fun y => ?_, List.pairwise_cons.mpr ⟨first, apart⟩⟩
        · rcases List.mem_cons.mp hc with rfl | hc
          · exact Nat.le_trans (Nat.le_of_lt xa) ab
          · exact ordered c (List.mem_cons_of_mem _ hc)
        · rw [List.mem_cons, members y]
          simp only [exists_mem_cons]
          rw [← or_assoc]
          refine or_congr_left ?_
          omega
      · have run : columnRuns (x :: xs) = (x, x) :: (a, b) :: r := by simp [columnRuns, here, next]
        rw [run]
        refine ⟨fun c hc => ?_, fun y => ?_,
          List.pairwise_cons.mpr ⟨fun c hc => ?_, List.pairwise_cons.mpr ⟨first, apart⟩⟩⟩
        · rcases List.mem_cons.mp hc with rfl | hc
          · exact Nat.le_refl x
          · exact ordered c hc
        · rw [List.mem_cons, members y]
          simp only [exists_mem_cons]
          refine or_congr_left ?_
          show y = x ↔ x ≤ y ∧ y ≤ x
          omega
        · show x + 1 < c.1
          rcases List.mem_cons.mp hc with rfl | hc
          · show x + 1 < a
            omega
          · have : b + 1 < c.1 := first c hc
            omega

/-- Consecutive lines `y0`, `y0 + 1`, …, each with its set. -/
def linesFrom (f : Nat → List Nat) (y0 n : Nat) : List (Nat × List Nat) := (List.range' y0 n).map fun y => (y, f y)

/-- The groups of consecutive lines are the maximal ones of equal sets, from the top. -/
theorem lineGroups_spec (f : Nat → List Nat) (n : Nat) : ∀ y0,
    (∀ g ∈ lineGroups (linesFrom f y0 n), g.1 ≤ g.2.1 ∧ y0 ≤ g.1 ∧ g.2.1 < y0 + n) ∧
    (∀ g ∈ lineGroups (linesFrom f y0 n), ∀ y, g.1 ≤ y → y ≤ g.2.1 → f y = g.2.2) ∧
    (∀ y, y0 ≤ y → y < y0 + n → ∃ g ∈ lineGroups (linesFrom f y0 n), g.1 ≤ y ∧ y ≤ g.2.1) ∧
    (lineGroups (linesFrom f y0 n)).Pairwise (fun g h => g.2.1 < h.1) ∧
    (∀ y, y0 ≤ y → y + 1 < y0 + n → f y = f (y + 1) → ∀ g ∈ lineGroups (linesFrom f y0 n),
      (g.1 ≤ y ∧ y ≤ g.2.1 ↔ g.1 ≤ y + 1 ∧ y + 1 ≤ g.2.1)) := by
  induction n with
  | zero =>
    intro y0
    refine ⟨?_, ?_, fun y lo hi => ?_, ?_, ?_⟩ <;> simp [linesFrom, lineGroups]
    omega
  | succ n ih =>
    intro y0
    have lines : linesFrom f y0 (n + 1) = (y0, f y0) :: linesFrom f (y0 + 1) n := by simp [linesFrom, List.range'_succ]
    obtain ⟨bounds, equal, whole, apart, maximal⟩ := ih (y0 + 1)
    rw [lines]
    rcases here : lineGroups (linesFrom f (y0 + 1) n) with _ | ⟨⟨a, b, v⟩, r⟩ <;>
      rw [here] at bounds equal whole apart maximal
    · obtain rfl : n = 0 := by
        refine Classical.byContradiction fun some => ?_
        obtain ⟨g, hg, _⟩ := whole (y0 + 1) (Nat.le_refl _) (by omega)
        cases hg
      have group : lineGroups [(y0, f y0)] = [(y0, y0, f y0)] := rfl
      simp only [linesFrom, List.range'_zero, List.map_nil, group, List.mem_singleton, forall_eq, exists_eq_left,
        List.pairwise_singleton]
      refine ⟨by omega, fun y lo hi => ?_, fun y lo hi => by omega, trivial, fun y lo hi => by omega⟩
      rw [Nat.le_antisymm hi lo]
    · obtain ⟨ab, low, high⟩ : a ≤ b ∧ y0 + 1 ≤ a ∧ b < y0 + 1 + n := bounds _ List.mem_cons_self
      obtain ⟨first, apart⟩ := List.pairwise_cons.mp apart
      have next : a = y0 + 1 := by
        obtain ⟨g, hg, lo, hi⟩ := whole (y0 + 1) (Nat.le_refl _) (by omega)
        rcases List.mem_cons.mp hg with rfl | hg
        · exact Nat.le_antisymm lo low
        · have : b < g.1 := first g hg
          omega
      have set : f (y0 + 1) = v := equal _ List.mem_cons_self (y0 + 1) (by show a ≤ y0 + 1; omega) (by show y0 + 1 ≤ b; omega)
      have later : ∀ g ∈ r, b < g.1 := first
      by_cases same : v = f y0
      · have groups : lineGroups ((y0, f y0) :: linesFrom f (y0 + 1) n) = (y0, b, v) :: r := by
          simp only [lineGroups, here, if_pos same]
        rw [groups]
        simp only [List.forall_mem_cons, exists_mem_cons, List.pairwise_cons] at bounds equal whole maximal ⊢
        refine ⟨⟨by omega, fun g hg => ?_⟩, ⟨fun y lo hi => ?_, equal.2⟩, fun y lo hi => ?_, ⟨later, apart⟩,
          fun y lo hi e => ⟨?_, fun g hg => ?_⟩⟩
        · have := bounds.2 g hg
          omega
        · rcases Nat.eq_or_lt_of_le lo with rfl | lo
          · exact same.symm
          · exact equal.1 y (by omega) hi
        · rcases Nat.eq_or_lt_of_le lo with rfl | lo
          · exact .inl ⟨Nat.le_refl _, by omega⟩
          · exact (whole y lo (by omega)).imp_left fun h => ⟨by omega, h.2⟩
        · rcases Nat.eq_or_lt_of_le lo with rfl | lo
          · omega
          · have := (maximal y lo (by omega) e).1
            omega
        · rcases Nat.eq_or_lt_of_le lo with rfl | lo
          · have := later g hg
            omega
          · exact (maximal y lo (by omega) e).2 g hg
      · have groups : lineGroups ((y0, f y0) :: linesFrom f (y0 + 1) n) = (y0, y0, f y0) :: (a, b, v) :: r := by
          simp only [lineGroups, here, if_neg same]
        rw [groups]
        simp only [List.forall_mem_cons, exists_mem_cons, List.pairwise_cons] at bounds equal whole maximal ⊢
        refine ⟨⟨by omega, by omega, fun g hg => ?_⟩, ⟨fun y lo hi => ?_, equal⟩, fun y lo hi => ?_,
          ⟨⟨by omega, fun g hg => ?_⟩, later, apart⟩, fun y lo hi e => ⟨?_, ?_, fun g hg => ?_⟩⟩
        · have := bounds.2 g hg
          omega
        · rw [Nat.le_antisymm hi lo]
        · rcases Nat.eq_or_lt_of_le lo with rfl | lo
          · exact .inl ⟨Nat.le_refl _, Nat.le_refl _⟩
          · exact .inr (whole y lo (by omega))
        · have := later g hg
          omega
        all_goals rcases Nat.eq_or_lt_of_le lo with rfl | lo
        · exact absurd (set.symm.trans e.symm) same
        · omega
        · exact absurd (set.symm.trans e.symm) same
        · exact (maximal y lo (by omega) e).1
        · exact absurd (set.symm.trans e.symm) same
        · exact (maximal y lo (by omega) e).2 g hg

/-! ### The windows -/

theorem bandWindows_eq (list : List (Option Rect)) (b : Nat) : bandWindows list b =
    (lineGroups (linesFrom (writtenSet list) (16 * b) 16)).flatMap fun g =>
      (columnRuns g.2.2).map fun c => (c.1, c.2, g.1, g.2.1) := by
  have lines : (List.range 16).map (fun i => (16 * b + i, writtenSet list (16 * b + i))) =
      linesFrom (writtenSet list) (16 * b) 16 := by
    rw [linesFrom, List.range'_eq_map_range, List.map_map]
    rfl
  rw [bandWindows, lines]

theorem mem_bandWindows {list : List (Option Rect)} {b : Nat} {w : Nat × Nat × Nat × Nat} : w ∈ bandWindows list b ↔
    ∃ g ∈ lineGroups (linesFrom (writtenSet list) (16 * b) 16), ∃ c ∈ columnRuns g.2.2, w = (c.1, c.2, g.1, g.2.1) := by
  simp only [bandWindows_eq, List.mem_flatMap, List.mem_map, eq_comm]

/-- What a group of a band's lines is: its lines and their common written set. -/
theorem bandGroup {list : List (Option Rect)} {b : Nat} {g : Nat × Nat × List Nat}
    (h : g ∈ lineGroups (linesFrom (writtenSet list) (16 * b) 16)) :
    (g.1 ≤ g.2.1 ∧ 16 * b ≤ g.1 ∧ g.2.1 < 16 * b + 16) ∧ (∀ y, g.1 ≤ y → y ≤ g.2.1 → writtenSet list y = g.2.2) ∧
    g.2.2.Pairwise (· < ·) := by
  obtain ⟨bounds, equal, -⟩ := lineGroups_spec (writtenSet list) 16 (16 * b)
  have inside := bounds g h
  exact ⟨inside, equal g h, equal g h g.1 (Nat.le_refl _) inside.1 ▸ writtenSet_sorted list g.1⟩

theorem bandWindows_bounds {list : List (Option Rect)} {b : Nat} {w : Nat × Nat × Nat × Nat}
    (h : w ∈ bandWindows list b) :
    20 ≤ w.1 ∧ w.1 ≤ w.2.1 ∧ w.2.1 < 320 ∧ 16 * b ≤ w.2.2.1 ∧ w.2.2.1 ≤ w.2.2.2 ∧ w.2.2.2 < 16 * b + 16 := by
  obtain ⟨g, hg, c, hc, rfl⟩ := mem_bandWindows.mp h
  obtain ⟨⟨ordered, low, high⟩, equal, sorted⟩ := bandGroup hg
  obtain ⟨runs, members, -⟩ := columnRuns_spec sorted
  have inside : ∀ x, c.1 ≤ x → x ≤ c.2 → 20 ≤ x ∧ x < 320 := fun x lo hi =>
    (mem_writtenSet.mp (equal g.1 (Nat.le_refl _) ordered ▸ (members x).mpr ⟨c, hc, lo, hi⟩)).1
  have run := runs c hc
  exact ⟨(inside c.1 (Nat.le_refl _) run).1, run, (inside c.2 run (Nat.le_refl _)).2, low, ordered, high⟩

theorem bandWindows_cover {list : List (Option Rect)} {b x y : Nat} (lo : 20 ≤ x) (hi : x < 320) (band : y / 16 = b) :
    covered list x y = false ↔ ∃ w ∈ bandWindows list b, w.1 ≤ x ∧ x ≤ w.2.1 ∧ w.2.2.1 ≤ y ∧ y ≤ w.2.2.2 := by
  obtain ⟨-, -, whole, -⟩ := lineGroups_spec (writtenSet list) 16 (16 * b)
  constructor
  · intro free
    obtain ⟨g, hg, above, below⟩ := whole y (by omega) (by omega)
    obtain ⟨-, equal, sorted⟩ := bandGroup hg
    obtain ⟨c, hc, left, right⟩ := ((columnRuns_spec sorted).2.1 x).mp
      (equal y above below ▸ mem_writtenSet.mpr ⟨⟨lo, hi⟩, free⟩)
    exact ⟨_, mem_bandWindows.mpr ⟨g, hg, c, hc, rfl⟩, left, right, above, below⟩
  · rintro ⟨w, hw, left, right, above, below⟩
    obtain ⟨g, hg, c, hc, rfl⟩ := mem_bandWindows.mp hw
    obtain ⟨-, equal, sorted⟩ := bandGroup hg
    exact (mem_writtenSet.mp (equal y above below ▸ ((columnRuns_spec sorted).2.1 x).mpr ⟨c, hc, left, right⟩)).2

theorem bandWindows_ordered (list : List (Option Rect)) (b : Nat) : (bandWindows list b).Pairwise fun v w =>
    v.2.2.2 < w.2.2.1 ∨ (v.2.2.1 = w.2.2.1 ∧ v.2.2.2 = w.2.2.2 ∧ v.2.1 + 1 < w.1) := by
  obtain ⟨-, -, -, apart, -⟩ := lineGroups_spec (writtenSet list) 16 (16 * b)
  rw [bandWindows_eq, List.pairwise_flatMap]
  refine ⟨fun g hg => ?_, apart.imp fun h v hv w hw => ?_⟩
  · rw [List.pairwise_map]
    exact (columnRuns_spec (bandGroup hg).2.2).2.2.imp fun h => .inr ⟨rfl, rfl, h⟩
  · obtain ⟨c, -, rfl⟩ := List.mem_map.mp hv
    obtain ⟨d, -, rfl⟩ := List.mem_map.mp hw
    exact .inl h

theorem bandWindows_share {list : List (Option Rect)} {b y : Nat} (band : y / 16 = b) (next : (y + 1) / 16 = b)
    (same : ∀ x, 20 ≤ x → x < 320 → covered list x y = covered list x (y + 1)) {w : Nat × Nat × Nat × Nat}
    (h : w ∈ bandWindows list b) : w.2.2.1 ≤ y ∧ y ≤ w.2.2.2 ↔ w.2.2.1 ≤ y + 1 ∧ y + 1 ≤ w.2.2.2 := by
  obtain ⟨-, -, -, -, maximal⟩ := lineGroups_spec (writtenSet list) 16 (16 * b)
  obtain ⟨g, hg, c, -, rfl⟩ := mem_bandWindows.mp h
  refine maximal y (by omega) (by omega) (List.filter_congr fun x hx => ?_) g hg
  obtain ⟨i, hi, rfl⟩ := List.mem_map.mp hx
  rw [same (i + 20) (by omega) (by have := List.mem_range.mp hi; omega)]

theorem bandWindows_split {list : List (Option Rect)} {b x y : Nat} (lo : 20 ≤ x) (hi : x < 320)
    (differ : covered list x y ≠ covered list x (y + 1)) {w : Nat × Nat × Nat × Nat} (h : w ∈ bandWindows list b) :
    ¬ (w.2.2.1 ≤ y ∧ y + 1 ≤ w.2.2.2) := by
  rintro ⟨above, below⟩
  obtain ⟨g, hg, c, -, rfl⟩ := mem_bandWindows.mp h
  obtain ⟨-, equal, -⟩ := bandGroup hg
  have both : writtenSet list y = writtenSet list (y + 1) :=
    (equal y above (Nat.le_of_succ_le below)).trans (equal (y + 1) (Nat.le_succ_of_le above) below).symm
  have free : covered list x y = false ↔ covered list x (y + 1) = false := by
    have := mem_writtenSet (list := list) (x := x) (y := y)
    rw [both, mem_writtenSet] at this
    simpa [lo, hi] using this.symm
  refine differ ?_
  cases here : covered list x y with
  | false => exact (free.mp here).symm
  | true =>
    cases there : covered list x (y + 1) with
    | false => exact absurd (free.mpr there) (by rw [here]; decide)
    | true => rfl

/-! ## Transfers (R170, R184) -/

/-- The commands and parameters that open a window. -/
def windowHead (r : PanelSetup) (x0 x1 y0 y1 : Nat) : List Transfer :=
  [.command r.colWindow, param (x0 / 256), param x0, param (x1 / 256), param x1,
   .command r.rowWindow, param (y0 / 256), param y0, param (y1 / 256), param y1, .command r.memWrite]

theorem windowTransfers_eq (r : PanelSetup) (x0 x1 y0 y1 : Nat) (pixels : List Half) :
    windowTransfers r x0 x1 y0 y1 pixels = windowHead r x0 x1 y0 y1 ++ pixels.flatMap (pixelTransfers r.width) := rfl

theorem bandTransfers_eq (s : State) (r : PanelSetup) (b : Nat) : bandTransfers s r b =
    (bandWindows s.panel.overlays b).flatMap fun w => windowHead r w.1 w.2.1 w.2.2.1 w.2.2.2 ++
      (List.range (w.2.2.2 + 1 - w.2.2.1)).flatMap fun j => (List.range (w.2.1 + 1 - w.1)).flatMap fun i =>
        pixelTransfers r.width (s.pixel (w.1 + i) (w.2.2.1 + j)) := by
  rw [bandTransfers]
  refine congrArg (List.flatMap · _) (funext fun w => ?_)
  rw [windowTransfers_eq]
  refine congrArg _ ?_
  simp only [span, List.flatMap_assoc, List.flatMap_map, List.map_map, Function.comp_def, Nat.add_comm]

theorem columnRuns_range' (n : Nat) : ∀ a, columnRuns (List.range' a (n + 1)) = [(a, a + n)] := by
  induction n with
  | zero => intro a; rfl
  | succ n ih =>
    intro a
    have run := ih (a + 1)
    rw [List.range'_succ, columnRuns, run]
    simp
    omega

theorem lineGroups_same {f : Nat → List Nat} {v : List Nat} (n : Nat) : ∀ y0, (∀ y, f y = v) →
    lineGroups (linesFrom f y0 (n + 1)) = [(y0, y0 + n, v)] := by
  induction n with
  | zero =>
    intro y0 same
    simp [linesFrom, lineGroups, same]
  | succ n ih =>
    intro y0 same
    have lines : linesFrom f y0 (n + 1 + 1) = (y0, f y0) :: linesFrom f (y0 + 1) (n + 1) := by
      simp only [linesFrom, List.range'_succ, List.map_cons]
    rw [lines, lineGroups, ih (y0 + 1) same]
    simp [same]
    omega

/-- With no overlay a band is one window. -/
theorem bandWindows_bare (b : Nat) : bandWindows [none, none, none, none] b = [(20, 319, 16 * b, 16 * b + 15)] := by
  have set : ∀ y, writtenSet [none, none, none, none] y = List.range' 20 300 := by
    intro y
    rw [writtenSet, List.filter_eq_self.mpr fun x _ => by simp [covered], List.range'_eq_map_range]
    simp [Nat.add_comm]
  rw [bandWindows_eq, lineGroups_same 15 (16 * b) set, List.flatMap_singleton, columnRuns_range' 299 20]
  rfl

/-- The window of the `k`-th line a chunk touches. -/
def chunkLine (p : PanelSetup) (o : Rect) (first : Nat) (px : List Half) (line : Nat) : List Transfer :=
  let a := max first (line * o.w)
  let z := min (first + px.length) (line * o.w + o.w)
  windowHead p (o.x + (a - line * o.w)) (o.x + (z - 1 - line * o.w)) (o.y + line) (o.y + line) ++
    ((px.drop (a - first)).take (z - a)).flatMap (pixelTransfers p.width)

/-- The lines after the first are those of the rest of the chunk. -/
theorem chunkLine_rest {p : PanelSetup} {o : Rect} {first n line : Nat} {px : List Half} (count : n ≤ px.length)
    (later : first + n ≤ line * o.w) : chunkLine p o (first + n) (px.drop n) line = chunkLine p o first px line := by
  have whole : first + n + (px.drop n).length = first + px.length := by
    rw [List.length_drop]
    omega
  have skipped : n + (line * o.w - (first + n)) = line * o.w - first := by omega
  simp only [chunkLine, whole, Nat.max_eq_right later, Nat.max_eq_right (Nat.le_of_add_right_le later), List.drop_drop,
    skipped]

/-- A chunk goes out line by line, as long as there is a step for each of its pixels. -/
theorem chunkTransfers_eq (p : PanelSetup) (o : Rect) (wide : 1 ≤ o.w) (fuel : Nat) :
    ∀ (first : Nat) (px : List Half), 1 ≤ px.length → px.length ≤ fuel → chunkTransfers p o fuel first px =
      (List.range' (first / o.w) ((first + px.length - 1) / o.w + 1 - first / o.w)).flatMap
        (chunkLine p o first px) := by
  induction fuel with
  | zero => intro first px some short; omega
  | succ fuel ih =>
    intro first px some short
    obtain ⟨j, hj⟩ : ∃ j, j = first / o.w := ⟨_, rfl⟩
    obtain ⟨i, hi⟩ : ∃ i, i = first % o.w := ⟨_, rfl⟩
    obtain ⟨n, hn⟩ : ∃ n, n = min (o.w - i) px.length := ⟨_, rfl⟩
    have place : first = j * o.w + i := by rw [hj, hi, Nat.mul_comm]; exact (Nat.div_add_mod ..).symm
    have inLine : i < o.w := hi ▸ Nat.mod_lt _ wide
    have line : windowTransfers p (o.x + i) (o.x + i + n - 1) (o.y + j) (o.y + j) (px.take n) =
      chunkLine p o first px j := by
      have a : max first (j * o.w) = first := by omega
      have z : min (first + px.length) (j * o.w + o.w) = first + n := by omega
      have left : first - j * o.w = i := by omega
      have right : o.x + (first + n - 1 - j * o.w) = o.x + i + n - 1 := by omega
      simp only [chunkLine, a, z, left, right, windowTransfers_eq, Nat.sub_self, List.drop_zero,
        Nat.add_sub_cancel_left]
    have step : chunkTransfers p o (fuel + 1) first px = chunkLine p o first px j ++
        chunkTransfers p o fuel (first + n) (px.drop n) := by
      rw [chunkTransfers, if_neg (by omega), ← line, hn, hi, hj]
    rw [step, ← hj]
    rcases Nat.lt_or_ge (o.w - i) px.length with spills | fits
    · have next : first + n = (j + 1) * o.w := by rw [Nat.succ_mul]; omega
      have rest := ih (first + n) (px.drop n) (by rw [List.length_drop]; omega) (by rw [List.length_drop]; omega)
      have whole : first + n + (px.drop n).length = first + px.length := by
        rw [List.length_drop]
        omega
      have below : (first + n) / o.w = j + 1 := by rw [next, Nat.mul_div_cancel _ wide]
      have upto : j + 1 ≤ (first + px.length - 1) / o.w := by
        rw [Nat.le_div_iff_mul_le wide]
        omega
      have count : (first + px.length - 1) / o.w + 1 - j = ((first + px.length - 1) / o.w + 1 - (j + 1)) + 1 := by omega
      rw [rest, whole, below, count, List.range'_succ, List.flatMap_cons]
      refine congrArg _ (flatMap_congr_mem fun k hk => chunkLine_rest (by omega) ?_)
      rw [next]
      exact Nat.mul_le_mul_right _ (List.mem_range'_1.mp hk).1
    · have done : px.drop n = [] := List.drop_eq_nil_of_le (by omega)
      have last : (first + px.length - 1) / o.w = j := by
        refine Nat.div_eq_of_lt_le (by omega) ?_
        rw [Nat.succ_mul]
        omega
      have nothing : ∀ f k, chunkTransfers p o f k [] = [] := by
        intro f k
        cases f <;> simp [chunkTransfers]
      rw [done, nothing, last, Nat.add_sub_cancel_left]
      simp

/-- Settles O15: arithmetic for the spans, the row a pixel falls in, the runs and groups of a band, a chunk by lines. -/
theorem columnSpans : Obligations.ColumnSpans := by
  refine ⟨fun t0 scale c => ⟨colEdge_zero .., colEdge_le_succ .., colEdge_lt_colEnd .., colEnd_of_wide, colEnd_of_same⟩,
    fun s c y height l colour hl hheight hcolour => ?pixels, fun list b under hunder => ?windows,
    fun s r b byte put head hbyte hput hhead => ?transfers⟩
  case pixels =>
    subst hl hheight
    have code : ∀ i, s.colour i = colour i := fun i => (hcolour i).symm
    refine ⟨fun h hb => (pixel_cursorB h hb).trans (code 7), fun h hb ha => (pixel_cursorA h hb ha).trans (code 6),
      fun h => (pixel_below h).trans (code 0), fun i row y0 cells cell hb ha hrow hy0 top bottom hcells hcell => ?_⟩
    have here := pixel_row hb ha hrow hy0 top bottom hcells hcell
    have left := fun kind => leftOf_iff (kind := kind) hcell
    refine ⟨fun margin => by rw [here, cellIndex_margin margin, code], fun above below => ?_⟩
    obtain ⟨blank, unknown, edge, low, high, bar⟩ :=
      cellIndex_inside (cell := cell) (left := leftOf cells c) (x := 20 + c) (row := row) above below
    rw [here, code]
    refine ⟨fun h => by rw [blank h], fun h => by rw [unknown h], fun h => by rw [edge h], fun h => ?_, fun h => ?_,
      fun hatch label ground h hg => ⟨fun none => ?_, fun digit k line some hline => ?_⟩⟩
    · simp only [low h, left]
    · simp only [high h, left]
    · rw [(bar hatch label _ h rfl).1 none, hg]
    · rw [(bar hatch label _ h rfl).2 digit k line some hline, hg]
  case windows =>
    have same : ∀ x y, covered list x y = true ↔ under x y := fun x y => covered_iff.trans (hunder x y).symm
    refine ⟨fun w => bandWindows_bounds, fun x y lo hi band => ?_, bandWindows_ordered list b, fun y band next =>
      ⟨fun equal w => bandWindows_share band next fun x lo hi => ?_,
        fun x lo hi differ w => bandWindows_split lo hi ?_⟩⟩
    · rw [← bandWindows_cover lo hi band, ← same, Bool.not_eq_true]
    · rw [Bool.eq_iff_iff, same, same]
      exact equal x lo hi
    · rw [Ne, Bool.eq_iff_iff, same, same]
      exact differ
  case transfers =>
    obtain rfl : byte = param := funext hbyte
    obtain rfl : put = pixelTransfers r.width := funext hput
    obtain rfl : head = windowHead r := funext fun x0 => funext fun x1 => funext fun y0 => funext fun y1 =>
      hhead x0 x1 y0 y1
    refine ⟨bandTransfers_eq s r b, fun _ bare => ?_, fun o first px wide some short => ?_⟩
    · rw [bandTransfers_eq, bare, bandWindows_bare, List.flatMap_singleton]
      have lines : 16 * b + 15 + 1 - 16 * b = 16 := by omega
      simp only [lines]
    · rw [chunkTransfers_eq r o wide 256 first px some short, List.range'_eq_map_range, List.flatMap_map]
      rfl

end Sys2Proof.Machine
end

section
/-! PROOFS. Console transactions and tether transfers: what goes out, what is delivered, what is taken (O45, O46). -/

namespace Sys2Proof.Machine

/-! ## Requests in frames -/

/-- A request's own row, in a state in which its port receives: the request is taken, and the row may conclude. -/
theorem exec_takes {c : Instr} {p : Port} {tag : Tag} {r : Request} {s : State} (h : c.request? = some (p, tag, r))
    (receives : s.receives p = true) : exec c s = .next (take p tag r s) ∨ exec c s =
    .next (conclude s (take p tag r s)) :=
  exec_request_eq h (if_pos receives)

/-! ## The outgoing frame (R187, R219) -/

theorem outgoing_starting {s : State} (h : s.starting = true) :
    s.outgoing = .none true s.ports.conService.isSome s.ports.con.alerts.length := by
  simp [State.outgoing, h]

theorem outgoing_reply {s : State} {r : Reply} {rest : List Reply} (h : s.starting = false)
    (replies : s.ports.conReplies = r :: rest) : s.outgoing = .reply r := by
  simp [State.outgoing, h, replies]

theorem outgoing_none {s : State} (h : s.starting = false) (replies : s.ports.conReplies = []) :
    s.outgoing = .none false s.ports.conService.isSome s.ports.con.alerts.length := by
  simp [State.outgoing, h, replies]

theorem not_starting_of_awake {s : State} (h : s.awake = true) :
    s.starting = false ∧ s.power.st ≠ .shutdown ∧ s.power.st ≠ .dormant := by
  simp only [State.awake, Bool.or_eq_true, decide_eq_true_eq] at h
  rcases h with h | h <;> simp [State.starting, h]

theorem assertSelect_shutdown {s : State} (batt : Nat) (h : s.power.st = .shutdown) : assertSelect batt s = s :=
    if_pos h

theorem assertSelect_fixes {s : State} (batt : Nat) (h : s.power.st ≠ .shutdown) (live : s.power.st ≠ .dormant) :
    assertSelect batt s = { s with ports := { s.ports with outFrame := some s.outgoing } } :=
  (if_neg h).trans (if_neg live)

theorem assertSelect_dormant {s : State} {batt : Nat} (h : s.power.st = .dormant)
    (charged : s.power.cutoff ≤ batt ∨ s.power.charger = true) :
    assertSelect batt s = { s with
      ports := { s.ports with outFrame := some s.outgoing }
      power := { s.power with st := .wakeup, timerOn := false, reading := some batt, pll := .starting
                              wake := { s.power.wake with console := true } } } := by
  have live : s.power.st ≠ .shutdown := by simp [h]
  have enough : ¬ (batt < s.power.cutoff ∧ s.power.charger = false) := by
    rintro ⟨low, off⟩
    rcases charged with c | c
    · omega
    · simp [off] at c
  rw [assertSelect, if_neg live]
  refine (if_pos h).trans ?_
  simp only [recordCause, h, beginWake, if_neg enough]

/-! ## The end of a transaction -/

/-- The frame of a transaction is fixed already, or by this transaction's own assertion outside DORMANT. -/
def State.fixed (s : State) (f : OutFrame) : Prop :=
  s.ports.outFrame = some f ∨ (s.ports.outFrame = none ∧ s.power.st ≠ .dormant ∧ f = s.outgoing)

/-- The state once the fixed frame has been clocked out. -/
def State.sent (s : State) (f : OutFrame) (n : Nat) : State :=
  { s with ports := { s.ports with outFrame := none, conOut := f.clocked n } }

theorem consoleEnd_fixed {s : State} {f : OutFrame} {frame : List Byte} (batt : Nat) (live : s.power.st ≠ .shutdown)
    (h : s.fixed f) (some : 1 ≤ frame.length) : consoleEnd frame batt s =
      if f.starting then s.sent f frame.length
      else if frame.length < 264 then endShort frame (s.sent f frame.length)
      else endFull frame f (s.sent f frame.length) := by
  have bytes : ¬ frame.length = 0 := by omega
  rcases h with h | ⟨h, awake, rfl⟩
  · simp only [consoleEnd, h, Option.isSome_some, if_true, if_neg live, clockOut, bytes, or_false, if_false]
    rfl
  · simp only [consoleEnd, h, Option.isSome_none, Bool.false_eq_true, if_false, assertSelect_fixes batt live awake,
      if_neg live, clockOut, bytes, or_false]
    rfl

theorem consoleEnd_off {s : State} (frame : List Byte) (batt : Nat) (h : s.power.st = .shutdown) :
    consoleEnd frame batt s = { s with ports := { s.ports with outFrame := none } } := by
  have same : (if s.ports.outFrame.isSome then s else assertSelect batt s) = s := by
    split
    · rfl
    · exact assertSelect_shutdown batt h
  simp only [consoleEnd, same, h, if_true]

/-- A transaction that clocks no byte only releases the frame. -/
theorem consoleEnd_empty {s : State} (batt : Nat) (h : s.ports.outFrame ≠ none ∨ s.power.st ≠ .dormant) :
    consoleEnd [] batt s = { s with ports := { s.ports with outFrame := none } } := by
  by_cases off : s.power.st = .shutdown
  · exact consoleEnd_off [] batt off
  · cases frame : s.ports.outFrame with
    | some f => simp [consoleEnd, frame, off, clockOut]
    | none =>
      have up : s.power.st ≠ .dormant := h.resolve_left (by simp [frame])
      simp [consoleEnd, frame, off, clockOut, assertSelect_fixes batt off up]

/-- A transaction begun in DORMANT wakes the part, sends STARTING and takes nothing. -/
theorem consoleEnd_wakes {s : State} {frame : List Byte} {batt : Nat} (h : s.power.st = .dormant)
    (unfixed : s.ports.outFrame = none) (bytes : frame ≠ [])
    (charged : s.power.cutoff ≤ batt ∨ s.power.charger = true) :
    consoleEnd frame batt s = { s with
      ports := { s.ports with
        conOut := (OutFrame.none true s.ports.conService.isSome s.ports.con.alerts.length).clocked frame.length }
      power := { s.power with st := .wakeup, timerOn := false, reading := some batt, pll := .starting
                              wake := { s.power.wake with console := true } } } := by
  have begin : s.outgoing = .none true s.ports.conService.isSome s.ports.con.alerts.length :=
    outgoing_starting (by simp [State.starting, h])
  have count : frame.length ≠ 0 := by simpa using bytes
  simp only [consoleEnd, unfixed, Option.isSome_none, Bool.false_eq_true, if_false, assertSelect_dormant h charged,
    begin,
    clockOut, count, OutFrame.starting, true_or, if_true, reduceCtorEq]

theorem afterDelivery_plain {p : Port} {r : Reply} {s : State} (h : r.status ≠ .ok ∨ (r.kind ≠ 37 ∧ r.kind ≠ 48)) :
    afterDelivery p r s = s :=
  (if_neg fun ⟨ok, kind⟩ => h.elim (· ok) (·.1 kind)).trans (if_neg fun ⟨ok, kind⟩ => h.elim (· ok) (·.2 kind))

theorem afterDelivery_reset {p : Port} {r : Reply} {s : State} (ok : r.status = .ok) (kind : r.kind = 48) :
    afterDelivery p r s = fullReset .request s :=
  (if_neg fun ⟨_, other⟩ => absurd (kind.symm.trans other) (by decide)).trans (if_pos ⟨ok, kind⟩)

theorem endFull_eq {s d : State} {f : OutFrame} {frame : List Byte}
    (h : (∃ w n, f = .none false w n ∧ d = s) ∨
      (∃ r v, f = .reply r ∧ v = { s with ports := { s.ports with conReplies := s.ports.conReplies.drop 1 } } ∧
        ((r.status ≠ .ok ∨ (r.kind ≠ 37 ∧ r.kind ≠ 48)) ∧ d = v ∨
          r.status = .ok ∧ r.kind = 37 ∧ d = portReset .console v ∨
          r.status = .ok ∧ r.kind = 48 ∧ d = fullReset .request v))) :
    f.starting = false ∧
      endFull frame f s = if d.awake then takeFrame .console (Wire.consoleFrame frame) d else d := by
  rcases h with ⟨w, n, rfl, rfl⟩ | ⟨r, v, rfl, rfl, h⟩
  · exact ⟨rfl, rfl⟩
  · refine ⟨rfl, ?_⟩
    have delivered : afterDelivery .console r
      { s with ports := { s.ports with conReplies := s.ports.conReplies.drop 1 } } = d := by
      rcases h with ⟨plain, rfl⟩ | ⟨ok, kind, rfl⟩ | ⟨ok, kind, rfl⟩
      · exact afterDelivery_plain plain
      · exact if_pos ⟨ok, kind⟩
      · exact afterDelivery_reset ok kind
    rw [endFull]
    simp only [delivered]

/-! ## BAD_FORM (R189) -/

theorem addBadForm_first {kind : Byte} {tag : Tag} : ∀ {l : List Reply}, (∀ r ∈ l, ∀ n, r.body ≠ .badForm n) →
    addBadForm kind tag l = l ++ [{ kind := kind, tag := tag, status := .badForm, body := .badForm 1, last := false }]
  | [], _ => rfl
  | r :: l, h => by
    have later := addBadForm_first (kind := kind) (tag := tag) fun x hx => h x (List.mem_cons_of_mem r hx)
    rw [addBadForm, List.cons_append]
    split
    · rename_i n hn
      exact absurd hn (h r List.mem_cons_self n)
    · rw [later]

theorem addBadForm_again {kind : Byte} {tag : Tag} {r : Reply} {post : List Reply} {n : Nat} (hr : r.body = .badForm n)
    (hn : n ≤ 255) : ∀ {pre : List Reply}, (∀ x ∈ pre, ∀ m, x.body ≠ .badForm m) →
    addBadForm kind tag (pre ++ r :: post) = pre ++ { r with body := .badForm (min 255 (n + 1)) } :: post
  | [], _ => by
    have count : satSucc 255 n = min 255 (n + 1) := by
      unfold satSucc
      split <;> omega
    simp only [List.nil_append, addBadForm, hr, count]
  | x :: pre, h => by
    have later := addBadForm_again (kind := kind) (tag := tag)
      (post := post) hr hn fun y hy => h y (List.mem_cons_of_mem x hy)
    rw [List.cons_append, addBadForm, List.cons_append]
    split
    · rename_i m hm
      exact absurd hm (h x List.mem_cons_self m)
    · rw [later]

theorem tagOf_eq (frame : List Byte) : Wire.tagOf frame = frame.getD 3 0 ++ frame.getD 2 0 := by
  refine BitVec.eq_of_toNat_eq ?_
  have low := (frame.getD 2 0).isLt
  have high := (frame.getD 3 0).isLt
  rw [BitVec.toNat_append, Wire.tagOf, BitVec.toNat_ofNat, ← Nat.shiftLeft_add_eq_or_of_lt low, Nat.shiftLeft_eq]
  simp only [leNat]
  omega

theorem endShort_eq {s : State} (frame : List Byte) (h : s.awake = true) : endShort frame s =
    { s with ports := { s.ports with
        conReplies := addBadForm (frame.getD 1 0) (frame.getD 3 0 ++ frame.getD 2 0) s.ports.conReplies } } := by
  rw [← tagOf_eq]
  exact if_pos h

theorem run_end {frame : List Byte} {batt : Nat} {s : State} (c : Instr)
    (h : c = .consoleTransaction frame batt ∨ c = .shortTransaction frame batt) :
    exec c s = .next (conclude s (consoleEnd frame batt s)) := by
  rcases h with rfl | rfl <;> rfl

theorem run_short {frame : List Byte} {batt : Nat} {s : State} {f : OutFrame} (awake : s.awake = true)
    (live : s.power.st ≠ .shutdown) (fixed : s.fixed f) (plain : ∀ w n, f ≠ .none true w n) (some : 1 ≤ frame.length)
    (short : frame.length < 264) :
    exec (.shortTransaction frame batt) s = .next (conclude s { s.sent f frame.length with
      ports := { (s.sent f frame.length).ports with
        conReplies := addBadForm (frame.getD 1 0) (frame.getD 3 0 ++ frame.getD 2 0) s.ports.conReplies } }) := by
  have begun : f.starting = false := by
    cases f with
    | none begin w n =>
      cases begin with
      | true => exact absurd rfl (plain w n)
      | false => rfl
    | reply r => rfl
  rw [run_end _ (.inr rfl), consoleEnd_fixed batt live fixed some, begun, if_neg (by simp), if_pos short,
    endShort_eq (s := s.sent f frame.length) frame awake]
  rfl

/-- Settles O45: the assertion by power state, the transaction by what its frame was and what came in. -/
theorem consoleTransactions : Obligations.ConsoleTransactions := by
  refine ⟨fun batt s => ⟨?shutdown, ?starting, ?reply, ?none⟩,
    fun frame batt s u d f live fixed long hu => ⟨fun w n hf => ?startingSent, fun delivery => ?full⟩,
    fun frame batt s c hc => ⟨?off, ?empty, ?woken⟩,
    fun frame batt s u f some short live fixed hu => ⟨fun ⟨w, n, hf⟩ => ?startingShort,
      fun kind tag hkind htag plain awake => ⟨fun fresh => ?badForm, fun pre r post n replies body first count =>
        ?again⟩⟩⟩
  case shutdown => exact fun h => congrArg Host.Outcome.next (assertSelect_shutdown batt h)
  case starting =>
    intro h
    have live : s.power.st ≠ .shutdown ∧ s.power.st ≠ .dormant := by rcases h with h | h <;> simp [h]
    have begin : s.starting = true := by rcases h with h | h <;> simp [State.starting, h]
    rw [← outgoing_starting begin]
    exact congrArg Host.Outcome.next (assertSelect_fixes batt live.1 live.2)
  case reply =>
    intro r rest awake replies
    obtain ⟨begun, live, up⟩ := not_starting_of_awake awake
    rw [← outgoing_reply begun replies]
    exact congrArg Host.Outcome.next (assertSelect_fixes batt live up)
  case none =>
    intro awake replies
    obtain ⟨begun, live, up⟩ := not_starting_of_awake awake
    rw [← outgoing_none begun replies]
    exact congrArg Host.Outcome.next (assertSelect_fixes batt live up)
  case startingSent =>
    subst hu hf
    exact congrArg (fun t => Host.Outcome.next (conclude s t)) ((consoleEnd_fixed batt live fixed (by omega)).trans
      (if_pos rfl))
  case full =>
    subst hu
    obtain ⟨begun, ended⟩ := endFull_eq (frame := frame) delivery
    have run : exec (.consoleTransaction frame batt) s = .next (conclude s
        (if d.awake then takeFrame .console (Wire.consoleFrame frame) d else d)) := by
      refine congrArg (fun t => Host.Outcome.next (conclude s t))
        ((consoleEnd_fixed batt live fixed (by omega)).trans ?_)
      rw [begun, if_neg (by simp), if_neg (by omega)]
      exact ended
    refine ⟨fun h => ?_, fun k tag awake h => ?_, fun k tag r c receives h request => ?_⟩
    · rw [run]
      split
      · rename_i awake
        rw [h.resolve_left (by simp [awake])]
        rfl
      · rfl
    · rw [run, if_pos awake, h]
      rfl
    · have awake : d.awake = true := by
        have both : (d.awake && decide (d.conOwed ≤ 1)) = true := receives
        exact (Bool.and_eq_true_iff.mp both).1
      exact ⟨_, exec_takes request receives, by rw [run, if_pos awake, h]; rfl⟩
  case off =>
    intro h
    rw [run_end c hc, consoleEnd_off frame batt h]
  case empty =>
    intro h held
    rw [run_end c hc, h, consoleEnd_empty batt held]
  case woken =>
    intro h unfixed some charged
    rw [run_end c hc, consoleEnd_wakes h unfixed some charged]
  case startingShort =>
    subst hu hf
    exact congrArg (fun t => Host.Outcome.next (conclude s t)) ((consoleEnd_fixed batt live fixed some).trans
      (if_pos rfl))
  case badForm =>
    subst hu hkind htag
    rw [run_short awake live fixed plain some short, addBadForm_first fresh]
    rfl
  case again =>
    subst hu hkind htag
    rw [run_short awake live fixed plain some short, replies, addBadForm_again body count first]
    rfl

/-! ## Tether transfers (R191, R198, R199) -/

theorem fetches_iff {s : State} : s.fetches = true ↔
    s.ports.link = .configured ∧ s.power.st ≠ .startup ∧ s.power.st ≠ .shutdown := by
  simp [State.fetches, and_assoc]

/-- Settles O46: a transfer by what its frame is, a reply fetched by what it sets free, a packet by what follows it. -/
theorem tetherTransfers : Obligations.TetherTransfers := by
  refine ⟨fun frame s => ⟨fun off => ?absent, fun k tag r c receives h request => ?taken,
    fun k tag receives h => ?malformed⟩,
    fun s up on link => ⟨fun r rest replies => ?reply, fun x b rest stream buffer => ?packet⟩⟩
  case absent => exact congrArg Host.Outcome.next (if_neg (by simp [off]))
  case taken =>
    refine ⟨_, exec_takes request receives, congrArg Host.Outcome.next ((if_pos receives).trans ?_)⟩
    rw [h]
    rfl
  case malformed =>
    refine congrArg Host.Outcome.next ((if_pos receives).trans ?_)
    rw [h]
    rfl
  case reply =>
    have run : exec .tetherReplyAck s = .next (conclude s (afterDelivery .tether r
        { s with ports := { s.ports with tethReplies := rest, tethOut := r.bytes } })) := by
      refine congrArg Host.Outcome.next ((if_pos (fetches_iff.mpr ⟨link, up, on⟩)).trans (congrArg (conclude s) ?_))
      simp only [ackReply, replies]
    refine ⟨fun plain => ?_, fun ok kind => ?_, fun ok kind => ?_⟩
    · rw [run, afterDelivery_plain plain]
    · exact run.trans (congrArg (fun t => Host.Outcome.next (conclude s t)) (if_pos ⟨ok, kind⟩))
    · rw [run, afterDelivery_reset ok kind]
  case packet =>
    have run : ∀ t, ackPacket s = t → exec .streamPacketAck s = .next (conclude s t) := fun t ht =>
      congrArg Host.Outcome.next ((if_pos (fetches_iff.mpr ⟨link, up, on⟩)).trans (congrArg (conclude s) ht))
    have last : rest = [] → x.endQueued = true → ackPacket s = setStream .tether none s := by
      intro none queued
      simp only [ackPacket, stream, buffer, none, queued, true_and, if_true]
    have goesOn : x.endQueued = false → ackPacket s =
      pumpTether (setStream .tether (some { x with buffer := rest }) s) := by
      intro unqueued
      have more : ¬ (rest = [] ∧ x.endQueued = true) := by simp [unqueued]
      simp only [ackPacket, stream, buffer, if_neg more]
    refine ⟨fun none queued => run _ (last none queued), fun n source sent unqueued room => ?_⟩
    have pumped := pumpTether_records (s := s) (x := { x with buffer := rest }) source link sent
    refine ⟨fun short live => run _ ?_, fun short ended => run _ ?_, fun whole one => run _ ?_⟩
    · rw [goesOn unqueued, pumped, cutPackets_waits (x := { x with buffer := rest }) (.inl ⟨short, live⟩)]
    · rw [goesOn unqueued, pumped,
        cutPackets_end (x := { x with buffer := rest }) (Nat.lt_succ_of_le room) unqueued short
        ended]
    · rw [goesOn unqueued, pumped,
        cutPackets_whole (x := { x with buffer := rest }) (Nat.lt_succ_of_le room) unqueued whole,
        cutPackets_waits (.inr (by simp [one]))]

end Sys2Proof.Machine
end

section
/-! PROOFS. A port reset and the link's events (R192, R196): what the reset takes from the port, slot by slot and
stream by stream (O47). -/

namespace Sys2Proof.Machine

/-! ## Slots that keep their state and starter -/

/-- Slot `k` keeps its state and its starting port from `s` to `t`. -/
def SlotAlike (k : Nat) (s t : State) : Prop :=
  (t.slot k).state = (s.slot k).state ∧ (t.slot k).starter = (s.slot k).starter

theorem SlotAlike.of_slots {k : Nat} {s t : State} (h : t.slots = s.slots) : SlotAlike k s t := by
  simp only [SlotAlike, State.slot, h, and_self]

theorem SlotAlike.trans {k : Nat} {s t u : State} (h : SlotAlike k s t) (h' : SlotAlike k t u) : SlotAlike k s u :=
  ⟨h'.1.trans h.1, h'.2.trans h.2⟩

/-- A slot once a freed segment is forgotten. -/
def Slot.forgetting (n : Nat) (k : Slot) : Slot := if k.live && k.tag = some n then { k with tag := none } else k

theorem forgetSegment_slotAlike (n k : Nat) (s : State) : SlotAlike k s (forgetSegment n s) := by
  have slot : (forgetSegment n s).slot k = (s.slot k).forgetting n := by
    show (s.slots.map (Slot.forgetting n)).getD k Slot.empty = (s.slots.getD k Slot.empty).forgetting n
    rw [List.getD_eq_getElem?_getD, List.getD_eq_getElem?_getD, List.getElem?_map]
    cases s.slots[k]? with
    | none => rfl
    | some x => rfl
  rw [SlotAlike, slot, Slot.forgetting]
  split <;> exact ⟨rfl, rfl⟩

theorem freeSegment_slotAlike (n k : Nat) (s : State) : SlotAlike k s (freeSegment n s) := by
  have purged : SlotAlike k s (purgeSegment n { s with store := { s.store with
      freeList := s.store.freeList ++ (s.seg n).chain, segs := s.store.segs.set n Segment.empty } }) :=
        .of_slots (by simp)
  exact (purged.trans (forgetSegment_slotAlike n k _)).trans (.of_slots (by simp [freeSegment]))

theorem dropPin_slotAlike (n k : Nat) (f : Pins → Pins) (s : State) : SlotAlike k s (dropPin n f s) := by
  unfold dropPin
  dsimp only
  split
  · exact (SlotAlike.of_slots (by simp)).trans (freeSegment_slotAlike n k _)
  · exact .of_slots (by simp)

theorem setSlot_slotAlike {k j : Nat} (h : k ≠ j) (x : Slot) (s : State) : SlotAlike k s (s.setSlot j x) := by
  have slot : (s.setSlot j x).slot k = s.slot k := getD_set_ne _ _ _ h
  rw [SlotAlike, slot]
  exact ⟨rfl, rfl⟩

theorem stopSlot_slotAlike {k j : Nat} (h : k ≠ j) (cause : StopCause) (s : State) :
    SlotAlike k s (stopSlot j cause s) := by
  unfold stopSlot
  dsimp only
  split
  · have stopped := setSlot_slotAlike h
      { s.slot j with state := .stopped, cause := some cause, tag := none, joinNext := false } s
    exact stopped.trans (.of_slots (by simp [stopLive]))
  · split
    · have inner := (setSlot_slotAlike h { s.slot j with cause := some cause } s).trans (setSlot_slotAlike h
        { (s.setSlot j { s.slot j with cause := some cause }).slot j with state := .stopped } _)
      exact (inner.trans (.of_slots (by simp))).trans (dropPin_slotAlike _ k _ _)
    · split
      · exact setSlot_slotAlike h _ s
      · exact .of_slots rfl

theorem freeSlot_slotAlike {k j : Nat} (h : k ≠ j) (s : State) : SlotAlike k s (freeSlot j s) := by
  obtain ⟨slots, _, _⟩ := purgeSlot_keeps j ((stopSlot j .request s).setSlot j Slot.empty)
  exact ((stopSlot_slotAlike h .request s).trans (setSlot_slotAlike h Slot.empty _)).trans (.of_slots slots)

theorem freeStarted_slotAlike {k j : Nat} (h : k ≠ j) (p : Port) (s : State) : SlotAlike k s (freeStarted p j s) := by
  unfold freeStarted
  split
  · exact freeSlot_slotAlike h s
  · exact .of_slots rfl

theorem freeStarted_frees {k : Nat} {p : Port} {s : State} (hk : k < s.slots.length) (h : (s.slot k).starter = some p) :
    ((freeStarted p k s).slot k).state = .free := by
  unfold freeStarted
  split
  · rw [freeSlot_slot hk]
    rfl
  · rename_i still
    refine Classical.byContradiction fun other => ?_
    exact still ⟨other, h⟩

theorem freeStarted_free {k j : Nat} {p : Port} {s : State} (h : (s.slot k).state = .free) :
    ((freeStarted p j s).slot k).state = .free := by
  by_cases same : k = j
  · subst same
    rw [freeStarted, if_neg fun ⟨other, _⟩ => other h]
    exact h
  · exact (freeStarted_slotAlike same p s).1.trans h

theorem cancelMeasure_slotAlike (k : Nat) (s : State) : SlotAlike k s (cancelMeasure s) := by
  unfold cancelMeasure
  dsimp only
  split
  · exact (SlotAlike.of_slots (by simp)).trans (dropPin_slotAlike _ k _ _)
  · exact .of_slots rfl

theorem stopReading_slotAlike (p : Port) (k : Nat) (s : State) : SlotAlike k s (stopReading p s) := by
  unfold stopReading
  split
  · exact .of_slots rfl
  · split
    · exact .of_slots rfl
    · exact (SlotAlike.of_slots (by simp)).trans (dropPin_slotAlike _ k _ _)

/-! ## A stream that is gone stays gone -/

/-- Port `p` has no stream. -/
def State.streamless (s : State) (p : Port) : Prop := (s.ports.port p).stream = none

theorem removeNotes_streamless {k : Nat} {keep : Note → Bool} {s : State} {p : Port} (h : s.streamless p) :
    (removeNotes k keep s).streamless p := by
  cases p <;> simp_all [State.streamless, Ports.port, removeNotes]

theorem pumpTether_streamless {s : State} {p : Port} (h : s.streamless p) : (pumpTether s).streamless p := by
  cases p with
  | console => simpa [State.streamless, Ports.port] using h
  | tether =>
    have none : s.ports.teth.stream = none := h
    have same : pumpTether s = s := by simp only [pumpTether, none]
    rwa [same]

theorem storeLowTest_streamless {s : State} {p : Port} (h : s.streamless p) : (storeLowTest s).streamless p := by
  rcases storeLowTest_eq s with e | e | e <;> rw [e]
  · exact h
  · exact h
  · cases p <;> exact (PortState.raised_rest ..).2.trans h

theorem raiseBoth_streamless {k : AlertKind} {arg : Nat} {s : State} {p : Port} (h : s.streamless p) :
    (raiseBoth k arg s).streamless p := by
  cases p <;> exact (PortState.raised_rest ..).2.trans h

theorem freeSegment_streamless {n : Nat} {s : State} {p : Port} (h : s.streamless p) :
    (freeSegment n s).streamless p := by
  have purged : (purgeSegment n { s with store := { s.store with
      freeList := s.store.freeList ++ (s.seg n).chain, segs := s.store.segs.set n Segment.empty } }).streamless p :=
    pumpTether_streamless (removeNotes_streamless (removeNotes_streamless (removeNotes_streamless
      (removeNotes_streamless h))))
  rw [freeSegment]
  exact storeLowTest_streamless (raiseBoth_streamless purged)

theorem dropPin_streamless {n : Nat} {f : Pins → Pins} {s : State} {p : Port} (h : s.streamless p) :
    (dropPin n f s).streamless p := by
  unfold dropPin
  dsimp only
  split
  · exact freeSegment_streamless h
  · exact h

theorem purgeSlot_streamless {k : Nat} {s : State} {p : Port} (h : s.streamless p) : (purgeSlot k s).streamless p := by
  refine pumpTether_streamless ?_
  cases p <;> simp_all [State.streamless, Ports.port]

theorem stopSlot_streamless {k : Nat} {cause : StopCause} {s : State} {p : Port} (h : s.streamless p) :
    (stopSlot k cause s).streamless p := by
  unfold stopSlot
  dsimp only
  split
  · simpa [stopLive, State.streamless] using h
  · split
    · exact dropPin_streamless (by simpa [State.streamless] using h)
    · split <;> exact h

theorem freeStarted_streamless {p q : Port} {k : Nat} {s : State} (h : s.streamless p) :
    (freeStarted q k s).streamless p := by
  unfold freeStarted
  split
  · exact purgeSlot_streamless (stopSlot_streamless (s := s) h)
  · exact h

theorem loseMeasure_streamless {p q : Port} {s : State} (h : s.streamless p) : (loseMeasure q s).streamless p := by
  unfold loseMeasure cancelMeasure
  dsimp only
  split
  · split
    · exact dropPin_streamless (by simpa [State.streamless] using h)
    · exact h
  · exact h

/-! ## The port reset -/

/-- The port reset up to the slots: the claim, the stream and the measurement are gone. -/
def State.released (p : Port) (s : State) : State := loseMeasure p (dropStream p (loseClaim p s))

/-- The port reset once the slots the port started are free. -/
def State.vacated (p : Port) (s : State) : State :=
  freeStarted p 3 (freeStarted p 2 (freeStarted p 1 (freeStarted p 0 (s.released p))))

theorem portReset_eq (p : Port) (s : State) :
    portReset p s = resetAlerts p (discardReplies p (disown p (s.vacated p))) := rfl

theorem released_slotAlike (p : Port) (k : Nat) (s : State) : SlotAlike k s (s.released p) := by
  have dropped : SlotAlike k s (dropStream p (loseClaim p s)) :=
    ((SlotAlike.of_slots (by simp)).trans (stopReading_slotAlike p k (loseClaim p s))).trans
      (.of_slots (by simp [dropStream]))
  rw [State.released, loseMeasure]
  split
  · exact dropped.trans (cancelMeasure_slotAlike k _)
  · exact dropped

/-- Every slot the port started is FREE after it. -/
theorem vacated_free {p : Port} {k : Nat} {s : State} (four : s.slots.length = 4) (hk : k < 4)
    (h : (s.slot k).starter = some p) : ((s.vacated p).slot k).state = .free := by
  have starter : ((s.released p).slot k).starter = some p := (released_slotAlike p k s).2.trans h
  have count : ∀ {u : State}, u.slots.length = 4 → ∀ j, (freeStarted p j u).slots.length = 4 :=
    fun hu j => by simpa using hu
  have zero : (s.released p).slots.length = 4 := by simpa [State.released] using four
  have kept : ∀ {u : State} {j : Nat}, (u.slot k).starter = some p → k ≠ j →
    ((freeStarted p j u).slot k).starter = some p :=
    fun hu different => (freeStarted_slotAlike different p _).2.trans hu
  rw [State.vacated]
  match k, hk with
  | 0, _ => exact freeStarted_free (freeStarted_free (freeStarted_free (freeStarted_frees (by omega) starter)))
  | 1, _ =>
    exact freeStarted_free (freeStarted_free (freeStarted_frees (by rw [count zero]; omega) (kept starter (by omega))))
  | 2, _ =>
    exact freeStarted_free (freeStarted_frees (by rw [count (count zero _)]; omega)
      (kept (kept starter (by omega)) (by omega)))
  | 3, _ =>
    exact freeStarted_frees (by rw [count (count (count zero _) _)]; omega)
      (kept (kept (kept starter (by omega)) (by omega)) (by omega))

theorem vacated_streamless (p : Port) (s : State) : (s.vacated p).streamless p :=
  freeStarted_streamless (freeStarted_streamless (freeStarted_streamless (freeStarted_streamless
    (loseMeasure_streamless (setStream_stream p none _)))))

theorem loseClaim_claim (p : Port) (s : State) :
    (loseClaim p s).ports.claim = if s.ports.claim = some p then none else s.ports.claim := by
  unfold loseClaim
  split
  · simp [freeClaim]
  · rfl

theorem disown_owner (p : Port) (s : State) : ∀ e ∈ (disown p s).store.segs, e.owner ≠ some p := by
  intro e he
  obtain ⟨old, _, rfl⟩ := List.mem_map.mp he
  split
  · simp
  · assumption

/-- What the port reset leaves of the ports: the claim of the other port, and an empty port of its own. -/
theorem portReset_ports (p : Port) (s : State) :
    (portReset p s).ports.claim = (if s.ports.claim = some p then none else s.ports.claim) ∧
    (portReset p s).ports.port p = PortState.reset ∧ (portReset p s).ports.vbus = s.ports.vbus ∧
    (∀ e ∈ (portReset p s).store.segs, e.owner ≠ some p) := by
  refine ⟨?_, ?_, ?_, ?_⟩
  · rw [← loseClaim_claim, portReset_eq]
    cases p <;> simp [resetAlerts, Ports.setPort, State.vacated, State.released, dropStream, setStream]
  · have stream := vacated_streamless p s
    rw [portReset_eq]
    cases p <;> simp_all [resetAlerts, State.streamless, Ports.port, Ports.setPort, PortState.reset, discardReplies,
      loseReplies,
      disown, State.refreshAttn]
  · rw [portReset_eq]
    cases p <;> simp [resetAlerts, Ports.setPort, State.vacated, State.released, dropStream, setStream]
  · rw [portReset_eq, (show (resetAlerts p (discardReplies p (disown p (s.vacated p)))).store =
      (disown p (s.vacated p)).store by simp)]
    exact disown_owner p _

theorem portReset_slot {p : Port} {k : Nat} {s : State} (four : s.slots.length = 4) (hk : k < 4)
    (h : (s.slot k).starter = some p) : ((portReset p s).slot k).state = .free := by
  have slots : (portReset p s).slots = (s.vacated p).slots := by
    rw [portReset_eq]
    simp
  rw [State.slot, slots]
  exact vacated_free four hk h

theorem portReset_tether (s : State) :
    (portReset .tether s).ports.tethReplies = [] ∧ (portReset .tether s).ports.tethService = 0 := by
  rw [portReset_eq]
  exact ⟨rfl, rfl⟩

theorem portReset_console (s : State) :
    (portReset .console s).ports.conReplies = [] ∧ (portReset .console s).ports.conService = none ∧
    (portReset .console s).ports.attn = false ∧
    (portReset .console s).ports.tethReplies = s.ports.tethReplies ∧ (portReset .console s).ports.link =
      s.ports.link := by
  rw [portReset_eq]
  refine ⟨rfl, rfl, ?_, ?_, ?_⟩
  · simp [resetAlerts, State.attnNow, Ports.setPort, State.refreshAttn]
  · simp [resetAlerts, Ports.setPort, discardReplies, State.vacated, State.released, dropStream, setStream]
  · simp [resetAlerts, Ports.setPort, State.vacated, State.released, dropStream, setStream]

theorem loseReplies_changes (p : Port) (s : State) :
    ∀ c ∈ (loseReplies p s).panel.changes, ∀ q, c.reply = some q → q.port ≠ p := by
  intro c hc q reply port
  obtain ⟨old, _, rfl⟩ := List.mem_map.mp hc
  split at reply
  · split at reply
    · cases reply
    · rename_i q' hq other
      exact other ((Option.some.inj (hq.symm.trans reply)) ▸ port)
  · rename_i none
    rw [none] at reply
    cases reply

theorem portReset_changes (p : Port) (s : State) : ∀ c ∈ (portReset p s).panel.changes, ∀ q, c.reply = some q →
    q.port ≠ p := by
  have changes : (portReset p s).panel.changes = (loseReplies p (disown p (s.vacated p))).panel.changes := by
    rw [portReset_eq]
    cases p <;> simp [discardReplies]
  rw [changes]
  exact loseReplies_changes p _

theorem portReset_measure {p : Port} {s : State} (busy : s.meas.st = .busy) (port : s.meas.port = p) :
    (portReset p s).meas = Measure.reset := by
  have dropped : (dropStream p (loseClaim p s)).meas = s.meas := by simp
  have cancelled : (s.released p).meas = Measure.reset := by
    rw [State.released, loseMeasure, if_pos (dropped ▸ port), cancelMeasure, if_pos (dropped ▸ busy)]
    simp
  rw [portReset_eq]
  simpa [State.vacated] using cancelled

theorem portReset_seq (p : Port) (s : State) : (portReset p s).seq = (loseClaim p s).seq := by
  rw [portReset_eq]
  simp [State.vacated, State.released]

theorem loseClaim_stops {p : Port} {s : State} (claim : s.ports.claim = some p) (sampling : s.seq.acq.sampling = true) :
    (loseClaim p s).seq = { s.seq with acq := .draining, seqEnd := true, stopTick := some (s.fe.tick + 1),
                                       reason := some .ownerLost } := by
  have live : s.seq.acq ≠ .idle := by
    intro idle
    rw [idle] at sampling
    exact absurd sampling (by decide)
  have stopped : (stopNow .ownerLost s).seq = { s.seq with acq := .draining, seqEnd := true
                                                           stopTick := some (s.fe.tick + 1)
                                                           reason := some .ownerLost } := by
    rw [stopNow, stopCondition, if_neg live]
    exact (congrArg State.seq (if_pos sampling)).trans (stopSegment_seq ..)
  rw [loseClaim, if_pos claim, freeClaim, ← stopped]
  simp

/-! ## The link -/

theorem connected_iff {s : State} : s.connected = true ↔
    s.ports.vbus = true ∧ s.power.st ≠ .startup ∧ s.power.st ≠ .shutdown := by
  simp [State.connected, and_assoc]

theorem busResetOrDefer_run {s : State} (h : s.power.st = .run) : busResetOrDefer s = busReset s := by
  have awake : s.awake = true := by simp [State.awake, h]
  rw [busResetOrDefer, if_neg (by simp [h]), if_pos awake]

/-- What a reset by the bus leaves of the tether port and its link. -/
theorem busReset_leaves (s : State) (four : s.slots.length = 4) :
    (busReset s).ports.vbus = s.ports.vbus ∧ (busReset s).ports.link = .detached ∧
    (busReset s).ports.remoteWake = false ∧ (busReset s).ports.resuming = false ∧
    (busReset s).ports.claim = (if s.ports.claim = some .tether then none else s.ports.claim) ∧
    (busReset s).ports.teth = PortState.reset ∧ (busReset s).ports.tethReplies = [] ∧
    (busReset s).ports.tethService = 0 ∧
    (∀ k, k < 4 → (s.slot k).starter = some .tether → ((busReset s).slot k).state = .free) ∧
    (∀ e ∈ (busReset s).store.segs, e.owner ≠ some .tether) := by
  obtain ⟨claim, port, wire, owners⟩ := portReset_ports .tether s
  obtain ⟨replies, service⟩ := portReset_tether s
  have slot : ∀ k, k < 4 → (s.slot k).starter = some .tether → ((portReset .tether s).slot k).state = .free :=
    fun k hk => portReset_slot four hk
  rw [busReset]
  generalize portReset .tether s = t at claim port wire owners replies service slot
  exact ⟨wire, rfl, rfl, rfl, claim, port, replies, service, slot, owners⟩

theorem recordCause_run {add : WakeSet → WakeSet} {batt : Nat} {s : State} (h : s.power.st = .run) :
    recordCause add batt s = s := by
  simp only [recordCause, h]

/-- Settles O47: the link by its state, a bus reset and a loss of VBUS by the tether's port reset, the console's own. -/
theorem linkEvents : Obligations.LinkEvents := by
  refine ⟨fun s on => ⟨fun link => ?configure, fun link => ?suspend, fun batt run link idle => ?resume,
    fun link => ⟨?allow, ?forbid⟩⟩, fun s => rfl, fun c s four run vbus hc => ?busReset, fun s t four ht => ?console⟩
  case configure => exact congrArg Host.Outcome.next (if_pos ⟨on, link⟩)
  case suspend => exact congrArg Host.Outcome.next (if_pos ⟨on, link⟩)
  case resume =>
    have pumped : ∀ u : State, u.ports.teth.stream = none → pumpTether u = u := fun u h => by simp only [pumpTether, h]
    refine congrArg Host.Outcome.next ((if_pos on).trans (congrArg (conclude s) ?_))
    have resumed : resumeLink s = { s with ports := { s.ports with link := .configured, resuming := false } } :=
      (if_pos link).trans (pumped { s with ports := { s.ports with link := .configured, resuming := false } } idle)
    rw [resumed]
    exact recordCause_run run
  case allow => exact congrArg Host.Outcome.next (if_pos ⟨on, link⟩)
  case forbid => exact congrArg Host.Outcome.next (if_pos ⟨on, link⟩)
  case busReset =>
    obtain ⟨v, hv, answer⟩ : ∃ v, v = decide (c ≠ .vbusLoss) ∧
        exec c s = .next (conclude s (busReset { s with ports := { s.ports with vbus := v } })) := by
      rcases hc with ⟨batt, rfl⟩ | rfl
      · refine ⟨true, by simp,
          congrArg Host.Outcome.next ((if_pos (connected_iff.mpr ?_)).trans (congrArg (conclude s) ?_))⟩
        · simp [vbus, run]
        · have same : { s with ports := { s.ports with vbus := true } } = s := by rw [← vbus]
          rw [busResetOrDefer_run run, same]
          exact recordCause_run (by simpa [busReset] using run)
      · exact ⟨false, by simp, congrArg Host.Outcome.next ((if_pos vbus).trans
          (congrArg (conclude s) (busResetOrDefer_run (s := { s with ports := { s.ports with vbus := false } }) run)))⟩
    have left := busReset_leaves { s with ports := { s.ports with vbus := v } } four
    subst hv
    exact ⟨_, answer, left⟩
  case console =>
    subst ht
    obtain ⟨claim, port, _, owners⟩ := portReset_ports .console s
    obtain ⟨replies, service, attn, tether, link⟩ := portReset_console s
    refine ⟨claim, port, replies, service, attn, tether, link, by simp, fun k hk => portReset_slot four hk, owners,
      portReset_changes .console s, portReset_measure, fun holder sampling => ?_, fun other => ?_⟩
    · rw [portReset_seq, loseClaim_stops holder sampling]
      exact ⟨rfl, rfl, rfl, rfl⟩
    · rw [portReset_seq, loseClaim, if_neg other]

end Sys2Proof.Machine
end

section
/-! PROOFS. The debounce of the sense lines, the close of loss intervals and tap gaps, and the events due at a tick
(O48, O50, O51). -/

namespace Sys2Proof.Machine

/-! ## Pods (R1, R2, R4) -/

theorem not_dormant_of_debouncing {s : State} (h : s.debouncing = true) : s.power.st ≠ .dormant := by
  intro dormant
  simp [State.debouncing, State.awake, dormant] at h

theorem senseLineChange_same {pod : Fin 2} {line : Bool} {now : Nat} {s : State} (h : (s.fe.pod pod).sense = line) :
    exec (.senseLineChange pod line now) s = .next s := congrArg Host.Outcome.next (if_pos h)

theorem senseLineChange_moves {pod : Fin 2} {line : Bool} {now : Nat} {s : State} (on : s.debouncing = true)
    (h : (s.fe.pod pod).sense ≠ line) : exec (.senseLineChange pod line now) s =
      .next { s with fe := s.fe.setPod pod { s.fe.pod pod with
        sense := line, window := if line = (s.fe.pod pod).present then none else some now } } := by
  refine congrArg Host.Outcome.next ((if_neg h).trans ?_)
  simp only [if_pos on, if_neg (not_dormant_of_debouncing on)]
  rfl

theorem debounceExpiry_early {pod : Fin 2} {now : Nat} {s : State} (h : windowDue (s.fe.pod pod).window now = false) :
    exec (.debounceExpiry pod now) s = .next s := congrArg Host.Outcome.next (if_neg (by simp [h]))

theorem debounceExpiry_due {pod : Fin 2} {now : Nat} {s : State} (on : s.debouncing = true)
    (h : windowDue (s.fe.pod pod).window now = true) :
    exec (.debounceExpiry pod now) s = .next (settlePresence pod s) := congrArg Host.Outcome.next (if_pos ⟨on, h⟩)

theorem setPod_lost (f : FrontEnd) (n : Nat) (p : Pod) : (f.setPod n p).lost = f.lost := by
  unfold FrontEnd.setPod
  split <;> rfl

theorem settlePresence_loses {pod : Nat} {s : State} (sampling : s.seq.acq.sampling = true)
    (gone : (s.fe.pod pod).sense = false) (seen : (s.fe.pod pod).blanked = false) :
    settlePresence pod s = raiseBoth .podChange pod { s with
      fe := { s.fe.setPod pod { s.fe.pod pod with window := none, present := false, blanked := true } with
              lost := s.fe.lost ++ [pod] } } := by
  have loss : (s.seq.acq.sampling && !(s.fe.pod pod).sense && !(s.fe.pod pod).blanked) = true := by
    rw [sampling, gone, seen]
    rfl
  unfold settlePresence
  simp only [loss, Bool.or_true, if_true, setPod_lost]
  rw [← gone]

theorem settlePresence_keeps {pod : Nat} {s : State}
    (h : s.seq.acq.sampling = false ∨ (s.fe.pod pod).sense = true ∨ (s.fe.pod pod).blanked = true) :
    settlePresence pod s = raiseBoth .podChange pod { s with
      fe := s.fe.setPod pod { s.fe.pod pod with window := none, present := (s.fe.pod pod).sense } } := by
  have kept : (s.seq.acq.sampling && !(s.fe.pod pod).sense && !(s.fe.pod pod).blanked) = false := by
    rcases h with h | h | h <;> simp [h]
  simp only [settlePresence, kept, Bool.or_false, Bool.false_eq_true, if_false]

/-- Settles O48: the line's change by whether it is one, the window's end by whether the pod is lost. -/
theorem podEvents : Obligations.PodEvents := by
  intro pod now s on
  refine ⟨fun line h => senseLineChange_same h.symm, fun line h => senseLineChange_moves on (Ne.symm h), fun shut => ?_,
    fun t window early => ?_, fun t window due => ?_⟩
  · exact debounceExpiry_early (by rw [shut]; rfl)
  · exact debounceExpiry_early (by rw [window]; exact decide_eq_false (by omega))
  · have run := debounceExpiry_due on (pod := pod) (now := now) (by rw [window]; exact decide_eq_true due)
    exact ⟨fun sampling gone seen => run.trans (congrArg _ (settlePresence_loses sampling gone seen)),
      fun kept => run.trans (congrArg _ (settlePresence_keeps kept))⟩

/-! ## Loss intervals (R27, R31) -/

theorem placeRecord_short {g : Nat} {mk : Nat → Record} (h : g ≤ 16383) : placeRecord g mk = [mk g] := by
  have step : gapExtends (g / Config.maxExtend + 2) g = ([], g) := by
    rw [gapExtends]
    exact if_pos h
  rw [placeRecord, step]
  rfl

theorem canCloseLoss_opens {c : Compressor} {t lost : Nat} (opened : c.lossOpen = true) (later : c.stagingTime < t)
    (level : c.staging.length ≤ 512) (short : t - c.stagingTime ≤ 16383) : canCloseLoss c t lost = true := by
  have one : (closingRecords c t lost).length = 1 := by rw [closingRecords, placeRecord_short short]; rfl
  have fits : c.staging.length + 1 + 1 ≤ Config.stagingDepth := by
    show _ ≤ 1024
    omega
  have low : c.staging.length ≤ Config.lossCloseLevel := level
  simp only [canCloseLoss, one, opened, decide_eq_true later, decide_eq_true low, decide_eq_true fits, Bool.and_self]

theorem canCloseLoss_shut {c : Compressor} (t lost : Nat) (h : c.lossOpen = false ∨ 512 < c.staging.length) :
    canCloseLoss c t lost = false := by
  rcases h with shut | level
  · simp only [canCloseLoss, shut, Bool.false_and]
  · have high : ¬ c.staging.length ≤ Config.lossCloseLevel := Nat.not_le.mpr level
    simp only [canCloseLoss, decide_eq_false high, Bool.and_false, Bool.false_and]

theorem closeLoss_short {c : Compressor} {t lost : Nat} (final : Record) (h : t - c.stagingTime ≤ 16383) :
    closeLoss c t lost final = { c with
      staging := c.staging ++ [.mark (t - c.stagingTime) .lossEnd lost, final]
      stagingTime := t, lossOpen := false, lostCount := 0, heldEnd := false } := by
  rw [closeLoss, closingRecords, placeRecord_short h, List.append_assoc]
  rfl

theorem noteLoss_filling {n : Nat} {s : State} (h : s.seq.seg = some n) :
    noteLoss s = raiseBoth .loss n (s.setSeg n { s.seg n with losses := satSucc 65535 (s.seg n).losses }) := by
  simp only [noteLoss, h]

/-! ## Tap gaps (R37) -/

theorem owes_of_entry {s : State} {e : TapEntry} {k : Nat} (he : e ∈ s.tap.entries) (hk : k ∈ e.owed) :
    s.owes k = true :=
  List.any_eq_true.mpr ⟨e, he, by simpa using hk⟩

/-- Slots that each owe an entry take no sample points. -/
theorem liveSyncAll_owing {s : State} (h : ∀ k, k < 4 → (s.slot k).live = true → s.owes k = true) :
    liveSyncAll s = s := by
  have one : ∀ k, k < 4 → liveSync k s = s := by
    intro k hk
    refine if_neg fun both => ?_
    simp only [Bool.and_eq_true, Bool.not_eq_true'] at both
    rw [h k hk both.1] at both
    exact absurd both.2 (by decide)
  rw [liveSyncAll, one 0 (by omega), one 1 (by omega), one 2 (by omega), one 3 (by omega)]

theorem entriesOf_filling {s : State} {n : Nat} (rs : List TimedRec) (gap : Bool) {owed : List Nat}
    (live : owed ≠ []) (seg : s.seq.seg = some n) : s.entriesOf rs gap owed =
      rs.map fun r => ⟨r.item, r.time, gap, owed, some n, (s.seg n).latched.divider⟩ := by
  have some_owed : owed.length ≠ 0 := by simpa using live
  simp only [State.entriesOf, if_neg some_owed, seg]

theorem closeTapGap_sampling {s : State} {n : Nat} (t : Nat) (st : Half) (sampling : s.seq.acq.sampling = true)
    (unheld : s.tap.heldEnd = none) (seg : s.seq.seg = some n) (live : s.allOwers ≠ []) :
    closeTapGap t st [] s = { s with
      comp := { s.comp with tapTime := t }
      tap := { entries := s.tap.entries ++ [⟨.base false st, t, true, s.allOwers, some n, (s.seg n).latched.divider⟩]
               gapOpen := false, heldEnd := none, joining := [] } } := by
  simp only [closeTapGap, unheld, sampling, if_true, entriesOf_filling _ _ live seg, List.map_cons, List.map_nil,
    List.append_nil, tapPods]

/-- Settles O51: an interval and a gap close when the level allows it, and not before. -/
theorem lossAndGapClose : Obligations.LossAndGapClose := by
  refine ⟨fun s n opened level seg => ⟨fun sampling later short fresh => ?now, fun t r stop reason held later short =>
    ?held⟩,
    fun s shut => ⟨?notNow, ?notHeld⟩, fun s n gap level sampling seg unheld fresh live owed => ?gap,
      fun s shut => ?noGap⟩
  case now =>
    have can : (s.seq.acq.sampling && canCloseLoss s.comp s.fe.tick s.comp.tickBefore) = true := by
      rw [sampling, canCloseLoss_opens opened later level short]
      rfl
    refine congrArg (fun t => Host.Outcome.next (conclude s t)) ((if_pos can).trans ?_)
    rw [fresh, closeLoss_short _ short]
    exact noteLoss_filling (s := { s with comp := _ }) seg
  case held =>
    refine congrArg (fun t => Host.Outcome.next (conclude s t)) ?_
    have can : (s.comp.heldEnd && canCloseLoss s.comp t s.comp.lostCount) = true := by
      rw [held, canCloseLoss_opens opened later level short]
      rfl
    simp only [closeHeldEnd, stop, reason]
    rw [if_pos can, closeLoss_short _ short, noteLoss_filling (by exact seg)]
    rfl
  case notNow =>
    refine congrArg (fun t => Host.Outcome.next (conclude s t)) (if_neg ?_)
    simp [canCloseLoss_shut _ _ shut]
  case notHeld =>
    refine congrArg (fun t => Host.Outcome.next (conclude s t)) ?_
    unfold closeHeldEnd
    split
    · simp [canCloseLoss_shut _ _ shut]
    · rfl
  case gap =>
    have can : s.canCloseGap = true := by
      have low : s.tap.entries.length ≤ Config.tapCloseLevel := level
      simp [State.canCloseGap, gap, low, sampling]
    refine congrArg (fun t => Host.Outcome.next (conclude s t)) ((if_pos can).trans ?_)
    rw [fresh, closeTapGap_sampling _ _ sampling unheld seg (by rw [owed]; exact live), owed]
    refine liveSyncAll_owing fun k small running =>
      owes_of_entry (List.mem_append_right _ (List.mem_singleton_self _)) ?_
    exact List.mem_filter.mpr ⟨List.mem_range.mpr small, running⟩
  case noGap =>
    refine congrArg (fun t => Host.Outcome.next (conclude s t)) (if_neg ?_)
    rcases shut with shut | level
    · simp [State.canCloseGap, shut]
    · have high : ¬ s.tap.entries.length ≤ Config.tapCloseLevel := Nat.not_le.mpr level
      simp [State.canCloseGap, high]

/-! ## Idle extends (R19) -/

theorem stagingExtendDue_iff {s : State} : s.stagingExtendDue = true ↔
    s.seq.acq.sampling = true ∧ s.comp.lossOpen = false ∧ s.fe.tick = s.comp.stagingTime + Config.maxExtend := by
  simp [State.stagingExtendDue, and_assoc, eq_comm (a := s.fe.tick)]

theorem tapExtendDue_iff {s : State} : s.tapExtendDue = true ↔
    s.seq.acq.sampling = true ∧ s.tapActive = true ∧ s.fe.tick = s.comp.tapTime + Config.maxExtend := by
  simp [State.tapExtendDue, and_assoc, eq_comm (a := s.fe.tick)]

section
variable {s : State}

theorem extendStaging_fits (due : s.stagingExtendDue = true) (room : s.comp.staging.length ≤ 1021) :
    extendStaging s = { s with comp := { s.comp with
      staging := s.comp.staging ++ [.extend Config.maxExtend], stagingTime := s.fe.tick } } := by
  have fits : s.comp.staging.length + 1 ≤ Config.stagingAccept := by
    show _ ≤ 1022
    omega
  simp only [extendStaging, due, if_true, if_pos fits]

theorem extendStaging_full (due : s.stagingExtendDue = true) (full : 1021 < s.comp.staging.length) :
    extendStaging s = { s with comp := { s.comp with
      staging := s.comp.staging ++ placeRecord Config.maxExtend (fun d => .mark d .lossBegin 0)
      lossOpen := true, lostCount := 0, stagingTime := s.fe.tick } } := by
  have over' : ¬ s.comp.staging.length + 1 ≤ Config.stagingAccept := by
    show ¬ _ ≤ 1022
    omega
  simp only [extendStaging, due, if_true, if_neg over']

theorem extendTap_enters {n : Nat} (due : s.tapExtendDue = true) (shut : s.tap.gapOpen = false)
    (room : s.tap.entries.length ≤ 255) (owed : s.owers ≠ []) (seg : s.seq.seg = some n) :
    extendTap s = { s with
      comp := { s.comp with tapTime := s.fe.tick }
      tap := { s.tap with entries := s.tap.entries ++
        [⟨.extend Config.maxExtend, s.fe.tick, false, s.owers, some n, (s.seg n).latched.divider⟩] } } := by
  have fits : s.tap.entries.length + 1 ≤ Config.tapDepth := by
    show _ ≤ 256
    omega
  simp only [extendTap, due, if_true, shut, Bool.false_eq_true, if_false, if_pos fits, entriesOf_filling _ _ owed seg,
    List.map_cons, List.map_nil]

theorem extendTap_dropped (due : s.tapExtendDue = true) (gap : s.tap.gapOpen = true) :
    extendTap s = { s with comp := { s.comp with tapTime := s.fe.tick } } := by
  simp only [extendTap, due, if_true, gap]

end

/-! ## Stages and the trigger at a tick (R42, R49, R52, R13) -/

theorem timeoutStage_hunting {s : State} {k e : Nat} (acq : s.seq.acq = .hunting k) (expiry : s.seq.expiry = some e) :
    timeoutStage s = if e ≤ s.fe.tick then actOn (s.stageAt k).timeoutTarget e e s else s := by
  simp only [timeoutStage, acq, expiry]

/-- With room left the reserve test does nothing (R71). -/
theorem reserveTest_room {s : State} {n : Nat} (atTrigger : Bool) (seg : s.seq.seg = some n)
    (room : 1032 ≤ s.freePlaces n) : reserveTest atTrigger s = s := by
  simp only [reserveTest, seg]
  exact if_pos (Or.inl room)

/-- A trigger taken with room and with the post-trigger length not yet over. -/
theorem takeTrigger_postfill {s : State} {n t : Nat} {forced : Bool} (seg : s.seq.seg = some n)
    (inside : n < s.store.segs.length) (room : 1032 ≤ s.freePlaces n)
    (later : s.fe.tick < max t (s.seg n).start + s.seq.params.pPost) :
    takeTrigger t forced s = withTrigger n t forced s := by
  rw [takeTrigger_filling seg, reserveTest_room true seg room]
  exact postfillTest_goesOn (withTrigger_trigger seg inside) later

/-- A stop outside a loss interval and with no live slot queues the END alone. -/
theorem stopSegment_alone {s : State} {t : Nat} {reason : SealReason} (shut : s.comp.lossOpen = false)
    (alone : s.tapActive = false) (short : t - s.comp.stagingTime ≤ 16383) : stopSegment t reason s = { s with
      seq := { s.seq with acq := .draining, stopTick := some t, reason := some reason }
      comp := { s.comp with stagingTime := t
                            staging := s.comp.staging ++ [.mark (t - s.comp.stagingTime) .stop reason.code] }
      tap := { s.tap with joining := [] } } := by
  have ended : endTap t reason s = { s with tap := { s.tap with joining := [] } } := if_neg (by simp [alone])
  simp only [stopSegment, ended, endStaging, shut, placeRecord_short short, Bool.false_eq_true, if_false]
  exact closeHeldEnd_closed rfl

theorem timeLimitTest_reached {s : State} (sampling : s.seq.acq.sampling = true)
    (limit : Config.tickLimit ≤ s.fe.tick + 1) :
    timeLimitTest s = stopSegment Config.tickLimit .timeLimit { s with
      fe := { s.fe with tick := Config.tickLimit }, seq := { s.seq with seqEnd := true } } := by
  have awake : s.seq.acq ≠ .idle := fun e => by simp [e, AcqState.sampling] at sampling
  rw [timeLimitTest, if_pos ⟨sampling, limit⟩, stopCondition]
  refine (if_neg (by exact awake)).trans ?_
  exact if_pos sampling

/-- Settles O50: each event by whether it is due. -/
theorem tickEventsResult : Obligations.TickEventsResult := by
  refine ⟨fun s => ?idle, fun s => ?priming, fun s k e acq expiry => ?timeout, fun s g acq trigger => ?postfill,
    fun s u clocked settled => ?limit⟩
  case idle =>
    refine ⟨fun sampling shut due room => ?_, fun sampling shut due full => ?_, fun undue => ?_,
      fun n sampling active due gap room owed seg => ?_, fun sampling active due gap => ?_, fun undue => ?_⟩
    · exact congrArg (fun t => Host.Outcome.next (conclude s t))
        (extendStaging_fits (stagingExtendDue_iff.mpr ⟨sampling, shut, due⟩) room)
    · exact congrArg (fun t => Host.Outcome.next (conclude s t))
        (extendStaging_full (stagingExtendDue_iff.mpr ⟨sampling, shut, due⟩) full)
    · refine congrArg (fun t => Host.Outcome.next (conclude s t)) (if_neg fun due => ?_)
      obtain ⟨sampling, shut, at'⟩ := stagingExtendDue_iff.mp due
      simp [sampling, shut] at undue
      exact undue at'
    · exact congrArg (fun t => Host.Outcome.next (conclude s t))
        (extendTap_enters (tapExtendDue_iff.mpr ⟨sampling, active, due⟩) gap room owed seg)
    · exact congrArg (fun t => Host.Outcome.next (conclude s t))
        (extendTap_dropped (tapExtendDue_iff.mpr ⟨sampling, active, due⟩) gap)
    · refine congrArg (fun t => Host.Outcome.next (conclude s t)) (if_neg fun due => ?_)
      obtain ⟨sampling, active, at'⟩ := tapExtendDue_iff.mp due
      simp [sampling, active] at undue
      exact undue at'
  case priming =>
    refine ⟨fun acq due => congrArg Host.Outcome.next (if_pos ⟨acq, due⟩), fun undue => ?_⟩
    refine congrArg Host.Outcome.next (if_neg fun ⟨acq, due⟩ => ?_)
    rcases undue with h | h
    · exact h acq
    · omega
  case timeout =>
    have run := timeoutStage_hunting acq expiry
    refine ⟨fun early => ?_, fun j due target => ?_, fun n g due target seg inside room later trigger => ?_⟩
    · exact congrArg (fun t => Host.Outcome.next (conclude s t)) (run.trans (if_neg (by omega)))
    · refine congrArg (fun t => Host.Outcome.next (conclude s t)) ((run.trans (if_pos due)).trans ?_)
      rw [target]
      rfl
    · refine congrArg (fun t => Host.Outcome.next (conclude s t)) ((run.trans (if_pos due)).trans ?_)
      rw [target, trigger]
      exact takeTrigger_postfill seg inside room (by rw [trigger] at later; exact later)
  case postfill =>
    refine ⟨fun early => ?_, fun past shut alone short => ?_⟩
    · exact congrArg (fun t => Host.Outcome.next (conclude s t)) (postfillTest_goesOn trigger early)
    · exact congrArg (fun t => Host.Outcome.next (conclude s t))
        ((postfillTest_stops acq trigger past).trans (stopSegment_alone shut alone short))
  case limit =>
    subst settled
    have run : exec .timeLimit s = .next (conclude s (timeLimitTest (settle s))) :=
      congrArg Host.Outcome.next (if_pos clocked)
    refine ⟨fun early => ?_, fun sampling limit => ?_⟩
    · exact run.trans (congrArg (fun t => Host.Outcome.next (conclude s t)) (if_neg fun due => by
        have limit : 140737488355328 ≤ _ := due.2
        omega))
    · refine ⟨_, run, ?_⟩
      rw [timeLimitTest_reached sampling limit, stopSegment_seq]
      exact ⟨rfl, rfl, rfl, rfl, by simp; rfl⟩

end Sys2Proof.Machine
end

section
/-! PROOFS. Full resets and start-up, and what wakes the part from DORMANT (O57, O59). -/

namespace Sys2Proof.Machine

/-! ## Comparators (R7) -/

theorem getLsbD_foldl_channels (f : Nat → Bool) {k : Nat} (hk : k < 16) (n : Nat) (acc : Half) :
    ((List.range n).foldl (fun acc k => if f k then acc ||| (1#16 <<< k) else acc) acc).getLsbD k =
      (acc.getLsbD k || (decide (k < n) && f k)) := by
  induction n with
  | zero => simp
  | succ n ih =>
    rw [List.range_succ, List.foldl_append, List.foldl_cons, List.foldl_nil]
    by_cases same : k = n
    · subst same
      by_cases on : f k = true
      · simp [on, ih, hk]
      · simp [on, ih]
    · have bit : (1#16 <<< n).getLsbD k = false := by
        simp only [BitVec.getLsbD_shiftLeft, BitVec.getLsbD_one]
        by_cases below : k < n
        · simp [below]
        · have : k - n ≠ 0 := by omega
          simp [this]
      have order : decide (k < n + 1) = decide (k < n) := by
        by_cases below : k < n
        · simp [below, Nat.lt_succ_of_lt below]
        · have : ¬ k < n + 1 := by omega
          simp [below, this]
      by_cases on : f n = true
      · rw [if_pos on, BitVec.getLsbD_or, ih, bit, Bool.or_false, order]
      · rw [if_neg on, ih, order]

theorem getLsbD_channelsWhere (f : Nat → Bool) {k : Nat} (hk : k < 16) : (channelsWhere f).getLsbD k = f k := by
  rw [channelsWhere, getLsbD_foldl_channels f hk]
  simp [hk]

section
variable {f : FrontEnd} {v : List Int} {k : Nat}

theorem compare_unpowered (hk : k < 16) (h : (f.pod (podOf k)).powered = false) :
    (f.compare v).levels.getLsbD k = f.levels.getLsbD k := by
  rw [FrontEnd.compare, getLsbD_channelsWhere _ hk]
  simp [h]

theorem compare_powered (hk : k < 16) (h : (f.pod (podOf k)).powered = true) : (f.compare v).levels.getLsbD k =
    comparator (f.levels.getLsbD k) (effectiveThreshold (f.pod (podOf k)).code) (v.getD k 0) := by
  rw [FrontEnd.compare, getLsbD_channelsWhere _ hk]
  simp [h]

theorem powerUp_unpowered (hk : k < 16) (h : (f.pod (podOf k)).powered = false) :
    (f.powerUp v).levels.getLsbD k = comparatorFresh (effectiveThreshold (f.pod (podOf k)).code) (v.getD k 0) := by
  rw [FrontEnd.powerUp, getLsbD_channelsWhere _ hk]
  simp [h]

theorem powerUp_powered (hk : k < 16) (h : (f.pod (podOf k)).powered = true) :
    (f.powerUp v).levels.getLsbD k = (f.compare v).levels.getLsbD k := by
  rw [compare_powered hk h, FrontEnd.powerUp, getLsbD_channelsWhere _ hk]
  simp [h]

end

/-- The comparator with its hysteresis, as one test for each level it had (R7). -/
theorem comparator_eq (was : Bool) (threshold input : Int) : comparator was threshold input =
    if was then decide (threshold - 50 ≤ input) else decide (threshold + 50 < input) := by
  cases was
  · rfl
  · exact (decide_not ..).symm.trans (decide_eq_decide.mpr Int.not_lt)

/-! ## Start-up (R89, R204, R205) -/

theorem pllLock_startup {s : State} (h : s.power.pll = .starting) (st : s.power.st = .startup) : pllLock s =
    { s with power := { s.power with pll := .locked }, mc := { s.mc with init := .wait } } := by
  rw [pllLock, if_pos h]
  simp only [st]

theorem pllLock_wakeup {s : State} (h : s.power.pll = .starting) (st : s.power.st = .wakeup) : pllLock s =
    { s with power := { s.power with pll := .locked }, mc := { s.mc with st := .exiting } } := by
  rw [pllLock, if_pos h]
  simp only [st]

theorem lowTest_quiet {s : State} {v : Nat} (armed : s.power.lowArmed = true) (enough : s.power.low ≤ v) :
    lowTest v s = s := by
  simp only [lowTest, armed, if_true, if_neg (Nat.not_lt.mpr enough)]

theorem cutoffTest_quiet {s : State} {v : Nat} (h : s.power.cutoff ≤ v ∨ s.power.charger = true) :
    cutoffTest v s = s := by
  refine if_neg fun ⟨low, off, _⟩ => ?_
  rcases h with h | h
  · omega
  · simp [off] at h

/-- Settles O57: the resets by what they keep, start-up step by step. -/
theorem startUp : Obligations.StartUp := by
  refine ⟨fun s r m cause reset => ?resets, fun s down => congrArg Host.Outcome.next (if_pos down),
    fun now s held st => congrArg Host.Outcome.next (if_pos ⟨held, st⟩), fun s starting => ⟨fun st => ?_, fun st => ?_⟩,
    fun s still => congrArg Host.Outcome.next (if_neg still),
    fun s st init => congrArg Host.Outcome.next (if_pos ⟨st, init⟩),
    fun v batt s st init low cutoff armed => ?done, fun f v k pod th hk hpod hth => ?comparators⟩
  case resets =>
    subst reset
    refine ⟨fun empty on => ?_, fun up same pin => (congrArg Host.Outcome.next (if_neg up)).trans ?_⟩
    · subst empty on
      rfl
    · subst same pin
      rfl
  · exact congrArg Host.Outcome.next (pllLock_startup starting st)
  · exact congrArg Host.Outcome.next (pllLock_wakeup starting st)
  case done =>
    refine congrArg Host.Outcome.next ((if_pos ⟨st, init⟩).trans (congrArg (conclude s) ?_))
    have attn : ∀ u : State, u.power.st = .run → u.attnNow = decide (u.ports.con.alerts ≠ []) := by
      intro u run
      simp [State.attnNow, run]
    rw [initDone, sampleBattery, lowTest_quiet (by exact armed) (by exact low),
      cutoffTest_quiet (Or.inl (by exact cutoff)), State.refreshAttn, attn _ rfl]
    rfl
  case comparators =>
    have own : f.pod (podOf k) = pod := hpod.symm
    refine ⟨rfl, rfl, fun off => ?_, fun on => powerUp_powered hk (by rw [own]; exact on)⟩
    rw [powerUp_unpowered hk (by rw [own]; exact off), own, ← hth, comparatorFresh, decide_eq_true_eq]

/-! ## Wakes (R15, R207, R208) -/

theorem beginWake_charged {s : State} {batt : Nat} (h : s.power.cutoff ≤ batt ∨ s.power.charger = true) :
    beginWake batt s = { s with power := { s.power with
      st := .wakeup, timerOn := false, reading := some batt, pll := .starting } } := by
  refine if_neg fun ⟨low, off⟩ => ?_
  have low : batt < s.power.cutoff := low
  have off : s.power.charger = false := off
  rcases h with h | h
  · omega
  · simp [off] at h

theorem recordCause_dormant {s : State} {add : WakeSet → WakeSet} {batt : Nat} (h : s.power.st = .dormant) :
    recordCause add batt s = beginWake batt { s with power := { s.power with wake := add s.power.wake } } := by
  simp only [recordCause, h]

theorem edgeMatches_iff (kind : EdgeKind) (was is : Bool) : edgeMatches kind was is = true ↔
    (was = false ∧ is = true ∧ kind ≠ .fall) ∨ (was = true ∧ is = false ∧ kind ≠ .rise) := by
  cases kind <;> cases was <;> cases is <;> decide

theorem watchEdge_deaf {s : State} {v : List Int} {batt : Nat} (h : s.fe.detector = none ∨ s.fe.watch = none) :
    watchEdge v batt s = { s with fe := s.fe.compare v } := by
  rcases h with h | h
  · simp only [watchEdge, h]
  · simp only [watchEdge, h]
    split <;> simp_all

theorem watchEdge_watching {s : State} {v : List Int} {batt : Nat} {was : Bool} {c : Nat} {kind : EdgeKind}
    (detector : s.fe.detector = some was) (watch : s.fe.watch = some (c, kind)) : watchEdge v batt s =
      if edgeMatches kind was ((s.fe.compare v).levels.getLsbD c) then
        recordCause (fun w => { w with watch := true }) batt
          { s with fe := { s.fe.compare v with detector := some ((s.fe.compare v).levels.getLsbD c) } }
      else { s with fe := { s.fe.compare v with detector := some ((s.fe.compare v).levels.getLsbD c) } } := by
  simp only [watchEdge, detector, watch]

theorem connected_of_dormant {s : State} (st : s.power.st = .dormant) (vbus : s.ports.vbus = true) :
    s.connected = true :=
  connected_iff.mpr ⟨vbus, by simp [st], by simp [st]⟩

/-- Settles O59: the wake by its battery check, then each cause in DORMANT, and the charger by the power state. -/
theorem wakeCauses : Obligations.WakeCauses := by
  refine ⟨fun batt s => ⟨beginWake_charged, fun low off => if_pos ⟨low, off⟩⟩, fun batt s st => ⟨fun v => ?watch,
    fun on => ?timer, fun off => congrArg Host.Outcome.next (if_neg fun both => absurd both.2 (by simp [off])),
      ?select, fun vbus link => ?resume,
    fun vbus link => ?resumed, fun vbus => ?reset⟩,
      fun present batt s => ⟨fun same => congrArg Host.Outcome.next (if_pos same),
    fun moved st => ?running, fun moved st => ?asleep⟩⟩
  case watch =>
    have run : exec (.watchEdge v batt) s = .next (watchEdge v batt s) := congrArg Host.Outcome.next (if_pos st)
    refine ⟨(s.fe.compare v).levels, fun j pod th hj hpod hth => ⟨fun off => ?_, fun on => ?_⟩, fun deaf => ?_,
      fun was c kind now edge detector watch hnow hedge => ?_⟩
    · exact compare_unpowered hj (by rw [show s.fe.pod (podOf j) = pod from hpod.symm]; exact off)
    · have own : s.fe.pod (podOf j) = pod := hpod.symm
      rw [compare_powered hj (by rw [own]; exact on), comparator_eq, own, ← hth]
    · rw [run, watchEdge_deaf deaf]
      rfl
    · subst hnow
      have same : edgeMatches kind was ((s.fe.compare v).levels.getLsbD c) = edge :=
        Bool.eq_iff_iff.mpr ((edgeMatches_iff ..).trans hedge.symm)
      rw [run, watchEdge_watching detector watch, same]
      refine ⟨fun yes => ?_, fun no => ?_⟩
      · rw [if_pos yes, recordCause_dormant (by exact st)]
        rfl
      · rw [if_neg (by simp [no])]
        rfl
  case timer => exact congrArg Host.Outcome.next ((if_pos ⟨st, on⟩).trans (recordCause_dormant st))
  case select =>
    have live : s.power.st ≠ .shutdown := by simp [st]
    refine congrArg Host.Outcome.next ?_
    rw [assertSelect, if_neg live, outgoing_starting (by simp [State.starting, st])]
    exact (if_pos st).trans (recordCause_dormant (by exact st))
  case resume =>
    have still : resumeLink s = s := if_neg link
    refine congrArg Host.Outcome.next ((if_pos (connected_of_dormant st vbus)).trans (congrArg (conclude s) ?_))
    rw [still]
    exact recordCause_dormant st
  case resumed =>
    refine congrArg Host.Outcome.next ((if_pos (connected_of_dormant st vbus)).trans (congrArg (conclude s) ?_))
    have up : resumeLink s = pumpTether { s with ports := { s.ports with link := .configured, resuming := false } } :=
      if_pos link
    have power : (pumpTether { s with ports := { s.ports with link := .configured, resuming := false } }).power =
      s.power := by
      simp
    rw [up, recordCause_dormant (by rw [power]; exact st), power]
  case reset =>
    refine congrArg Host.Outcome.next ((if_pos (connected_of_dormant st vbus)).trans (congrArg (conclude s) ?_))
    have later : busResetOrDefer s = { s with power := { s.power with tetherReset := true } } := if_pos (Or.inl st)
    rw [later]
    exact recordCause_dormant (by exact st)
  case running =>
    refine congrArg Host.Outcome.next ((if_neg moved).trans ?_)
    rw [chargerChange, recordCause_run (by exact st)]
  case asleep =>
    refine congrArg Host.Outcome.next ((if_neg moved).trans ?_)
    rw [chargerChange, recordCause_dormant (by exact st)]

end Sys2Proof.Machine
end

section
/-! PROOFS. Into self-refresh and out of it, battery samples and the cutoff sequence (O58, O60). -/

namespace Sys2Proof.Machine

/-! ## DORMANT entry (R15, R102, R206) -/

theorem wakeSet_any_iff {w : WakeSet} : w.any = true ↔ w ≠ WakeSet.empty := by
  obtain ⟨console, tether, watch, timer, charger⟩ := w
  cases console <;> cases tether <;> cases watch <;> cases timer <;> cases charger <;> decide

theorem refreshItself_idle {m : MemCtl} (h : m.flight = none) : m.refreshItself =
    { m with st := .selfRefresh, banks := [.idle, .idle, .idle, .idle] } := by
  obtain ⟨_⟩ := m
  simp only at h
  subst h
  rfl

theorem watched_none {f : FrontEnd}
    (h : f.watch = none ∨ ∃ c e, f.watch = some (c, e) ∧ (f.pod (podOf c)).present = false) : f.watched = none := by
  rcases h with h | ⟨c, e, h, absent⟩
  · simp only [FrontEnd.watched, h]
  · simp only [FrontEnd.watched, h, absent, Bool.false_eq_true, if_false]

theorem watched_some {f : FrontEnd} {c : Nat} {e : EdgeKind} (h : f.watch = some (c, e))
    (present : (f.pod (podOf c)).present = true) : f.watched = some c := by
  simp only [FrontEnd.watched, h, present, if_true]

theorem sleep_unwatched {f : FrontEnd} (h : f.watched = none) : f.sleep = { f with
    pod0 := { f.pod0 with powered := false, window := none }
    pod1 := { f.pod1 with powered := false, window := none }, detector := none } := by
  simp only [FrontEnd.sleep, h]

theorem sleep_watched {f : FrontEnd} {c : Nat} (h : f.watched = some c) : f.sleep = { f with
    pod0 := { f.pod0 with powered := decide (podOf c = 0), window := none }
    pod1 := { f.pod1 with powered := decide (podOf c = 1), window := none }
    detector := if (f.pod (podOf c)).sense then some (f.levels.getLsbD c) else none } := by
  simp only [FrontEnd.sleep, h]

/-! ## The wake ends (R103, R208) -/

/-- What the panel's wake and a kept frame leave alone. -/
theorem wakeDisplays_leaves (s : State) :
    (keptFrame (wakeDormantPanel s)).mc = s.mc ∧ (keptFrame (wakeDormantPanel s)).fe = s.fe ∧
    (keptFrame (wakeDormantPanel s)).power = s.power ∧
    (keptFrame (wakeDormantPanel s)).render.liveCount = s.render.liveCount ∧
    (keptFrame (wakeDormantPanel s)).ports.con.levels = s.ports.con.levels := by
  have woken : (wakeDormantPanel s).mc = s.mc ∧ (wakeDormantPanel s).fe = s.fe ∧ (wakeDormantPanel s).power = s.power ∧
      (wakeDormantPanel s).render.liveCount = s.render.liveCount ∧
      (wakeDormantPanel s).ports.con.levels = s.ports.con.levels := by
    unfold wakeDormantPanel
    split <;> simp
  unfold keptFrame
  split
  · simpa using woken
  · exact woken

theorem records_lowTest {s : State} {k : AlertKind} {arg : Nat} (v : Nat) (h : (s.ports.port .console).records k arg)
    (hk : k ≠ .batteryLow) : ((lowTest v s).ports.port .console).records k arg := by
  unfold lowTest
  split
  · split
    · exact h.raised _ hk
    · exact h
  · split <;> exact h

/-- The wake's last step: the LOW test of the reading it has, if it has one. -/
def State.readingTested (s : State) : State :=
  match s.power.reading with
  | some v => lowTest v s
  | none => s

theorem readingTested_leaves (s : State) : s.readingTested.mc = s.mc ∧ s.readingTested.fe = s.fe ∧
    s.readingTested.power.st = s.power.st ∧ s.readingTested.render = s.render ∧
    ∀ k arg, k ≠ .batteryLow → (s.ports.port .console).records k arg →
      (s.readingTested.ports.port .console).records k arg := by
  unfold State.readingTested
  split
  · exact ⟨by simp, by simp, by simp, by simp, fun k arg hk h => records_lowTest _ h hk⟩
  · exact ⟨rfl, rfl, rfl, rfl, fun _ _ _ h => h⟩

/-- The wake's state before its panel, its frame and its alerts. -/
def State.served (v : List Int) (now : Nat) (s : State) : State :=
  { s with mc := s.mc.serve, fe := s.fe.wake v now, power := { s.power with st := .run }
           render := { s.render with liveCount := 0 } }

theorem finishWake_eq {v : List Int} {now : Nat} {s : State} (h : s.power.tetherReset = false) : finishWake v now s =
    (raiseBoth .woken s.power.wake.arg (keptFrame (wakeDormantPanel (s.served v now)))).readingTested := by
  obtain ⟨_, _, power, _⟩ := wakeDisplays_leaves (s.served v now)
  have quiet : (keptFrame (wakeDormantPanel (s.served v now))).power.tetherReset = false := by rw [power]; exact h
  have cause : (keptFrame (wakeDormantPanel (s.served v now))).power.wake = s.power.wake := by rw [power]; rfl
  rw [← cause]
  unfold finishWake
  simp only [State.served] at quiet ⊢
  simp only [quiet, Bool.false_eq_true, if_false]
  rfl

/-- Settles O58: the entry by whether a cause waits, the pods by the watch, the exit step by step. -/
theorem selfRefreshPassages : Obligations.SelfRefreshPassages := by
  refine ⟨fun batt s d st mc flight debt hd => ?entry, fun f h => sleep_unwatched (watched_none h),
    fun f c e watch => ⟨fun low present => ?pod0, fun high present => ?pod1⟩,
    fun batt s busy => congrArg Host.Outcome.next (if_neg fun ⟨_, _, flight, debt⟩ => busy.elim (· flight) (· debt)),
    fun v now s st mc quiet wanted => ?exit⟩
  case entry =>
    have run : exec (.selfRefreshEntered batt) s = .next (if s.power.wake.any then beginWake batt d else d) := by
      refine congrArg Host.Outcome.next ((if_pos ⟨st, mc, flight, debt⟩).trans ?_)
      rw [hd, ← refreshItself_idle flight]
      rfl
    refine ⟨fun none => run.trans (congrArg _ (if_neg ?_)), fun some' => run.trans (congrArg _ (if_pos ?_))⟩
    · rw [wakeSet_any_iff]
      exact fun other => other none
    · exact wakeSet_any_iff.mpr some'
  case pod0 =>
    have pod : podOf c = 0 := if_pos low
    rw [sleep_watched (watched_some watch (by rw [pod]; exact present)), pod]
    rfl
  case pod1 =>
    have pod : podOf c = 1 := if_neg (by omega)
    rw [sleep_watched (watched_some watch (by rw [pod]; exact present)), pod]
    rfl
  case exit =>
    have run : exec (.selfRefreshExited v now) s = .next (conclude s (finishWake v now s)) :=
      congrArg Host.Outcome.next (if_pos ⟨st, mc⟩)
    obtain ⟨mc', fe, power, live, levels⟩ := wakeDisplays_leaves (s.served v now)
    refine ⟨_, run, ?_⟩
    rw [finishWake_eq quiet]
    have raised := raiseBoth_records (s := keptFrame (wakeDormantPanel (s.served v now))) (p := .console) (k := .woken)
      s.power.wake.arg (PortState.level_congr (q :=
        (keptFrame (wakeDormantPanel (s.served v now))).ports.con) levels _ ▸ wanted)
    generalize keptFrame (wakeDormantPanel (s.served v now)) = t at mc' fe power live raised
    obtain ⟨mcT, feT, stT, renderT, keep⟩ := readingTested_leaves (raiseBoth .woken s.power.wake.arg t)
    rw [mcT, feT, stT, renderT]
    refine ⟨by simp [power, State.served], ?_, by simp [fe, State.served], ?_, ?_, ?_, by simp [live, State.served],
      keep _ _ (by decide) raised⟩
    · simp only [raiseBoth_frame, mc']
      rfl
    all_goals
      simp only [raiseBoth_frame, fe]
      rfl

/-! ## Battery samples (R209) -/

theorem lowTest_low {s : State} {v : Nat} (armed : s.power.lowArmed = true) (low : v < s.power.low) :
    lowTest v s = raiseBoth .batteryLow v { s with power := { s.power with lowArmed := false } } := by
  simp only [lowTest, armed, if_true, if_pos low]

theorem lowTest_disarmed {s : State} {v : Nat} (h : s.power.lowArmed = false) : lowTest v s =
    { s with power := { s.power with lowArmed := decide (s.power.low + 50 < v) } } := by
  unfold lowTest
  rw [if_neg (by simp [h])]
  split
  · rename_i above
    rw [decide_eq_true above]
  · rename_i below
    rw [decide_eq_false below, ← h]

theorem graceTick_none {s : State} (h : s.power.grace = none) : graceTick s = s := by
  rw [graceTick, h]
  exact congrArg (fun g => { s with power := { s.power with grace := g } }) h.symm

/-! ## The cutoff sequence (R210) -/

/-- Slot `k` neither runs nor waits. -/
def State.slotRests (k : Nat) (s : State) : Prop := (s.slot k).state ≠ .running ∧ (s.slot k).state ≠ .waiting

theorem State.slotRests.alike {k : Nat} {s t : State} (h : s.slotRests k) (same : SlotAlike k s t) : t.slotRests k := by
  rw [State.slotRests, same.1]
  exact h

/-- A slot that is stopped rests. -/
theorem stopSlot_rests {k : Nat} (cause : StopCause) {s : State} (hk : k < s.slots.length) :
    (stopSlot k cause s).slotRests k := by
  have stopped : ∀ x : Slot, x.state = .stopped → (s.setSlot k x).slotRests k := by
    intro x hx
    rw [State.slotRests, slot_setSlot hk, if_pos rfl, hx]
    exact ⟨by decide, by decide⟩
  by_cases running : (s.slot k).state = .running
  · by_cases live : (s.slot k).source = some .live
    · rw [stopSlot_live (Slot.live_iff.mpr ⟨running, live⟩)]
      exact (stopped { s.slot k with state := .stopped, cause := some cause, tag := none, joinNext := false } rfl).alike
        (.of_slots (by simp))
    · rw [stopSlot_offline (Slot.offline_iff.mpr ⟨running, live⟩) hk]
      exact ((stopped { s.slot k with state := .stopped, cause := some cause } rfl).alike
        (.of_slots (by simp))).alike (dropPin_slotAlike _ k _ _)
  · by_cases waiting : (s.slot k).state = .waiting
    · rw [stopSlot_waiting waiting]
      exact stopped _ rfl
    · have same : stopSlot k cause s = s := by simp [stopSlot, Slot.live, Slot.offline, running, waiting]
      rw [same]
      exact ⟨running, waiting⟩

theorem State.slotRests.stopSlot {j k : Nat} {cause : StopCause} {s : State} (h : s.slotRests k)
    (hk : k < s.slots.length) :
    (stopSlot j cause s).slotRests k := by
  by_cases same : k = j
  · subst same
    exact stopSlot_rests cause hk
  · exact h.alike (stopSlot_slotAlike same cause s)

/-- The slots once the cutoff sequence has stopped them. -/
def State.slotsStopped (s : State) : State :=
  stopSlot 3 .power (stopSlot 2 .power (stopSlot 1 .power (stopSlot 0 .power s)))

theorem slotsStopped_rests {s : State} (four : s.slots.length = 4) {k : Nat} (hk : k < 4) :
    s.slotsStopped.slotRests k := by
  have len0 : (stopSlot 0 .power s).slots.length = 4 := by simpa using four
  have len1 : (stopSlot 1 .power (stopSlot 0 .power s)).slots.length = 4 := by simpa using four
  have len2 : (stopSlot 2 .power (stopSlot 1 .power (stopSlot 0 .power s))).slots.length = 4 := by simpa using four
  rw [State.slotsStopped]
  match k, hk with
  | 0, _ =>
    have first := stopSlot_rests (s := s) (k := 0) .power (by omega)
    exact ((first.stopSlot (by omega)).stopSlot (by omega)).stopSlot (by omega)
  | 1, _ => exact ((stopSlot_rests .power (by omega)).stopSlot (by omega)).stopSlot (by omega)
  | 2, _ => exact (stopSlot_rests .power (by omega)).stopSlot (by omega)
  | 3, _ => exact stopSlot_rests .power (by omega)

/-- The decoders rest and the console has no stream: what the cutoff sequence brings about, and the panel's own work
leaves so. -/
def State.readersRest (s : State) : Prop := (∀ k, k < 4 → s.slotRests k) ∧ s.streamless .console

section
variable {s t : State}

theorem State.readersRest.same (h : s.readersRest) (slots : t.slots = s.slots)
    (stream : t.ports.con.stream = s.ports.con.stream) : t.readersRest :=
  ⟨fun k hk => (h.1 k hk).alike (.of_slots slots), stream.trans h.2⟩

theorem State.readersRest.dropPin (n : Nat) (f : Pins → Pins) (h : s.readersRest) : (dropPin n f s).readersRest :=
  ⟨fun k hk => (h.1 k hk).alike (dropPin_slotAlike n k f s), dropPin_streamless h.2⟩

theorem State.readersRest.unpinOld (named : Option Nat) (h : s.readersRest) : (unpinOld named s).readersRest := by
  unfold Sys2Proof.Machine.unpinOld
  split
  · split
    · exact h
    · exact h.dropPin _ _
  · exact h

theorem State.readersRest.pinned (n : Nat) (f : Pins → Pins) (h : s.readersRest) : (addPin n f s).readersRest :=
  h.same (by simp) (by simp)

theorem State.readersRest.moveView (named : Option Nat) (h : s.readersRest) : (moveView named s).1.readersRest := by
  rw [moveView_eq]
  split
  · exact h.unpinOld _
  · split
    · exact (h.unpinOld (some _)).pinned _ _
    · exact (h.unpinOld (some _)).pinned _ _
    · exact h.unpinOld _
    · exact h.unpinOld _

theorem State.readersRest.latchFrame (h : s.readersRest) : (latchFrame s).readersRest := by
  unfold Sys2Proof.Machine.latchFrame
  have moved := h.moveView (s.resolve s.render.view.seg)
  dsimp only
  split
  · exact moved.same (by simp) (by simp)
  · exact moved.same rfl rfl

theorem State.readersRest.requestFrame (h : s.readersRest) : (requestFrame s).readersRest := by
  unfold Sys2Proof.Machine.requestFrame
  split
  · exact h.latchFrame
  · exact h.same rfl rfl

theorem State.readersRest.endEmission (h : s.readersRest) : (endEmission s).readersRest := by
  unfold Sys2Proof.Machine.endEmission completeFrame
  dsimp only
  split
  · exact State.readersRest.latchFrame (h.same rfl rfl)
  · exact h.same rfl rfl

theorem State.readersRest.reportBand (b : Nat) (h : s.readersRest) : (reportBand b s).readersRest := by
  unfold Sys2Proof.Machine.reportBand
  dsimp only
  split
  · exact State.readersRest.endEmission (h.same rfl rfl)
  · exact h.same rfl rfl

theorem State.readersRest.leaveShowing (h : s.readersRest) : (leaveShowing s).readersRest := by
  unfold Sys2Proof.Machine.leaveShowing
  dsimp only
  split
  · exact h.same rfl rfl
  · exact h.same rfl rfl
  · exact State.readersRest.endEmission (h.same rfl rfl)

theorem State.readersRest.applyChanges (list : List OverlayChange) (h : s.readersRest) :
    (applyChanges list s).readersRest := by
  induction list generalizing s with
  | nil => exact h
  | cons c r ih =>
    refine ih (State.readersRest.requestFrame ?_)
    split <;> split <;> exact h.same (by simp) (by simp)

theorem State.readersRest.startBand (h : s.readersRest) : (startBand s).readersRest := by
  unfold Sys2Proof.Machine.startBand
  split
  · exact h.endEmission
  · split
    · exact State.readersRest.reportBand _ (h.same rfl rfl)
    · exact h.same rfl rfl

theorem State.readersRest.busGrant (fuel : Nat) (afterBand : Bool) (h : s.readersRest) :
    (busGrant fuel afterBand s).readersRest := by
  induction fuel generalizing s afterBand with
  | zero => exact h
  | succ fuel ih =>
    unfold Sys2Proof.Machine.busGrant
    have begun : (beginEmission s).readersRest := h.same (by simp) (by simp)
    dsimp only
    split
    · rename_i q rest _
      have ran : (runWaiting (q :: rest) (beginEmission s)).readersRest := begun.same (by simp) (by simp)
      split
      · exact ih _ ran
      · exact ran
    · have granted : (grantChunk (beginEmission s)).readersRest := begun.same (by simp) (by simp)
      split
      · split
        · exact granted
        · split
          · exact ih _ begun.startBand
          · exact begun.startBand
      · split
        · exact granted
        · exact begun

theorem State.readersRest.pokeBus (h : s.readersRest) : (pokeBus s).readersRest := by
  unfold Sys2Proof.Machine.pokeBus busBoundary
  dsimp only
  split
  · split
    · exact State.readersRest.busGrant _ _ (State.readersRest.applyChanges _ (h.same rfl rfl))
    · exact h
  · exact h

theorem State.readersRest.sleepForCutoff (h : s.readersRest) : (sleepForCutoff s).readersRest := by
  have slept : ∀ dormant, (sleepPanel dormant s).readersRest := by
    intro dormant
    have left : (Sys2Proof.Machine.leaveShowing { s with
        panel := { s.panel.abandon with st := .sleeping, dormantSleep := dormant } }).readersRest :=
      State.readersRest.leaveShowing (h.same rfl rfl)
    exact State.readersRest.pokeBus (left.same rfl rfl)
  unfold Sys2Proof.Machine.sleepForCutoff
  split
  · exact slept _
  · exact slept _
  · exact h
  · exact h
  · exact h

theorem cancelStream_slotAlike (p : Port) (k : Nat) (s : State) : SlotAlike k s (cancelStream p s) := by
  refine (stopReading_slotAlike p k s).trans ?_
  unfold cancelStream
  dsimp only
  split
  · exact .of_slots rfl
  · split
    · split <;> exact .of_slots (by simp)
    · exact .of_slots (by simp)

theorem cancelStream_console_streamless (s : State) : (cancelStream .console s).streamless .console := by
  unfold cancelStream
  dsimp only
  split
  · assumption
  · split
    · simp [State.streamless, Ports.port, setStream, Ports.setPort]
    · exact setStream_stream .console none _

theorem stopReading_streamless {p q : Port} (h : s.streamless p) : (stopReading q s).streamless p := by
  unfold stopReading
  split
  · exact h
  · split
    · exact h
    · exact dropPin_streamless (by simpa [State.streamless] using h)

theorem cancelStream_tether_streamless (h : s.streamless .console) : (cancelStream .tether s).streamless .console := by
  have left : (stopReading .tether s).streamless .console := stopReading_streamless h
  unfold cancelStream
  dsimp only
  split
  · exact left
  · exact pumpTether_streamless left

theorem cancelMeasure_streamless {p : Port} (h : s.streamless p) : (cancelMeasure s).streamless p := by
  unfold cancelMeasure
  dsimp only
  split
  · exact dropPin_streamless (by simpa [State.streamless] using h)
  · exact h

theorem cancelMeasure_idle (s : State) : (cancelMeasure s).meas.st ≠ .busy := by
  unfold cancelMeasure
  dsimp only
  split
  · simp [Measure.reset]
  · assumption

theorem stopNow_ends (reason : SealReason) (s : State) : (stopNow reason s).seq.acq.sampling = false := by
  unfold stopNow stopCondition
  split
  · simp [*, AcqState.sampling]
  · dsimp only
    split
    · rw [stopSegment_seq]
      rfl
    · rename_i still
      simpa using still

/-- The readers' part of the cutoff sequence: streams and measurement, after the slots. -/
def State.readersCut (s : State) : State := cancelMeasure (cancelStream .tether (cancelStream .console s))

theorem readersCut_rest (h : ∀ k, k < 4 → s.slotRests k) : s.readersCut.readersRest :=
  ⟨fun k hk => (((h k hk).alike (cancelStream_slotAlike .console k s)).alike (cancelStream_slotAlike .tether k _)).alike
      (cancelMeasure_slotAlike k _),
    cancelMeasure_streamless (cancelStream_tether_streamless (cancelStream_console_streamless s))⟩

theorem cancelStream_levels (p : Port) (s : State) : (cancelStream p s).ports.con.levels = s.ports.con.levels := by
  have read : (stopReading p s).ports.con.levels = s.ports.con.levels := by simp
  rw [← read]
  unfold cancelStream
  dsimp only
  split
  · rfl
  · split
    · split <;> simp [setStream, Ports.setPort, Ports.port]
    · simp [setStream, Ports.setPort, Ports.port]

/-- The state of the cutoff sequence before its grace starts. -/
def State.cutOff (v : Nat) (s : State) : State :=
  raiseBoth .batteryCutoff v (sleepForCutoff (stopNow .power s).slotsStopped.readersCut)

theorem cutoffSequence_eq (v : Nat) (s : State) : cutoffSequence v s =
    { s.cutOff v with power := { (s.cutOff v).power with grace := some 2000 } } := by
  unfold cutoffSequence State.cutOff State.readersCut State.slotsStopped
  rfl

end

theorem readersCut_leaves (s : State) : s.readersCut.power = s.power ∧ s.readersCut.seq = s.seq ∧
    s.readersCut.meas.st ≠ .busy ∧ s.readersCut.ports.con.levels = s.ports.con.levels := by
  unfold State.readersCut
  refine ⟨by simp, by simp, cancelMeasure_idle _, ?_⟩
  simp [cancelStream_levels]

theorem slotsStopped_leaves (s : State) : s.slotsStopped.power = s.power ∧ s.slotsStopped.seq = s.seq ∧
    s.slotsStopped.ports.con.levels = s.ports.con.levels := by
  unfold State.slotsStopped
  simp

theorem cutOff_leaves {v : Nat} {s : State} (four : s.slots.length = 4)
    (wanted : s.ports.con.level .batteryCutoff ≠ .off) :
    (s.cutOff v).power.reading = s.power.reading ∧ (s.cutOff v).seq.acq.sampling = false ∧ (s.cutOff v).readersRest ∧
    (s.cutOff v).meas.st ≠ .busy ∧ (s.cutOff v).ports.con.records .batteryCutoff v := by
  have stopped := readersCut_rest fun k hk =>
    slotsStopped_rests (s := stopNow .power s) (by simpa using four) hk
  obtain ⟨power, seq, levels⟩ := slotsStopped_leaves (stopNow .power s)
  obtain ⟨power', seq', meas, levels'⟩ := readersCut_leaves (stopNow .power s).slotsStopped
  have ends : (stopNow .power s).slotsStopped.readersCut.seq.acq.sampling = false := by
    rw [seq', seq]
    exact stopNow_ends .power s
  have power : (stopNow .power s).slotsStopped.readersCut.power = s.power := by simp [power', power]
  have levels : (stopNow .power s).slotsStopped.readersCut.ports.con.levels = s.ports.con.levels :=
    by simp [levels', levels]
  unfold State.cutOff
  generalize (stopNow .power s).slotsStopped.readersCut = u at *
  have level : ((sleepForCutoff u).ports.port .console).level .batteryCutoff ≠ .off := by
    have same : (sleepForCutoff u).ports.con.levels = s.ports.con.levels := by simp [levels]
    exact PortState.level_congr same _ ▸ wanted
  exact ⟨by simp [power], by simp [ends], State.readersRest.same stopped.sleepForCutoff (by simp) (by simp),
    by simpa using meas,
    raiseBoth_records v level⟩

/-- What the cutoff sequence brings about (R210). -/
theorem cutoffSequence_leaves {v : Nat} {s : State} (four : s.slots.length = 4)
    (wanted : s.ports.con.level .batteryCutoff ≠ .off) :
    (cutoffSequence v s).power.grace = some 2000 ∧ (cutoffSequence v s).power.reading = s.power.reading ∧
    (cutoffSequence v s).seq.acq.sampling = false ∧ (cutoffSequence v s).readersRest ∧
    (cutoffSequence v s).meas.st ≠ .busy ∧ (cutoffSequence v s).ports.con.records .batteryCutoff v := by
  have left := cutOff_leaves (v := v) four wanted
  rw [cutoffSequence_eq]
  generalize s.cutOff v = u at left
  obtain ⟨reading, seq, rest, meas, alert⟩ := left
  exact ⟨rfl, reading, seq, rest.same rfl rfl, meas, alert⟩

/-- Settles O60: the sample by its tests, the cutoff sequence by its steps, the end of the grace. -/
theorem batteryAndGrace : Obligations.BatteryAndGrace := by
  have sampled : ∀ (v : Nat) (s : State), s.power.st = .run → s.power.grace = none →
      exec (.batterySample v) s = .next (conclude s (sampleBattery v s)) := by
    intro v s st grace
    refine congrArg Host.Outcome.next ((if_pos st).trans ?_)
    rw [graceTick_none grace]
  refine ⟨fun v s st grace enough => ⟨fun armed above => ?_, fun armed below => ?_, fun disarmed => ?_⟩,
    fun v s st grace low off four wanted => ⟨_, sampled v s st grace, ?_⟩,
    fun s st grace => congrArg Host.Outcome.next (if_pos ⟨st, Option.isSome_iff_ne_none.mpr grace⟩),
    fun s grace => congrArg Host.Outcome.next (if_neg (by simp [grace]))⟩
  · rw [sampled v s st grace, sampleBattery, lowTest_quiet (by exact armed) (by exact above),
      cutoffTest_quiet (by exact enough)]
  · rw [sampled v s st grace, sampleBattery, lowTest_low (by exact armed) (by exact below),
      cutoffTest_quiet (by simpa using enough)]
  · rw [sampled v s st grace, sampleBattery, lowTest_disarmed (by exact disarmed), cutoffTest_quiet (by exact enough)]
  · have cut : sampleBattery v s =
      cutoffSequence v (lowTest v { s with power := { s.power with reading := some v } }) :=
      if_pos (by simp [low, off, grace])
    rw [cut]
    have levels : (lowTest v { s with power := { s.power with reading := some v } }).ports.con.levels =
      s.ports.con.levels := by
      simp
    have slots : (lowTest v { s with power := { s.power with reading := some v } }).slots.length = 4 :=
      by simpa using four
    have read : (lowTest v { s with power := { s.power with reading := some v } }).power.reading = some v := by simp
    generalize lowTest v { s with power := { s.power with reading := some v } } = u at levels slots read
    have level : u.ports.con.level .batteryCutoff ≠ .off := by rwa [PortState.level_congr levels]
    have left := cutoffSequence_leaves (v := v) slots level
    generalize cutoffSequence v u = t at left
    obtain ⟨grace, reading, seq, ⟨rest, stream⟩, meas, alert⟩ := left
    exact ⟨grace, reading.trans read, seq, rest, meas, stream, alert⟩

end Sys2Proof.Machine
end

section
/-! PROOFS. The memory controller: refreshes, read bursts and their cut, the order of grants (O53). -/

namespace Sys2Proof.Machine

/-! ## Groups of halfwords (R87, R92) -/

theorem bankOf_group (g : Nat) : bankOf (4 * g) = g / 64 % 4 := by
  unfold bankOf
  omega

theorem rowOf_group (b g : Nat) : rowOf b (4 * g) = 16 * b + g / 256 := by
  unfold rowOf
  omega

theorem placeHalf_add (b p i : Nat) : placeHalf b (p + i) = placeHalf b p + 2 * i := by
  unfold placeHalf
  omega

/-- A whole group's halfwords are the words of its four places. -/
theorem pairHalves_groupHalves (m : Memory) (b g : Nat) :
    pairHalves (groupHalves m b g 0) = (List.range 4).map fun i => readWord m b (4 * g + i) := by
  simp [groupHalves, List.range, List.range.loop, pairHalves, readWord, placeHalf_add]

theorem openBank_group (b g : Nat) (banks : List Bank) :
    openBank b (4 * g) banks = banks.set (g / 64 % 4) (.opened (16 * b + g / 256)) := by
  rw [openBank, bankOf_group, rowOf_group]

/-! ## The end of a read burst -/

section
variable {s u : State} {b : ReadBurst}

/-- The words a whole fresh group brings its requester, and whether they are the block's last. -/
theorem deliver_words (fresh : b.halves = []) (data : b.data = groupHalves s.store.mem b.block b.group 0)
    (long : 4 * b.group + 4 ≤ b.len) (place : u.readPlace b.req b.slot = 4 * b.group) :
    ((pairHalves (b.halves ++ b.data)).take (b.len - 4 * b.group)).drop (u.readPlace b.req b.slot - 4 * b.group) =
      (List.range 4).map (fun i => readWord s.store.mem b.block (4 * b.group + i)) ∧
    decide (b.len ≤ 4 * b.group + 4) = decide (b.len = 4 * b.group + 4) := by
  rw [fresh, List.nil_append, data, pairHalves_groupHalves, place, Nat.sub_self, List.drop_zero]
  exact ⟨List.take_of_length_le (by simp; omega), decide_eq_decide.mpr (by omega)⟩

theorem readBurstEnd_ends (locked : s.power.pll = .locked) (flight : s.mc.flight = some (.read b)) :
    exec .readBurstEnd s = .next (conclude s (endRead b s)) := by
  refine congrArg Host.Outcome.next ((if_pos locked).trans ?_)
  simp only [readBurst, flight]

end

/-! ## Grants (R93, R95, R98) -/

section
variable {s : State}

theorem writerWants_false (h : ∀ q, s.wants q = false) : s.writerWants = false := by
  have writer := h .writer
  simp only [State.wants, Bool.or_eq_false_iff] at writer
  exact writer.2

theorem grantPoint_busy (fuel : Nat) (h : s.mc.flight.isSome = true) : grantPoint fuel s = s := by
  cases fuel with
  | zero => rfl
  | succ fuel => simp only [grantPoint, if_pos h]

theorem arbitrate_serving (st : s.mc.st = .serving) (idle : s.mc.flight = none) : arbitrate s =
    if 8 ≤ s.mc.debt then startRefresh s
    else if s.urgent && s.writerWants then grantWriter s
    else
      match (circleAfter s.mc.last).find? fun q => s.wants q with
      | some q => grantPoint 7 (grant q s)
      | none => if 1 ≤ s.mc.debt then startRefresh s else s := by
  simp only [arbitrate, st, grantPoint, idle, Option.isSome_none, Bool.false_eq_true, if_false] <;> rfl

theorem grantRead_last (q : Requester) (s : State) : (grantRead q s).mc.last = q := by
  unfold grantRead
  dsimp only
  rw [apply_ite State.mc, apply_ite MemCtl.last]
  simp [startRead]

theorem grant_last (q : Requester) (s : State) : (grant q s).mc.last = q := by
  by_cases writer : q = .writer
  · subst writer
    rfl
  · rw [grant, if_neg writer, grantRead_last]

/-- A remainder that its segment still holds is the next burst of its requester (R95, R100). -/
theorem grant_remainder {q : Requester} {r : Remainder} (hq : q = .decoder ∨ q = .console ∨ q = .tether)
    (rem : s.remainder q = some r) (held : (s.seg r.seg).trimmed ≤ r.pos) : grant q s = { s with mc := { s.mc with
      last := q
      banks := touchBank ((s.seg r.seg).blockAt r.pos) (4 * r.group) s.mc.banks
      remainders := s.mc.remainders.filter (·.req ≠ q)
      flight := some (.read ⟨r.req, r.slot, r.seg, r.pos, (s.seg r.seg).blockAt r.pos, r.group, r.len, r.tail, r.halves,
        groupHalves s.store.mem ((s.seg r.seg).blockAt r.pos) r.group r.halves.length, false, false, 0⟩) } } := by
  have reader : q ≠ .writer := by rcases hq with rfl | rfl | rfl <;> decide
  have placed : locate q s = s := by rcases hq with rfl | rfl | rfl <;> rfl
  have next : s.pendingRead q = r := by simp only [State.pendingRead, rem]
  have stale : (s.remainder q).isNone = false := by rw [rem]; rfl
  rw [grant, if_neg reader, grantRead, placed]
  simp only [next, stale, Bool.false_eq_true, and_false, if_false]
  exact if_neg (Nat.not_lt.mpr held)

theorem groupHalves_length (m : Memory) (b g k : Nat) : (groupHalves m b g k).length = 8 - k := by simp [groupHalves]

theorem groupHalves_getElem? (m : Memory) (b g k : Nat) {i : Nat} (h : i < 8 - k) :
    (groupHalves m b g k)[i]? = some (readHalf m (32768 * b + 8 * g + k + i)) := by
  have place : placeHalf b (4 * g) = 32768 * b + 8 * g := by
    unfold placeHalf
    omega
  simp [groupHalves, place, h]

/-! ## The cut (R99, R100) -/

theorem cutRead_complete {b : ReadBurst} (flight : s.mc.flight = some (.read b)) (moving : b.transferring = true)
    (last : b.data.length ≤ b.delivered + 1) : cutRead s = endRead b s := by
  have count : b.cutCount = b.delivered + 1 := if_pos moving
  simp only [cutRead, flight]
  exact if_pos ⟨moving, by rw [count]; exact last⟩

theorem cutRead_partial {b : ReadBurst} (flight : s.mc.flight = some (.read b))
    (h : b.transferring = false ∨ b.delivered + 1 < b.data.length) : cutRead s = { s with mc := { s.mc with
      flight := none
      banks := s.mc.banks.set (bankOf (4 * b.group)) (s.mc.banks.getD (bankOf (4 * b.group)) .idle).cut
      remainders := s.mc.remainders ++ b.remainder } } := by
  simp only [cutRead, flight]
  refine if_neg fun ⟨moving, last⟩ => ?_
  have count : b.cutCount = b.delivered + 1 := if_pos moving
  rw [count] at last
  rcases h with h | h
  · simp [moving] at h
  · omega

/-- The halfwords a cut leaves with the remainder. -/
theorem remainder_eq (b : ReadBurst) : b.remainder = if b.discard then [] else
    [⟨b.req, b.slot, b.seg, b.pos, b.group, b.len, b.tail,
      b.halves ++ (if b.transferring then b.data.take (b.delivered + 1) else [])⟩] := by
  have kept : b.data.take b.cutCount = if b.transferring then b.data.take (b.delivered + 1) else [] := by
    unfold ReadBurst.cutCount
    split
    · rfl
    · rfl
  rw [ReadBurst.remainder, kept]

theorem progress_read {b : ReadBurst} (flight : s.mc.flight = some (.read b)) : ∃ (banks : List Bank) (k : Nat),
    progress s = { s with free := s.free + 1, mc :=
      { s.mc with banks := banks, flight := some (.read (b.onward k)) } } := by
  simp only [progress, flight]
  exact ⟨_, _, rfl⟩

theorem progress_leaves (s : State) : (progress s).comp = s.comp ∧ (progress s).mc.st = s.mc.st ∧
    (progress s).power = s.power := by
  unfold progress
  dsimp only
  split
  · exact ⟨rfl, rfl, rfl⟩
  · exact ⟨rfl, rfl, rfl⟩
  · exact ⟨rfl, rfl, rfl⟩
  · split <;> exact ⟨rfl, rfl, rfl⟩

theorem entry_steps_idle (h : s.power.st ≠ .entry) : entryPanel (entryFrame s) = s := by
  have first : entryFrame s = s := if_neg fun ⟨st, _⟩ => h st
  rw [first]
  exact if_neg fun ⟨st, _⟩ => h st

theorem cutIfUrgent_becomes {before : State} (calm : before.urgent = false) (urgent : s.urgent = true)
    (st : s.mc.st = .serving) : cutIfUrgent before s = cutRead s := if_pos ⟨calm, urgent, st⟩

end

/-- Settles O53: refreshes, read bursts, grants and cuts, each by the case of the controller it starts from. -/
theorem controllerEvents : Obligations.ControllerEvents := by
  refine ⟨fun s locked => ⟨fun st => ?due, fun serving entering => ?undue, fun flight => ?refreshed⟩,
    fun s u b recs locked flight hu => ?read, fun order i q horder hi => ?circle, fun s st idle => ?arbiter,
    fun s b i kept flight hi hkept => ?cut, fun s b flight h => ?onward,
      fun before s calm urgent st run locked block => ?urgent,
    fun s q r b hq rem held hb => ?remainder, fun s => ⟨fun st idle => ?entering, fun h => ?still⟩⟩
  case due =>
    exact congrArg Host.Outcome.next ((if_pos locked).trans (congrArg (conclude s) (if_pos st)))
  case undue =>
    exact congrArg Host.Outcome.next ((if_pos locked).trans
      (congrArg (conclude s) (if_neg fun st => st.elim serving entering)))
  case refreshed =>
    refine congrArg Host.Outcome.next ((if_pos locked).trans (congrArg (conclude s) ?_))
    simp only [refreshEnd, flight]
    rfl
  case read =>
    have ends : exec .readBurstEnd s = .next (conclude s (deliver b u)) := by
      rw [readBurstEnd_ends locked flight, hu, ← openBank_group]
      rfl
    refine ⟨fun unwanted => ends.trans (congrArg (fun t => Host.Outcome.next (conclude s t)) (if_pos unwanted)),
      fun wanted fresh data long place hrecs => ?_⟩
    have place : u.readPlace b.req b.slot = 4 * b.group := by rw [hu]; exact place
    obtain ⟨words, full⟩ := deliver_words (s := s) fresh data long place
    have brought := ends.trans (congrArg (fun t => Host.Outcome.next (conclude s t)) (if_neg (by simp [wanted])))
    have named : ∀ f : Word → Record, recs =
      (List.range 4).map (fun i => f (readWord s.store.mem b.block (4 * b.group + i))) →
        ((List.range 4).map fun i => readWord s.store.mem b.block (4 * b.group + i)).map f = recs := by
      intro f h
      rw [h, List.map_map]
      rfl
    have named := named _ hrecs
    simp only [words, full] at brought
    refine ⟨fun req => ?_, fun req => ?_, fun req => ?_, fun p req => ?_⟩
    · rw [req, named] at brought
      exact brought
    · rw [req, named] at brought
      exact brought
    · rw [req, named] at brought
      exact brought
    · rw [req] at brought
      cases p <;> exact brought
  case circle =>
    subst horder
    match i, hi with
    | 0, hi | 1, hi | 2, hi | 3, hi | 4, hi | 5, hi => cases hi; rfl
  case arbiter =>
    have run := arbitrate_serving st idle
    refine ⟨fun owed => run.trans (if_pos owed), fun owed level wants => ?_,
      fun owed unwanted => ⟨fun debt => ?_, fun zero => ?_⟩,
      fun pre q post owed level circle others wants busy => ⟨?_, grant_last q s⟩⟩
    · have urgent : s.urgent = true := decide_eq_true level
      exact run.trans ((if_neg (by omega)).trans (if_pos (by rw [urgent, wants]; rfl)))
    · have nobody : (circleAfter s.mc.last).find? (fun q => s.wants q) = none := by simp [unwanted]
      rw [run, if_neg (by omega), writerWants_false unwanted, nobody]
      simp only [Bool.and_false, Bool.false_eq_true, if_false, if_pos debt]
    · have nobody : (circleAfter s.mc.last).find? (fun q => s.wants q) = none := by simp [unwanted]
      rw [run, if_neg (by omega), writerWants_false unwanted, nobody]
      simp only [Bool.and_false, Bool.false_eq_true, if_false, if_neg (show ¬ 1 ≤ s.mc.debt by omega)]
    · have calm : s.urgent = false := decide_eq_false (Nat.not_le.mpr level)
      have first : (circleAfter s.mc.last).find? (fun q => s.wants q) = some q := by
        rw [circle, List.find?_append, List.find?_eq_none.mpr fun x hx => by simp [others x hx], List.find?_cons, wants]
        rfl
      rw [run, if_neg (by omega), calm, first]
      exact grantPoint_busy 7 busy
  case cut =>
    subst hi hkept
    refine ⟨cutRead_complete flight, fun h => ⟨(s.mc.banks.getD (bankOf (4 * b.group)) .idle).cut, ?_, fun row h => ?_,
      fun h => ?_⟩⟩
    · rw [cutRead_partial flight h, remainder_eq, bankOf_group]
    · rw [bankOf_group]
      rcases h with h | h <;> rw [h] <;> rfl
    · rw [bankOf_group]
      rcases h with h | h <;> rw [h] <;> rfl
  case onward =>
    obtain ⟨banks, k, e⟩ := progress_read flight
    refine ⟨banks, (b.onward k).transferring, (b.onward k).delivered, e, ?_, ?_, fun moving => ?_⟩
    · simp only [ReadBurst.onward]
      omega
    · simp only [ReadBurst.onward]
      omega
    · simp [ReadBurst.onward, moving]
  case urgent =>
    obtain ⟨comp, ctl, power⟩ := progress_leaves s
    have becomes := cutIfUrgent_becomes (s := progress s) calm (by rw [State.urgent, comp]; exact decide_eq_true urgent)
      (by rw [ctl]; exact st)
    have clock : (cutRead (progress s)).power.pll = .locked := by
      have same : (cutRead (progress s)).power.pll = s.power.pll := by simp
      rw [same, locked]
    rw [conclude, entry_steps_idle run, serveWriter_idle (block.imp_right .inl), becomes]
    exact congrArg finishMeasure (if_pos clock)
  case remainder =>
    subst hb
    refine ⟨_, _, grant_remainder hq rem held, groupHalves_length .., fun i hi => ?_⟩
    exact groupHalves_getElem? _ _ _ _ (by rwa [groupHalves_length] at hi)
  case entering =>
    have run : arbitrate s = if s.mc.flight.isNone ∧ 1 ≤ s.mc.debt then startRefresh s else s := by
      simp only [arbitrate, st]
    exact ⟨fun owed => run.trans (if_pos ⟨by simp [idle], owed⟩), fun zero => run.trans (if_neg (by omega))⟩
  case still =>
    rcases h with flying | st | st | st
    · obtain ⟨x, flight⟩ := Option.ne_none_iff_exists'.mp flying
      unfold arbitrate
      split
      · exact grantPoint_busy 8 (by simp [flight])
      · exact if_neg (by simp [flight])
      · rfl
      · rfl
      · rfl
    all_goals simp only [arbitrate, st]

end Sys2Proof.Machine
end

section
/-! PROOFS. The writer's bursts, the seal and the re-arm, the writer's block request and the reserve test (O52). -/

namespace Sys2Proof.Machine

/-! ## Words written in a row (R29, R87) -/

/-- Each of the words written in a row reads back from its place. -/
theorem readWord_writeWords {m : Memory} {b p : Nat} {ws : List Word} (hw : m.wf = true) (fits : p + ws.length ≤ 16384)
    {i : Nat} {w : Word} (h : ws[i]? = some w) : readWord (writeWords m b p ws) b (p + i) = w := by
  induction ws generalizing m p i with
  | nil => simp at h
  | cons v ws ih =>
    simp only [List.length_cons] at fits
    cases i with
    | zero =>
      obtain rfl : v = w := by simpa using h
      have later : readWord (writeWords (writeWord m b p v) b (p + 1) ws) b p = readWord (writeWord m b p v) b p := by
        unfold readWord readHalf placeHalf
        rw [Memory.read_writeWords_outside (by omega), Memory.read_writeWords_outside (by omega),
          Memory.read_writeWords_outside (by omega), Memory.read_writeWords_outside (by omega)]
      show readWord (writeWords (writeWord m b p v) b (p + 1) ws) b p = v
      rw [later, readWord_writeWord hw (by omega) (by omega), if_pos ⟨rfl, rfl⟩]
    | succ i =>
      rw [writeWords, show p + (i + 1) = p + 1 + i by omega]
      exact ih (writeWord_wf b p v hw) (by omega) (by simpa using h)

/-! ## The group written (R29) -/

section
variable {s : State} {n m : Nat}

/-- What stands in the SDRAM after a burst of `n` records: the group so far, the records, the rest of the group. -/
def State.groupWords (n : Nat) (s : State) : List Word :=
  (s.writer.group ++ s.comp.staging.take n).map Record.word ++
    meaningless s.free (4 - (s.writer.group ++ s.comp.staging.take n).length)

theorem groupWords_length (enough : n ≤ s.comp.staging.length) (fits : s.writer.group.length + n ≤ 4) :
    (s.groupWords n).length = 4 := by
  simp [State.groupWords, meaningless_length]
  omega

theorem groupWords_old {i : Nat} {r : Record} (h : s.writer.group[i]? = some r) : (s.groupWords n)[i]? =
    some r.word := by
  obtain ⟨hi, rfl⟩ := List.getElem?_eq_some_iff.mp h
  simp [State.groupWords, List.getElem?_append, hi]

theorem groupWords_new {i : Nat} {r : Record} (hi : i < n) (h : s.comp.staging[i]? = some r) :
    (s.groupWords n)[s.writer.group.length + i]? = some r.word := by
  obtain ⟨inside, rfl⟩ := List.getElem?_eq_some_iff.mp h
  have words : (s.writer.group ++ s.comp.staging.take n)[s.writer.group.length + i]? = some s.comp.staging[i] := by
    rw [List.getElem?_append_right (Nat.le_add_right ..), Nat.add_sub_cancel_left, List.getElem?_take_of_lt hi, h]
  obtain ⟨here, _⟩ := List.getElem?_eq_some_iff.mp words
  rw [State.groupWords, List.getElem?_append_left (by rw [List.length_map]; exact here), List.getElem?_map, words]
  rfl

/-- What a group written changes: the writer, the staging queue, the SDRAM, the block's count and the segment's entry.
-/
theorem writeGroup_leaves (enough : n ≤ s.comp.staging.length) (seg : s.writer.seg = some m) :
    (writeGroup n s).comp.staging = s.comp.staging.drop n ∧
    (writeGroup n s).writer.written = s.writer.written + n ∧
    (writeGroup n s).writer.time = s.writer.time + ((s.comp.staging.take n).map Record.delta).sum ∧
    (writeGroup n s).store.mem = writeWords s.store.mem s.writer.block (s.writer.written - s.writer.group.length)
      (s.groupWords n) ∧
    (writeGroup n s).store.blocks =
      s.store.blocks.set s.writer.block { s.store.block s.writer.block with used := s.writer.written + n } ∧
    (writeGroup n s).store.segs = s.store.segs.set m { s.seg m with
      stop := s.writer.time + ((s.comp.staging.take n).map Record.delta).sum, burstChain :=
        (s.seg m).chain.length } := by
  have count : (s.comp.staging.take n).length = n := List.length_take_of_le enough
  rw [← follow_time]
  simp only [writeGroup, seg, count]
  exact ⟨rfl, rfl, rfl, rfl, rfl, rfl⟩

end

/-! ## The seal (R32, R56, R72) -/

/-- The entry of segment `n` once sealed. -/
def State.sealedEntry (n t : Nat) (reason : SealReason) (s : State) : Segment :=
  { s.seg n with state := .sealed, reason := some reason, stop := t, order := satSucc 4294967295 s.store.sealCounter }

/-- The state with segment `n` sealed, before what follows the seal. -/
def State.withSeal (n t : Nat) (reason : SealReason) (s : State) : State :=
  let u := raiseBoth .sealed n (sealEntry n t reason { s with writer := { s.writer with seg := none, group := [] } })
  { u with seq := { u.seq with stopTick := none, reason := none } }

section
variable {s : State} {n t : Nat} {reason : SealReason}

theorem withSeal_leaves (n t : Nat) (reason : SealReason) (s : State) :
    (s.withSeal n t reason).seq = { s.seq with stopTick := none, reason := none } ∧
    (s.withSeal n t reason).fe = s.fe ∧ (s.withSeal n t reason).writer.seg = none ∧
    (s.withSeal n t reason).comp = s.comp ∧
    (s.withSeal n t reason).store = { s.store with
      sealCounter := satSucc 4294967295 s.store.sealCounter
      segs := s.store.segs.set n (s.sealedEntry n t reason) } ∧
    (s.withSeal n t reason).ports.claim = s.ports.claim ∧
    (s.withSeal n t reason).ports.con.levels = s.ports.con.levels := by
  unfold State.withSeal
  refine ⟨by simp [sealEntry], by simp [sealEntry], by simp [sealEntry], by simp [sealEntry], ?_, by simp [sealEntry],
    by simp [sealEntry]⟩
  simp [sealEntry, State.sealedEntry]
  rfl

/-- A sequence goes on after this seal (R56, R57). -/
def State.goesOn (reason : SealReason) (s : State) : Prop :=
  reason = .complete ∧ s.seq.seqEnd = false ∧ s.seq.taken < s.seq.params.sequence ∧ s.fe.tick < Config.tickLimit

theorem sealSegment_ends (seg : s.seq.seg = some n) (stop : s.seq.stopTick = some t) (why : s.seq.reason = some reason)
    (h : ¬ s.goesOn reason) : sealSegment s = endSequence (s.withSeal n t reason) := by
  simp only [sealSegment, seg, stop, why]
  exact if_neg fun goes => h (by simpa [sealEntry, State.goesOn] using goes)

theorem sealSegment_rearms (seg : s.seq.seg = some n) (stop : s.seq.stopTick = some t)
    (why : s.seq.reason = some reason)
    (h : s.goesOn reason) : sealSegment s = rearm (s.withSeal n t reason) := by
  simp only [sealSegment, seg, stop, why]
  exact if_pos (by simpa [sealEntry, State.goesOn] using h)

theorem endSequence_seq (s : State) : (endSequence s).seq = { s.seq with acq := .idle, seg := none } := by
  simp [endSequence]

/-- The seal gives no entry back, so the lowest EMPTY one stays. -/
theorem bestSegment_set {ok : Segment → Bool} {better : Segment → Segment → Bool} {l : List Segment} {i : Nat}
    {e x : Segment} (h : l[i]? = some e) (before : ok e = false) (after : ok x = false) (n : Nat) :
    bestSegment ok better (l.set i x) n = bestSegment ok better l n := by
  induction l generalizing i n with
  | nil => rfl
  | cons a r ih =>
    cases i with
    | zero =>
      obtain rfl : a = e := by simpa using h
      simp [bestSegment, before, after]
    | succ i => simp only [List.set_cons_succ, bestSegment, ih (by simpa using h)]

end

/-- The seal and the write before it leave the lowest EMPTY entry. -/
theorem lowestEmpty_set {s u : State} {m : Nat} {x : Segment} (segs : u.store.segs = s.store.segs.set m x)
    (inside : m < s.store.segs.length) (before : (s.seg m).state ≠ .empty) (after : x.state ≠ .empty) :
    u.lowestEmpty = s.lowestEmpty := by
  have own : s.store.segs[m]? = some (s.seg m) := by
    simp [State.seg, List.getD_eq_getElem?_getD, List.getElem?_eq_getElem inside]
  rw [State.lowestEmpty, segs, bestSegment_set own (by simpa using before) (by simpa using after)]
  rfl

theorem lowestEmpty_some {s : State} {k : Nat} (h : s.lowestEmpty = some k) :
    k < s.store.segs.length ∧ (s.seg k).state = .empty := by
  obtain ⟨⟨j, e⟩, best, hj⟩ := Option.map_eq_some_iff.mp h
  obtain rfl : j = k := hj
  obtain ⟨i, hi, at', empty, _⟩ := bestSegment_some ⟨by simp, by simp⟩ best
  obtain rfl : j = i := by omega
  rw [seg_of_getElem? at']
  exact ⟨(List.getElem?_eq_some_iff.mp at').1, by simpa using empty⟩

/-! ## The re-arm (R57, R58) -/

section
variable {s : State}

theorem hasRoom_unreclaimed (off : s.seq.params.reclaim ≠ .on) : s.hasRoom = true ↔
    ∃ k b c rest, s.lowestEmpty = some k ∧ s.store.freeList = b :: c :: rest := by
  have quiet : s.seq.params.reclaims = false := by
    rw [← Bool.not_eq_true, reclaims_iff]
    exact off
  simp only [State.hasRoom, quiet, Store.freeCount, Bool.false_and, Bool.or_false, Bool.false_eq_true, if_false,
    Nat.add_zero,
    Bool.and_eq_true, decide_eq_true_eq, Option.isSome_iff_exists]
  constructor
  · rintro ⟨⟨k, entry⟩, two⟩
    match list : s.store.freeList with
    | [] => simp [list] at two
    | [b] => simp [list] at two
    | b :: c :: rest => exact ⟨k, b, c, rest, entry, rfl⟩
  · rintro ⟨k, b, c, rest, entry, list⟩
    exact ⟨⟨k, entry⟩, by simp [list]⟩

theorem rearm_room (off : s.seq.params.reclaim ≠ .on) (room : s.hasRoom = true) :
    rearm s = armSegment s.ports.claim (s.seq.taken + 1) s.fe.tick s := by
  have quiet : ¬ s.seq.params.reclaims = true := by rwa [reclaims_iff]
  rw [rearm, if_pos room]
  simp only [if_neg quiet]

theorem rearm_full (room : ¬ s.hasRoom = true) :
    rearm s = raiseBoth .storeLow s.store.freeList.length (endSequence s) := if_neg room

/-! ## The reserve test (R71) -/

theorem reserveTest_short {n : Nat} (atTrigger : Bool) (seg : s.seq.seg = some n) (short : s.freePlaces n < 1032)
    (dry : s.store.freeList = []) : reserveTest atTrigger s =
      match (if s.seq.params.reclaims then s.oldestEligible else none) with
      | some m => freeSegment m s
      | none => if atTrigger then storeLowTest (trimSegment n s) else stopNow .storeFull s := by
  have reserve : ¬ (Config.reservePlaces ≤ s.freePlaces n ∨ s.store.freeList ≠ []) := by
    rintro (enough | some')
    · have : 1032 ≤ s.freePlaces n := enough
      omega
    · exact some' dry
  simp only [reserveTest, seg]
  exact if_neg reserve

theorem reserveTest_reclaims {n m : Nat} (atTrigger : Bool) (seg : s.seq.seg = some n) (short : s.freePlaces n < 1032)
    (dry : s.store.freeList = []) (on : s.seq.params.reclaim = .on) (oldest : s.oldestEligible = some m) :
    reserveTest atTrigger s = freeSegment m s := by
  have reclaims : s.seq.params.reclaims = true := reclaims_iff.mpr on
  simp only [reserveTest_short atTrigger seg short dry, reclaims, if_true, oldest]

theorem reserveTest_unreclaimed {n : Nat} (atTrigger : Bool) (seg : s.seq.seg = some n) (short : s.freePlaces n < 1032)
    (dry : s.store.freeList = []) (h : s.seq.params.reclaim ≠ .on ∨ s.oldestEligible = none) :
    reserveTest atTrigger s = if atTrigger then storeLowTest (trimSegment n s) else stopNow .storeFull s := by
  have nothing : (if s.seq.params.reclaims = true then s.oldestEligible else none) = none := by
    rcases h with off | empty
    · exact if_neg (by rwa [reclaims_iff])
    · rw [empty]
      split <;> rfl
  simp only [reserveTest_short atTrigger seg short dry, nothing]

theorem stopNow_sampling {reason : SealReason} (sampling : s.seq.acq.sampling = true) : (stopNow reason s).seq =
    { s.seq with acq := .draining, seqEnd := true, stopTick := some (s.fe.tick + 1), reason := some reason } := by
  have live : s.seq.acq ≠ .idle := fun idle => by simp [idle, AcqState.sampling] at sampling
  rw [stopNow, stopCondition, if_neg live]
  exact (congrArg State.seq (if_pos sampling)).trans (stopSegment_seq ..)

theorem freePlaces_last {n b : Nat} (last : (s.seg n).chain.getLast? = some b) :
    s.freePlaces n = 16384 - (s.store.block b).used := by
  simp only [State.freePlaces, last]
  rfl

/-! ## The block request (R30, R68 to R70) -/

theorem trimSegment_long {n b c : Nat} {r : List Nat} (chain : (s.seg n).chain = b :: c :: r) : trimSegment n s =
    { s with store := { s.store with
        freeList := s.store.freeList ++ [b]
        segs := s.store.segs.set n { s.seg n with
          chain := c :: r, trimmed := (s.seg n).trimmed + 1, start := (s.store.block c).base } } } := by
  simp only [trimSegment, chain]

/-- The free-list head taken as the next block of a chain: what of the store changes. -/
theorem takeBlock_head {n base x : Nat} {free : List Nat} (inside : n < s.store.segs.length)
    (list : s.store.freeList = x :: free) : ∃ u, takeBlock n base s = (u, some x) ∧ u = { s with store := u.store } ∧
      u.store.freeList = free ∧ (∀ j, j ≠ n → u.seg j = s.seg j) ∧
      u.seg n = { s.seg n with chain := (s.seg n).chain ++ [x] } ∧
      (x < s.store.blocks.length → u.store.block x = { next := none, base := base, used := 0 }) ∧
      u.store.mem = s.store.mem := by
  simp only [takeBlock, list]
  refine ⟨_, rfl, rfl, rfl, fun j other => getD_set_ne _ _ _ other, getD_set_self _ _ _ _ inside, fun hx => ?_, rfl⟩
  refine getD_set_self _ _ _ _ ?_
  split
  · rwa [List.length_set]
  · exact hx

theorem takeBlock_none {n base : Nat} (list : s.store.freeList = []) : takeBlock n base s = (s, none) := by
  simp only [takeBlock, list]

theorem requestBlock_keeps {n base : Nat}
    (h : (s.seg n).trigger ≠ none ∨ ((s.seg n).chain.length ≤ s.seq.params.bPre ∧
      (s.store.freeList ≠ [] ∨ (s.seg n).chain.length ≤ 1))) :
    requestBlock n base s = (storeLowTest (takeBlock n base s).1, (takeBlock n base s).2) := by
  have still : ¬ ((s.seg n).trigger = none ∧ (s.seq.params.bPre + 1 ≤ (s.seg n).chain.length ∨
      (s.store.freeList = [] ∧ 2 ≤ (s.seg n).chain.length))) := by
    rintro ⟨untriggered, full | ⟨empty, long⟩⟩
    · rcases h with taken | ⟨room, _⟩
      · exact taken untriggered
      · omega
    · rcases h with taken | ⟨_, free | short⟩
      · exact taken untriggered
      · exact free empty
      · omega
  rw [requestBlock]
  simp only [if_neg still]

theorem requestBlock_trims {n base : Nat} (untriggered : (s.seg n).trigger = none)
    (h : s.seq.params.bPre + 1 ≤ (s.seg n).chain.length ∨ (s.store.freeList = [] ∧ 2 ≤ (s.seg n).chain.length)) :
    requestBlock n base s = (storeLowTest (takeBlock n base (trimSegment n s)).1,
      (takeBlock n base (trimSegment n s)).2) := by
  rw [requestBlock]
  simp only [if_pos (And.intro untriggered h)]

end

/-- The free-list head the trimmed block joins is the answer, and the entry moves on by a block (R69). -/
theorem requestBlock_moves {s : State} {n base b c x : Nat} {r free : List Nat} (inside : n < s.store.segs.length)
    (chain : (s.seg n).chain = b :: c :: r) (untriggered : (s.seg n).trigger = none)
    (h : s.seq.params.bPre + 1 ≤ (s.seg n).chain.length ∨ s.store.freeList = [])
    (list : s.store.freeList ++ [b] = x :: free) :
    ∃ u, requestBlock n base s = (storeLowTest u, some x) ∧ u = { s with store := u.store } ∧
      u.store.freeList = free ∧ (∀ j, j ≠ n → u.seg j = s.seg j) ∧
      u.seg n = { s.seg n with
        chain := (c :: r) ++ [x], trimmed := (s.seg n).trimmed + 1, start := (s.store.block c).base } ∧
      (x < s.store.blocks.length → u.store.block x = { next := none, base := base, used := 0 }) ∧
      u.store.mem = s.store.mem := by
  have long : 2 ≤ (s.seg n).chain.length := by simp [chain]
  have trimmed := trimSegment_long chain
  have own : (trimSegment n s).seg n = { s.seg n with
      chain := c :: r, trimmed := (s.seg n).trimmed + 1, start := (s.store.block c).base } := by
    rw [trimmed]
    exact getD_set_self _ _ _ _ inside
  have others : ∀ j, j ≠ n → (trimSegment n s).seg j = s.seg j := by
    rw [trimmed]
    exact fun j other => getD_set_ne _ _ _ other
  have fields : (trimSegment n s).store.freeList = x :: free ∧ (trimSegment n s).store.blocks = s.store.blocks ∧
      (trimSegment n s).store.mem = s.store.mem ∧ (trimSegment n s).store.segs.length = s.store.segs.length ∧
      ∀ st, { trimSegment n s with store := st } = { s with store := st } := by
    rw [trimmed]
    exact ⟨list, rfl, rfl, List.length_set .., fun _ => rfl⟩
  obtain ⟨listT, blocks, mem, count, rest⟩ := fields
  obtain ⟨u, take, same, free', segs, seg, block, memU⟩ := takeBlock_head
    (base := base) (by rw [count]; exact inside) listT
  refine ⟨u, ?_, same.trans (rest _), free', fun j other => (segs j other).trans (others j other), ?_, ?_,
    memU.trans mem⟩
  · rw [requestBlock_trims untriggered (h.imp_right fun empty => ⟨empty, long⟩), take]
  · rw [seg, own]
  · rwa [blocks] at block

/-! ## The end of a writer burst -/

section
variable {s : State} {n m : Nat}

/-- The state once a burst of `n` records is written, before what follows it. -/
def State.burstWritten (n : Nat) (s : State) : State :=
  writeGroup n { s with mc :=
    { s.mc with flight := none, banks := openBank s.writer.block s.writer.written s.mc.banks } }

theorem writerBurstEnd_ends (locked : s.power.pll = .locked) (flight : s.mc.flight = some (.write n)) :
    exec .writerBurstEnd s = .next (conclude s (endWrite n s)) := by
  refine congrArg Host.Outcome.next ((if_pos locked).trans ?_)
  simp only [writerBurst, flight]

theorem endWrite_eq (n : Nat) (s : State) : endWrite n s =
    if (s.comp.staging.take n).any Record.isEnd then sealSegment (s.burstWritten n)
    else if (s.burstWritten n).seq.acq = .postfill then reserveTest false (s.burstWritten n)
    else s.burstWritten n := rfl

theorem any_isEnd_false (h : ∀ r ∈ s.comp.staging.take n, r.isEnd = false) :
    ¬ (s.comp.staging.take n).any Record.isEnd = true := by
  simpa using h

theorem endWrite_sealing (h : ∃ r ∈ s.comp.staging.take n, r.isEnd = true) :
    endWrite n s = sealSegment (s.burstWritten n) := by
  rw [endWrite_eq, if_pos (List.any_eq_true.mpr h)]

theorem burstWritten_leaves (n : Nat) (s : State) :
    (s.burstWritten n).mc.flight = none ∧ (s.burstWritten n).seq = s.seq ∧ (s.burstWritten n).fe = s.fe ∧
    (s.burstWritten n).ports = s.ports ∧ (s.burstWritten n).store.freeList = s.store.freeList ∧
    (s.burstWritten n).store.sealCounter = s.store.sealCounter := by
  simp [State.burstWritten]

/-- The end of the burst leaves the words written in the SDRAM, and nothing in flight. -/
theorem endWrite_mem (n : Nat) (s : State) : (endWrite n s).store.mem = (s.burstWritten n).store.mem ∧
    (endWrite n s).mc.flight = none := by
  obtain ⟨flight, _⟩ := burstWritten_leaves n s
  rw [endWrite_eq]
  split
  · simp [flight]
  · split <;> simp [flight]

end

/-- The seal of the segment whose END a burst wrote, by its entry before the burst. -/
theorem withSeal_written {s : State} {n m e : Nat} {reason : SealReason} (enough : n ≤ s.comp.staging.length)
    (writer : s.writer.seg = some m) (inside : m < s.store.segs.length) :
    ((s.burstWritten n).withSeal m e reason).seg m = { s.seg m with
      state := .sealed, reason := some reason, stop := e, burstChain := (s.seg m).chain.length
      order := satSucc 4294967295 s.store.sealCounter } ∧
    (∀ j, j ≠ m → ((s.burstWritten n).withSeal m e reason).seg j = s.seg j) ∧
    ((s.burstWritten n).withSeal m e reason).store.segs.length = s.store.segs.length ∧
    ((s.seg m).state = .filling →
      ((s.burstWritten n).withSeal m e reason).lowestEmpty = s.lowestEmpty) := by
  obtain ⟨_, _, _, _, _, segs⟩ := writeGroup_leaves (s := { s with mc := { s.mc with
    flight := none, banks := openBank s.writer.block s.writer.written s.mc.banks } }) enough writer
  obtain ⟨_, _, _, _, store, _, _⟩ := withSeal_leaves m e reason (s.burstWritten n)
  obtain ⟨_, _, _, _, _, counter⟩ := burstWritten_leaves n s
  have own : (s.burstWritten n).seg m = { s.seg m with
      stop := s.writer.time + ((s.comp.staging.take n).map Record.delta).sum, burstChain :=
        (s.seg m).chain.length } := by
    unfold State.seg State.burstWritten
    rw [segs]
    exact getD_set_self _ _ _ _ inside
  have all : ((s.burstWritten n).withSeal m e reason).store.segs = s.store.segs.set m { s.seg m with
      state := .sealed, reason := some reason, stop := e, burstChain := (s.seg m).chain.length
      order := satSucc 4294967295 s.store.sealCounter } := by
    rw [store]
    show (s.burstWritten n).store.segs.set m ((s.burstWritten n).sealedEntry m e reason) = _
    rw [State.sealedEntry, own, counter, State.burstWritten, segs, List.set_set]
  refine ⟨?_, fun j other => ?_, by rw [all, List.length_set], fun filling => ?_⟩
  · unfold State.seg
    rw [all]
    exact getD_set_self _ _ _ _ inside
  · unfold State.seg
    rw [all]
    exact getD_set_ne _ _ _ other
  · exact lowestEmpty_set all inside (by simp [filling]) (show SegState.sealed ≠ .empty by decide)

theorem storeLowTest_cases (s : State) : storeLowTest s =
    if s.store.armed = true ∧ s.store.freeList.length < s.store.low then
      raiseBoth .storeLow s.store.freeList.length { s with store := { s.store with armed := false } }
    else if s.store.armed = false ∧ s.store.low ≤ s.store.freeList.length then
      { s with store := { s.store with armed := true } }
    else s := by
  unfold storeLowTest Store.freeCount
  by_cases armed : s.store.armed = true
  · simp [armed]
  · simp [armed]

/-- A burst without the END, with room left, ends with its records written. -/
theorem endWrite_plain {s : State} {n : Nat} (plain : ∀ r ∈ s.comp.staging.take n, r.isEnd = false)
    (roomy : s.seq.acq ≠ .postfill ∨ s.store.freeList ≠ []) {m : Nat} (seq : s.seq.seg = some m) :
    endWrite n s = s.burstWritten n := by
  obtain ⟨_, same, _, _, free, _⟩ := burstWritten_leaves n s
  rw [endWrite_eq, if_neg (any_isEnd_false plain)]
  split
  · rename_i post
    rw [same] at post
    have some' : (s.burstWritten n).store.freeList ≠ [] := by
      rw [free]
      exact roomy.resolve_left fun other => other post
    simp only [reserveTest, same, seq]
    exact if_pos (Or.inr some')
  · rfl

section
variable {s : State} {n m e : Nat}

/-- With no place and no block left after the trigger the segment stops (R71). -/
theorem endWrite_full (enough : n ≤ s.comp.staging.length) (writer : s.writer.seg = some m) (seq : s.seq.seg = some m)
    (block : s.writer.block < s.store.blocks.length) (plain : ∀ r ∈ s.comp.staging.take n, r.isEnd = false)
    (post : s.seq.acq = .postfill) (dry : s.store.freeList = []) (off : s.seq.params.reclaim ≠ .on)
    (last : (s.seg m).chain.getLast? = some s.writer.block) (short : 15352 < s.writer.written + n)
    (inside : m < s.store.segs.length) : (endWrite n s).seq =
      { s.seq with acq := .draining, seqEnd := true, stopTick := some (s.fe.tick + 1), reason := some .storeFull } := by
  obtain ⟨_, same, fe, _, free, _⟩ := burstWritten_leaves n s
  obtain ⟨_, _, _, _, blocks, segs⟩ := writeGroup_leaves (s := { s with mc := { s.mc with
    flight := none, banks := openBank s.writer.block s.writer.written s.mc.banks } }) enough writer
  have used : ((s.burstWritten n).store.block s.writer.block).used = s.writer.written + n := by
    unfold Store.block State.burstWritten
    rw [blocks]
    exact congrArg BlockRec.used (getD_set_self _ _ _ _ block)
  have chain : ((s.burstWritten n).seg m).chain = (s.seg m).chain := by
    unfold State.seg State.burstWritten
    rw [segs, getD_set_self _ _ _ _ (by exact inside)]
    rfl
  have places := freePlaces_last (s := s.burstWritten n) (by rw [chain]; exact last)
  have tested : reserveTest false (s.burstWritten n) = stopNow .storeFull (s.burstWritten n) :=
    reserveTest_unreclaimed false (by rw [same]; exact seq) (by omega) (by rw [free]; exact dry)
      (Or.inl (by rw [same]; exact off))
  rw [endWrite_eq, if_neg (any_isEnd_false plain), if_pos (by rw [same]; exact post), tested,
    stopNow_sampling (by rw [same, post]; rfl), same, fe]

/-- A seal that no re-arm follows: the entry SEALED and the acquisition IDLE (R58, R72). -/
theorem sealing_ends {reason : SealReason} (enough : n ≤ s.comp.staging.length) (writer : s.writer.seg = some m)
    (seq : s.seq.seg = some m) (inside : m < s.store.segs.length) (stop : s.seq.stopTick = some e)
    (why : s.seq.reason = some reason) (last : reason ≠ .complete ∨ s.seq.seqEnd = true ∨
      s.seq.params.sequence ≤ s.seq.taken ∨ 140737488355328 ≤ s.fe.tick) :
    (sealSegment (s.burstWritten n)).comp.staging = s.comp.staging.drop n ∧
    (sealSegment (s.burstWritten n)).seg m = { s.seg m with
      state := .sealed, reason := some reason, stop := e, burstChain := (s.seg m).chain.length
      order := satSucc 4294967295 s.store.sealCounter } ∧
    (sealSegment (s.burstWritten n)).store.sealCounter = satSucc 4294967295 s.store.sealCounter ∧
    (sealSegment (s.burstWritten n)).writer.seg = none ∧ (sealSegment (s.burstWritten n)).seq.acq = .idle ∧
    (sealSegment (s.burstWritten n)).seq.seg = none := by
  obtain ⟨_, same, fe, _, _, counter⟩ := burstWritten_leaves n s
  obtain ⟨staging, _⟩ := writeGroup_leaves (s := { s with mc := { s.mc with
    flight := none, banks := openBank s.writer.block s.writer.written s.mc.banks } }) enough writer
  obtain ⟨entry, _⟩ := withSeal_written (e := e) (reason := reason) enough writer inside
  obtain ⟨_, _, own, comp, store, _⟩ := withSeal_leaves m e reason (s.burstWritten n)
  have ends : ¬ (s.burstWritten n).goesOn reason := by
    unfold State.goesOn
    rw [same, fe]
    rintro ⟨complete, going, more, early⟩
    have early : s.fe.tick < 140737488355328 := early
    rcases last with h | h | h | h
    · exact h complete
    · simp [h] at going
    · omega
    · omega
  rw [sealSegment_ends (by rw [same]; exact seq) (by rw [same]; exact stop) (by rw [same]; exact why) ends,
    endSequence_seq]
  refine ⟨?_, ?_, ?_, ?_, rfl, rfl⟩
  · simp only [endSequence_frame, comp]
    exact staging
  · rw [← entry]
    exact seg_congr (by simp) m
  · simp only [endSequence_frame, store, counter]
  · simpa using own

/-- A seal that a re-arm follows: the next segment opened at the current tick, or STORE_LOW for want of room (R57, R58).
-/
theorem sealing_rearms (enough : n ≤ s.comp.staging.length) (writer : s.writer.seg = some m)
    (seq : s.seq.seg = some m) (inside : m < s.store.segs.length) (stop : s.seq.stopTick = some e)
    (why : s.seq.reason = some .complete) (going : s.goesOn .complete) (off : s.seq.params.reclaim ≠ .on)
    (filling : (s.seg m).state = .filling) :
    (sealSegment (s.burstWritten n)).seg m = { s.seg m with
      state := .sealed, reason := some .complete, stop := e, burstChain := (s.seg m).chain.length
      order := satSucc 4294967295 s.store.sealCounter } ∧
    (∀ k b c rest, s.lowestEmpty = some k → s.store.freeList = b :: c :: rest →
      (sealSegment (s.burstWritten n)).seq = { s.seq with
        acq := .priming, seg := some k, taken := s.seq.taken + 1, stopTick := none, reason := none
        primingEnd := s.fe.tick + s.seq.params.wPre } ∧
      (sealSegment (s.burstWritten n)).seg k = s.fe.entryAt s.ports.claim (s.seq.taken + 1) s.fe.tick b ∧
      (sealSegment (s.burstWritten n)).store.freeList = c :: rest ∧
      (sealSegment (s.burstWritten n)).fe.tick = s.fe.tick ∧
      (sealSegment (s.burstWritten n)).comp.staging = [.base false (sealSegment (s.burstWritten n)).comp.last] ∧
      (sealSegment (s.burstWritten n)).comp.stagingTime = s.fe.tick ∧
      (sealSegment (s.burstWritten n)).writer.seg = some k ∧ (sealSegment (s.burstWritten n)).writer.block = b ∧
      (sealSegment (s.burstWritten n)).writer.written = 0) ∧
    (s.lowestEmpty = none ∨ s.store.freeList.length ≤ 1 →
      (sealSegment (s.burstWritten n)).seq =
        { s.seq with acq := .idle, seg := none, stopTick := none, reason := none } ∧
      (sealSegment (s.burstWritten n)).writer.seg = none ∧
      (s.ports.con.level .storeLow ≠ .off →
        (sealSegment (s.burstWritten n)).ports.con.records .storeLow s.store.freeList.length)) := by
  obtain ⟨_, same, fe, ports, free, _⟩ := burstWritten_leaves n s
  obtain ⟨entry, others, count, empty⟩ := withSeal_written (e := e) (reason := .complete) enough writer inside
  obtain ⟨seqU, feU, own, _, store, claim, levels⟩ := withSeal_leaves m e .complete (s.burstWritten n)
  have rearms : sealSegment (s.burstWritten n) = rearm ((s.burstWritten n).withSeal m e .complete) :=
    sealSegment_rearms (by rw [same]; exact seq) (by rw [same]; exact stop) (by rw [same]; exact why)
      (by unfold State.goesOn; rw [same, fe]; exact going)
  have empty := empty filling
  have list : ((s.burstWritten n).withSeal m e .complete).store.freeList = s.store.freeList := by rw [store]; exact free
  rw [same] at seqU
  rw [fe] at feU
  rw [ports] at claim levels
  rw [rearms]
  generalize (s.burstWritten n).withSeal m e .complete = u at entry others count empty seqU feU own claim levels list
  have offU : u.seq.params.reclaim ≠ .on := by rw [seqU]; exact off
  have room := hasRoom_unreclaimed offU
  rw [empty, list] at room
  have armed : ∀ k b c rest, s.lowestEmpty = some k → s.store.freeList = b :: c :: rest →
      rearm u = armSegment s.ports.claim (s.seq.taken + 1) s.fe.tick u ∧ u.lowestEmpty = some k ∧
      u.store.freeList = b :: c :: rest ∧ k < u.store.segs.length ∧ k ≠ m := by
    intro k b c rest entry' list'
    have run := rearm_room offU (room.mpr ⟨k, b, c, rest, entry', list'⟩)
    rw [claim, seqU, feU] at run
    obtain ⟨small, isEmpty⟩ := lowestEmpty_some entry'
    refine ⟨run, empty.trans entry', list.trans list', count ▸ small, fun e => ?_⟩
    rw [e, filling] at isEmpty
    cases isEmpty
  refine ⟨?_, fun k b c rest entry' list' => ?_, fun h => ?_⟩
  · by_cases has : u.hasRoom = true
    · obtain ⟨k, b, c, rest, entry', list'⟩ := room.mp has
      obtain ⟨run, lowest, head, small, other⟩ := armed k b c rest entry' list'
      rw [run, armSegment_seg lowest head small, if_neg (Ne.symm other), entry]
    · rw [rearm_full has, ← entry]
      exact seg_congr (by simp) m
  · obtain ⟨run, lowest, head, small, other⟩ := armed k b c rest entry' list'
    obtain ⟨writerSeg, writerBlock, written, _⟩ := armSegment_writer (owner := s.ports.claim) (index := s.seq.taken + 1)
      (t := s.fe.tick) lowest head
    rw [run, armSegment_seq lowest head, armSegment_seg lowest head small, if_pos rfl, armSegment_fe lowest head,
      armSegment_comp lowest head small, seqU, feU]
    exact ⟨rfl, rfl, (armSegment_store lowest head).1, rfl, rfl, rfl, writerSeg, writerBlock, written⟩
  · have full : ¬ u.hasRoom = true := by
      rw [room]
      rintro ⟨k, b, c, rest, entry', list'⟩
      rcases h with h | h
      · simp [h] at entry'
      · simp [list'] at h
    rw [rearm_full full, list]
    refine ⟨?_, by simpa using own, fun wanted => ?_⟩
    · have ended := endSequence_seq u
      rw [seqU] at ended
      simpa using ended
    · refine raiseBoth_records (s := endSequence u) (p := .console) _ ?_
      have same : (endSequence u).ports.con.levels = s.ports.con.levels := by simp [levels]
      exact PortState.level_congr same _ ▸ wanted

end

/-- Settles O52: the words of the burst, then the seal with what follows it; the block request and the reserve test by
their own conditions. -/
theorem writerBurstResult : Obligations.WriterBurstResult := by
  refine ⟨fun s n m p mem locked flight writer seq enough group place fits block inside => ?burst,
    fun n base s e he inside => ⟨fun b c r x free chain untriggered h list => ?moves,
      fun h => ⟨fun dry => ?dry, fun x free list => ?takes⟩⟩,
    fun s n atTrigger seg => ⟨fun room => ?room,
      fun short dry => ⟨fun m on oldest => reserveTest_reclaims atTrigger seg short dry on oldest,
      fun h => ?unreclaimed⟩, fun b last => freePlaces_last last⟩, fun s => ?low⟩
  case moves =>
    subst he
    exact requestBlock_moves inside chain untriggered h list
  case dry =>
    subst he
    rw [requestBlock_keeps h, takeBlock_none dry]
  case takes =>
    subst he
    obtain ⟨u, take, rest⟩ := takeBlock_head (base := base) inside list
    exact ⟨u, by rw [requestBlock_keeps h, take], rest⟩
  case room =>
    simp only [reserveTest, seg]
    exact if_pos room
  case unreclaimed =>
    have run := reserveTest_unreclaimed atTrigger seg short dry h
    exact ⟨fun yes => run.trans (if_pos yes), fun no => run.trans (if_neg (by simp [no]))⟩
  case low => exact storeLowTest_cases s
  case burst =>
    refine ⟨_, writerBurstEnd_ends locked flight, ?_⟩
    obtain ⟨sdram, idle⟩ := endWrite_mem n s
    obtain ⟨staging, written, time, memW, blocks, segs⟩ := writeGroup_leaves (s := { s with mc := { s.mc with
      flight := none, banks := openBank s.writer.block s.writer.written s.mc.banks } }) enough writer
    have base : s.writer.written - s.writer.group.length = p := by omega
    have cells : (endWrite n s).store.mem = writeWords s.store.mem s.writer.block p (s.groupWords n) := by
      rw [sdram, State.burstWritten, memW]
      exact congrArg (fun q => writeWords s.store.mem s.writer.block q (s.groupWords n)) base
    have count := groupWords_length enough group
    refine ⟨idle, fun i r hi hr => ?_, fun i r hr => ?_, fun a outside => ?_, fun plain roomy => ?plain,
      fun e reason ended stop why over' => ?ends, fun e ended stop why going more early off filling => ?goes,
      fun plain post dry off last short => ?stops⟩
    · rw [cells, place, Nat.add_assoc]
      exact readWord_writeWords mem (by omega) (groupWords_new hi hr)
    · rw [cells]
      exact readWord_writeWords mem (by omega) (groupWords_old hr)
    · rw [cells]
      exact Memory.read_writeWords_outside (by omega)
    case plain =>
      rw [endWrite_plain plain roomy seq]
      refine ⟨staging, written, ?_, time, ?_, (burstWritten_leaves n s).2.1⟩
      · unfold Store.block State.burstWritten
        rw [blocks]
        exact congrArg BlockRec.used (getD_set_self _ _ _ _ block)
      · unfold State.seg State.burstWritten
        rw [segs, time]
        exact getD_set_self _ _ _ _ inside
    case ends =>
      rw [endWrite_sealing ended]
      exact sealing_ends enough writer seq inside stop why over'
    case goes =>
      rw [endWrite_sealing ended]
      exact sealing_rearms enough writer seq inside stop why ⟨rfl, going, more, early⟩ off filling
    case stops =>
      rw [endWrite_full enough writer seq block plain post dry off last short inside]
      exact ⟨rfl, rfl, rfl, rfl⟩

end Sys2Proof.Machine
end

section
/-! PROOFS. What SPI, I2C and strobed decoders form (R122 to R127), for O54. -/

namespace Sys2Proof.Machine

/-! ## Values of bits (R122) -/

/-- A value read from its most significant bit on is the sum of its bits' weights. -/
theorem foldl_reverse_bits (bits : List Bool) :
    bits.reverse.foldl (fun v b => 2 * v + b.toNat) 0 = bitsFrom bits 0 := by
  induction bits with
  | nil => rfl
  | cons b bits ih =>
    rw [List.reverse_cons, List.foldl_append, ih, bitsFrom_cons, bitsFrom_succ, Nat.pow_zero, Nat.mul_one, Nat.add_comm]
    rfl

theorem foldl_bits (bits : List Bool) :
    bits.foldl (fun v b => 2 * v + b.toNat) 0 = bitsFrom bits.reverse 0 := by
  rw [← foldl_reverse_bits, List.reverse_reverse]

theorem bitsValue_msb (bits : List Bool) : bitsValue true bits = bitsFrom bits.reverse 0 := foldl_bits bits

theorem bitsValue_lsb (bits : List Bool) : bitsValue false bits = bitsFrom bits 0 := by
  rw [bitsValue, if_neg (by decide), foldl_bits, List.reverse_reverse]

/-! ## SPI (R122 to R124) -/

theorem spiSamplesOn_iff (c : SpiCfg) (was is : Bool) : spiSamplesOn c was is = true ↔
    was ≠ is ∧ (was = c.idleHigh ↔ c.leading = true) := by
  unfold spiSamplesOn
  cases was <;> cases is <;> cases c.idleHigh <;> cases c.leading <;> decide

section
variable {c : SpiCfg} {r : SpiRx} {was is : Half} {t first : Nat} {mosi miso : List Bool}

theorem spiTake_bit (hmosi : mosi = r.mosi ++ [was.getLsbD c.mosi])
    (hfirst : first = if r.mosi = [] then t else r.first)
    (hmiso : miso = match c.miso with
      | some m => r.miso ++ [was.getLsbD m]
      | none => []) (part : mosi.length < c.wordLength) :
    spiTake c r was t = ({ r with mosi := mosi, miso := miso, first := first, lastEdge := some t }, []) := by
  subst hmosi hfirst hmiso
  have short : ¬ c.wordLength ≤ (r.mosi ++ [levelOf was c.mosi]).length := Nat.not_le.mpr part
  simp only [spiTake, if_neg short, List.length_eq_zero_iff]
  rfl

theorem spiTake_word (hmosi : mosi = r.mosi ++ [was.getLsbD c.mosi])
    (hfirst : first = if r.mosi = [] then t else r.first)
    (hmiso : miso = match c.miso with
      | some m => r.miso ++ [was.getLsbD m]
      | none => []) (whole : c.wordLength ≤ mosi.length) :
    spiTake c r was t = ({ r with mosi := [], miso := [], first := first, lastEdge := some t },
      [⟨6, first, t + 1, bitsValue c.msbFirst mosi, c.miso.map fun _ => bitsValue c.msbFirst miso, false, false,
        false⟩]) := by
  subst hmosi hfirst hmiso
  have long : c.wordLength ≤ (r.mosi ++ [levelOf was c.mosi]).length := whole
  simp only [spiTake, if_pos long, List.length_eq_zero_iff]
  rfl

/-- The first bit of a word of two bits or more. -/
theorem spiTake_first (empty : r.mosi = []) (none : r.miso = []) (two : 2 ≤ c.wordLength) : spiTake c r was t =
    ({ r with mosi := [was.getLsbD c.mosi], miso := c.miso.toList.map was.getLsbD, first := t, lastEdge := some t },
      []) := by
  refine spiTake_bit (by simp [empty]) (by simp [empty]) ?_ two
  cases c.miso <;> simp [none]

theorem spiShort_some {l : Nat} (edge : r.lastEdge = some l) (bits : r.mosi ≠ []) : spiShort c r =
    [⟨7, r.first, l + 1, bitsValue c.msbFirst r.mosi, some r.mosi.length, false, false, false⟩] := by
  simp only [spiShort, edge, List.length_eq_zero_iff, if_neg bits]

theorem spiShort_empty (h : r.mosi = []) : spiShort c r = [] := by
  unfold spiShort
  split
  · simp [h]
  · rfl

/-- The gap timeout has passed since the last sampling edge (R124). -/
def SpiRx.late (c : SpiCfg) (r : SpiRx) (t : Nat) : Bool :=
  match r.lastEdge with
  | some l => c.gapTimeout ≠ 0 && c.gapTimeout < t - l
  | none => false

theorem spiEdge_unselected (select : c.select = none)
    (edge : spiSamplesOn c (was.getLsbD c.clock) (is.getLsbD c.clock) = true) :
    spiEdge c r was is t = if r.late c t then
      ((spiTake c r.emptied was t).1, spiShort c r ++ (spiTake c r.emptied was t).2) else spiTake c r was t := by
  have edge : spiSamplesOn c (levelOf was c.clock) (levelOf is c.clock) = true := edge
  simp only [spiEdge, select, edge, if_true]
  rfl

theorem spiEdge_quiet (select : c.select = none)
    (edge : spiSamplesOn c (was.getLsbD c.clock) (is.getLsbD c.clock) = false) : spiEdge c r was is t = (r, []) := by
  have edge : spiSamplesOn c (levelOf was c.clock) (levelOf is c.clock) = false := edge
  simp only [spiEdge, select, edge, Bool.false_eq_true, if_false]

theorem late_false (h : c.gapTimeout = 0 ∨ ∀ l, r.lastEdge = some l → t - l ≤ c.gapTimeout) : r.late c t = false := by
  unfold SpiRx.late
  split
  · rename_i l last
    rcases h with zero | near
    · simp [zero]
    · have : ¬ c.gapTimeout < t - l := Nat.not_lt.mpr (near l last)
      simp [this]
  · rfl

theorem late_true {l : Nat} (last : r.lastEdge = some l) (on : 1 ≤ c.gapTimeout) (far : c.gapTimeout < t - l) :
    r.late c t = true := by
  simp only [SpiRx.late, last, decide_eq_true far, Bool.and_true, decide_eq_true_eq]
  omega

/-- One TRANSITION with a select channel, by the select's level before it and after (R123). -/
theorem spiEdge_selected {ch : Nat} (select : c.select = some ch) : spiEdge c r was is t =
    (let before := was.getLsbD ch == c.selectHigh
     let after := is.getLsbD ch == c.selectHigh
     let r := if !before && after then r.emptied else r
     let x := if spiSamplesOn c (was.getLsbD c.clock) (is.getLsbD c.clock) && after && r.aligned then spiTake c r was t
       else (r, [])
     if before && !after then ({ x.1.emptied with aligned := true }, x.2 ++ spiShort c x.1) else x) := by
  simp only [spiEdge, select]
  rfl

section
variable {ch : Nat} (select : c.select = some ch)
include select

theorem spiEdge_released (before : was.getLsbD ch = c.selectHigh) (after : is.getLsbD ch ≠ c.selectHigh) :
    spiEdge c r was is t = ({ r.emptied with aligned := true }, spiShort c r) := by
  have b : (was.getLsbD ch == c.selectHigh) = true := beq_iff_eq.mpr before
  have a : (is.getLsbD ch == c.selectHigh) = false := beq_eq_false_iff_ne.mpr after
  rw [spiEdge_selected select]
  simp [b, a]

theorem spiEdge_away (before : was.getLsbD ch ≠ c.selectHigh) (after : is.getLsbD ch ≠ c.selectHigh) :
    spiEdge c r was is t = (r, []) := by
  have b : (was.getLsbD ch == c.selectHigh) = false := beq_eq_false_iff_ne.mpr before
  have a : (is.getLsbD ch == c.selectHigh) = false := beq_eq_false_iff_ne.mpr after
  rw [spiEdge_selected select]
  simp [b, a]

theorem spiEdge_held (before : was.getLsbD ch = c.selectHigh) (after : is.getLsbD ch = c.selectHigh) :
    spiEdge c r was is t = if spiSamplesOn c (was.getLsbD c.clock) (is.getLsbD c.clock) && r.aligned
      then spiTake c r was t else (r, []) := by
  have b : (was.getLsbD ch == c.selectHigh) = true := beq_iff_eq.mpr before
  have a : (is.getLsbD ch == c.selectHigh) = true := beq_iff_eq.mpr after
  rw [spiEdge_selected select]
  simp [b, a]

theorem spiEdge_asserted (before : was.getLsbD ch ≠ c.selectHigh) (after : is.getLsbD ch = c.selectHigh) :
    spiEdge c r was is t = if spiSamplesOn c (was.getLsbD c.clock) (is.getLsbD c.clock) && r.aligned
      then spiTake c r.emptied was t else (r.emptied, []) := by
  have b : (was.getLsbD ch == c.selectHigh) = false := beq_eq_false_iff_ne.mpr before
  have a : (is.getLsbD ch == c.selectHigh) = true := beq_iff_eq.mpr after
  rw [spiEdge_selected select]
  simp [b, a, SpiRx.emptied]

/-- Without alignment and without bits no annotation is formed. -/
theorem spiEdge_unaligned (aligned : r.aligned = false) (empty : r.mosi = []) : (spiEdge c r was is t).2 = [] := by
  by_cases before : was.getLsbD ch = c.selectHigh <;> by_cases after : is.getLsbD ch = c.selectHigh
  · rw [spiEdge_held select before after]
    simp [aligned]
  · rw [spiEdge_released select before after]
    exact spiShort_empty empty
  · rw [spiEdge_asserted select before after]
    simp [aligned]
  · rw [spiEdge_away select before after]

end

end

/-! ## I2C (R125, R126) -/

section
variable {c : I2cCfg} {r : I2cRx} {was is : Half} {t : Nat}

theorem i2cBroken_eq (r : I2cRx) (t : Nat) : i2cBroken r t =
    if r.bits = [] then [] else [⟨13, r.first, t + 1, r.bits.length, none, false, false, false⟩] := by
  simp only [i2cBroken, List.length_eq_zero_iff]
  rfl

theorem i2cEdge_start (h1 : was.getLsbD c.scl = true) (h2 : is.getLsbD c.scl = true) (h3 : was.getLsbD c.sda = true)
    (h4 : is.getLsbD c.sda = false) : i2cEdge c r was is t = (⟨true, [], 0, true, false⟩,
      if r.active then i2cBroken r t ++ [⟨9, t, t + 1, 0, none, false, false, false⟩]
      else [⟨8, t, t + 1, 0, none, false, false, false⟩]) := by
  simp only [i2cEdge, levelOf, h1, h2, h3, h4]
  rfl

theorem i2cEdge_stop (h1 : was.getLsbD c.scl = true) (h2 : is.getLsbD c.scl = true) (h3 : was.getLsbD c.sda = false)
    (h4 : is.getLsbD c.sda = true) (active : r.active = true) : i2cEdge c r was is t =
      (⟨false, [], 0, false, false⟩, i2cBroken r t ++ [⟨12, t, t + 1, 0, none, false, false, false⟩]) := by
  simp only [i2cEdge, levelOf, h1, h2, h3, h4, active]
  rfl

theorem i2cEdge_rise (h1 : was.getLsbD c.scl = false) (h2 : is.getLsbD c.scl = true) (active : r.active = true) :
    i2cEdge c r was is t = if r.bits.length < 8 then
        ({ r with bits := r.bits ++ [was.getLsbD c.sda], first := if r.bits = [] then t else r.first }, [])
      else ({ r with bits := [], isAddress := false
                     read := if r.isAddress then (i2cByte r (!was.getLsbD c.sda) t).read else r.read },
        [i2cByte r (!was.getLsbD c.sda) t]) := by
  simp [i2cEdge, levelOf, h1, h2, active]

theorem i2cEdge_idle (active : r.active = false) (same : was.getLsbD c.sda = is.getLsbD c.sda) :
    i2cEdge c r was is t = (r, []) := by
  simp only [i2cEdge, levelOf, active, same, Bool.and_false, Bool.false_eq_true, if_false]
  cases is.getLsbD c.sda <;> simp

end

/-! ## Strobes (R127) -/

theorem strobeEdge_eq (c : StrobeCfg) (was is : Half) (t : Nat) : strobeEdge c was is t =
    if (was.getLsbD c.strobe = false ∧ is.getLsbD c.strobe = true ∧ c.edge ≠ .fall) ∨
        (was.getLsbD c.strobe = true ∧ is.getLsbD c.strobe = false ∧ c.edge ≠ .rise) then
      [⟨14, t, t + 1, bitsFrom (c.data.map was.getLsbD) 0, none, false, false, false⟩]
    else [] := by
  simp only [strobeEdge, levelOf, edgeMatches_iff, bitsValue_lsb]
  rfl

end Sys2Proof.Machine
end

section
/-! PROOFS. Tap entries consumed, annotations handed on, records read offline (R35, R109, R110, R114, R115, R128, R135),
for O54. -/

namespace Sys2Proof.Machine

/-! ## Slots written again -/

theorem setSlot_setSlot (s : State) (k : Nat) (x y : Slot) : (s.setSlot k x).setSlot k y = s.setSlot k y := by
  simp [State.setSlot]

theorem setSlot_slot {s : State} {k : Nat} (h : k < s.slots.length) (x : Slot) : (s.setSlot k x).slot k = x := by
  rw [slot_setSlot h, if_pos rfl]

theorem setWalk_setSlot {s : State} {k : Nat} (h : k < s.slots.length) (x : Slot) (w : Walk) :
    setWalk k w (s.setSlot k x) = s.setSlot k { x with walk := w } := by
  rw [setWalk, setSlot_slot h, setSlot_setSlot]

theorem setSlot_length (s : State) (k : Nat) (x : Slot) : (s.setSlot k x).slots.length = s.slots.length := by
  simp [State.setSlot]

theorem setSlot_self {s : State} {k : Nat} (h : k < s.slots.length) : s.setSlot k (s.slot k) = s := by
  have same : s.slots.set k (s.slot k) = s.slots := by
    rw [State.slot, List.getD_eq_getElem?_getD, List.getElem?_eq_getElem h]
    simp
  rw [State.setSlot, same]

/-! ## Sample points of a decoder without any (R114) -/

section
variable {s : State} {k : Nat} {x : Slot}

/-- A decoding slot whose protocol has no sample point at hand only moves its known-through tick. -/
theorem takeSamples_quiet {p : Protocol} (limit : Nat) (hx : s.slot k = x) (proto : x.proto = some p)
    (running : x.state = .running) (decoding : x.walk.decoding = true)
    (quiet : protoAdvance p (x.period.getD 0) x.walk.cur limit x.walk.proto = (x.walk.proto, [])) :
    takeSamples k limit s = s.setSlot k { x with walk := { x.walk with known := limit } } := by
  simp only [takeSamples, hx, proto, running, decoding, and_self, if_true, quiet, handAll, setWalk]

theorem samplesBefore_quiet {p : Protocol} {t : Nat} (later : 1 ≤ t) (hx : s.slot k = x) (proto : x.proto = some p)
    (running : x.state = .running) (decoding : x.walk.decoding = true)
    (quiet : protoAdvance p (x.period.getD 0) x.walk.cur (t - 1) x.walk.proto = (x.walk.proto, [])) :
    samplesBefore k t s = s.setSlot k { x with walk := { x.walk with known := t - 1 } } := by
  rw [samplesBefore, if_neg (by omega)]
  exact takeSamples_quiet (t - 1) hx proto running decoding quiet

/-! ## A tap entry consumed (R35, R109, R115) -/

theorem liveBase_strobed {e : TapEntry} {c : StrobeCfg} (st : Half) (inside : k < s.slots.length) (hx : s.slot k = x)
    (proto : x.proto = some (.strobed c)) (plain : e.gap = false) : liveBase k e st s = s.setSlot k { x with
      tag := e.seg, period := none
      walk := { x.walk with cur := st, decoding := true, lossFrom := none, known := e.time, proto := .strobed } } := by
  have period : Protocol.periodFor x.proto e.divider = none := by simp only [Protocol.periodFor, proto]
  simp only [liveBase, plain, Bool.false_eq_true, if_false, hx, period, periodShort, setSlot_slot inside]
  rw [setWalk_setSlot inside]
  simp only [Walk.begin, proto, protoStart, Walk.abandon]

/-- The entry consumed, then the slot still owes one: nothing but the entry's own effect and its time follow. -/
theorem consumeEntry_owing {e : TapEntry} {rest : List TapEntry} {y : Slot} (busy : s.seq.acq ≠ .idle)
    (inside : k < s.slots.length) (taken : takeEntry k s.tap.entries = some (e, rest))
    (more : ∃ z ∈ rest, k ∈ z.owed)
    (effect : liveEntry k e { s with tap := { s.tap with entries := rest } } =
      { s with tap := { s.tap with entries := rest } }.setSlot k y) (live : y.live = true) :
    consumeEntry k s = { s with tap := { s.tap with entries := rest } }.setSlot k
      { y with walk := { y.walk with last := some e.time } } := by
  have timed : liveSync k ({ s with tap := { s.tap with entries := rest } }.setSlot k
      { y with walk := { y.walk with last := some e.time } }) =
      { s with tap := { s.tap with entries := rest } }.setSlot k
        { y with walk := { y.walk with last := some e.time } } := by
    obtain ⟨z, hz, owed⟩ := more
    have owes := owes_of_entry (s := { s with tap := { s.tap with entries := rest } }.setSlot k
      { y with walk := { y.walk with last := some e.time } }) (e := z) hz owed
    rw [liveSync, owes]
    exact if_neg (by simp)
  simp only [consumeEntry, taken, effect]
  rw [setSlot_slot (s := { s with tap := { s.tap with entries := rest } }) inside, if_pos live,
    setWalk_setSlot (s := { s with tap := { s.tap with entries := rest } }) inside, timed]
  have idle : ∀ u : State, u.seq.acq ≠ .idle → returnSlots (closeIdleGap u) = u := by
    intro u hu
    have gap : closeIdleGap u = u := if_neg (by simp [hu])
    have still : ∀ j, returnSlot j u = u := fun j => if_neg (by simp [hu])
    rw [gap, returnSlots, still 0, still 1, still 2, still 3]
  exact idle _ busy

/-! ## Annotations handed on (R109, R128, R135) -/

theorem feedQueue_none {f : Formed} (h : f.feeds = none) : feedQueue k f s = s := by simp only [feedQueue, h]

theorem feedQueue_some {f : Formed} {e : CharEntry} (h : f.feeds = some e) : feedQueue k f s = queueEntry k e s := by
  simp only [feedQueue, h]

theorem offerNote_idle {slot seg kind stop value : Nat} (h : ∀ j, s.seq.acq ≠ .hunting j) :
    offerNote slot seg kind stop value s = s := by
  unfold offerNote
  split
  · rename_i j hunting
    exact absurd hunting (h j)
  · rfl

theorem appendNote_idle {e : Note} (h : s.render.frame ≠ .classifying) :
    appendNote k e s = { s with notes := s.notes.set k (s.notesOf k ++ [e]) } := by
  simp only [appendNote, keepWalk_idle h]

theorem handOn_live (f : Formed) (live : (s.slot k).live = true) : handOn k f s = handLive k f s := if_pos live

theorem handOn_offline (f : Formed) (offline : (s.slot k).offline = true) :
    handOn k f s = handOffline k (s.slot k).segment f s := by
  obtain ⟨_, source⟩ := Slot.offline_iff.mp offline
  refine (if_neg ?_).trans (if_pos offline)
  simp [Slot.live, source]

theorem offline_of_source {n lo hi : Nat} (hx : s.slot k = x) (running : x.state = .running)
    (source : x.source = some (.offline n lo hi)) : (s.slot k).offline = true ∧ (s.slot k).segment = n := by
  rw [hx]
  exact ⟨Slot.offline_iff.mpr ⟨running, by simp [source]⟩, by simp only [Slot.segment, source]⟩

/-! ## Records read offline (R110, R114, R115) -/

theorem knowThrough_slot (t : Nat) (hx : s.slot k = x) (offline : x.offline = true) :
    knowThrough k t s = s.setSlot k { x with walk := { x.walk with known := t } } := by
  rw [knowThrough, hx, if_pos offline, setWalk, hx]

theorem reach_reached (x : Slot) : x.reach x.reached = x := by
  have same : x.reading.map (fun p => { p with reached := x.reached }) = x.reading := by
    unfold Slot.reached
    cases x.reading <;> rfl
  rw [Slot.reach, same]

/-- A slot that completes is DONE. -/
theorem offlineDone_done (inside : k < s.slots.length) (offline : (s.slot k).offline = true) :
    ((offlineDone k s).slot k).state = .done := by
  rw [offlineDone, if_pos offline]
  have done : ((finishOffline k .done s).slot k).state = .done := by
    have withdrawn : ((withdraw .decoder k (s.setSlot k { s.slot k with state := .done })).slot k).state = .done := by
      rw [State.slot, (show (withdraw .decoder k (s.setSlot k { s.slot k with state := .done })).slots =
        (s.setSlot k { s.slot k with state := .done }).slots by simp)]
      exact congrArg Slot.state (setSlot_slot inside _)
    exact (dropPin_slotAlike _ k _ _).1.trans withdrawn
  unfold raiseStarter
  split
  · exact (congrArg (fun l : List Slot => (l.getD k Slot.empty).state) (by simp)).trans done
  · exact done

end

section
variable {s : State} {k n lo hi : Nat} {x : Slot}

/-- The live slot's annotation on a segment, when no stage waits for it. -/
theorem handLive_tagged {f : Formed} (tag : (s.slot k).tag = some n) (feeds : f.feeds = none)
    (acq : ∀ j, s.seq.acq ≠ .hunting j) : handLive k f s =
      if (s.notesOf k).length < (s.slot k).quota then appendNote k (f.entry k n) s else ringNote k (f.entry k n) s := by
  simp only [handLive, tag, offerNote_idle acq, feedQueue_none feeds]

theorem ringNote_idle {e : Note} (h : s.render.frame ≠ .classifying) :
    (ringNote k e s).notes = s.notes.set k ((s.notesOf k).drop 1 ++ [e]) ∧ (ringNote k e s).slots = s.slots := by
  rw [ringNote, keepWalk_idle h]
  exact ⟨rfl, rfl⟩

theorem handLive_untagged {f : Formed} (tag : (s.slot k).tag = none) : handLive k f s = feedQueue k f s := by
  simp only [handLive, tag]

theorem handOffline_stores {f : Formed} (room : (s.notesOf k).length < (s.slot k).quota)
    (h : s.render.frame ≠ .classifying) : handOffline k n f s =
      feedQueue k f { s with notes := s.notes.set k (s.notesOf k ++ [f.entry k n]) } := by
  rw [handOffline]
  refine (if_pos room).trans ?_
  rw [appendNote_idle h]

theorem handOffline_truncates {f : Formed} (inside : k < s.slots.length) (hx : s.slot k = x)
    (source : x.source = some (.offline n lo hi)) (full : x.quota ≤ (s.notesOf k).length) : handOffline k n f s =
      raiseStarter k .decodeDone (dropPin n (fun q => { q with decode := q.decode - 1 }) (withdraw .decoder k
        (s.setSlot k { x with state := .truncated, truncation := some f.start }))) := by
  rw [handOffline]
  refine (if_neg (by rw [hx]; exact Nat.not_lt.mpr full)).trans ?_
  rw [finishOffline, setSlot_slot inside, setSlot_setSlot, hx]
  simp only [Slot.segment, source]

theorem protoAdvance_strobed (c : StrobeCfg) (period : Nat) (cur : Half) (limit : Nat) (st : ProtoState) :
    protoAdvance (.strobed c) period cur limit st = (st, []) := by
  cases st <;> rfl

theorem takeSamples_still (limit : Nat) (hx : s.slot k = x) (h : ¬ (x.state = .running ∧ x.walk.decoding = true)) :
    takeSamples k limit s = s := by
  unfold takeSamples
  rw [hx]
  dsimp only
  split
  · exact if_neg h
  · rfl

/-- A strobed slot has no sample points: of the slot only its walk can change. -/
theorem samplesBefore_strobed {c : StrobeCfg} (t : Nat) (inside : k < s.slots.length) (hx : s.slot k = x)
    (proto : x.proto = some (.strobed c)) : ∃ w, samplesBefore k t s = s.setSlot k { x with walk := w } := by
  have same : s = s.setSlot k { x with walk := x.walk } := by rw [← hx]; exact (setSlot_self inside).symm
  by_cases zero : t = 0
  · exact ⟨x.walk, by rw [samplesBefore, if_pos zero, ← same]⟩
  · by_cases on : x.state = .running ∧ x.walk.decoding = true
    · exact ⟨_, samplesBefore_quiet (by omega) hx proto on.1 on.2 (protoAdvance_strobed ..)⟩
    · exact ⟨x.walk, by rw [samplesBefore, if_neg zero, takeSamples_still _ hx on, ← same]⟩

theorem beginAt_walk (t : Nat) (inside : k < s.slots.length) (hx : s.slot k = x) :
    ∃ w, beginAt k lo t s = s.setSlot k { x with walk := w } := by
  unfold beginAt
  dsimp only
  split
  · exact ⟨(s.slot k).walk.begin (s.slot k).proto, by rw [setWalk, hx]⟩
  · exact ⟨x.walk, by rw [← hx, setSlot_self inside]⟩

/-- A record past the to tick, or the END, completes an OFFLINE slot (R110). -/
theorem offlineRecord_completes {c : StrobeCfg} {r : Record} (hx : s.slot k = x) (running : x.state = .running)
    (source : x.source = some (.offline n lo hi)) (inside : k < s.slots.length) (proto : x.proto = some (.strobed c))
    (h : r.isEnd = true ∨ (hi < x.reached + r.delta ∧ r.isLossEnd = false)) :
    ((offlineRecord k lo hi r s).slot k).state = .done := by
  obtain ⟨offline, _⟩ := offline_of_source hx running source
  have walked : ∃ w, samplesBefore k (min (x.reached + r.delta) (hi + 1))
      (if r.isBase then s.setSlot k (x.reach (x.reached + r.delta))
        else beginAt k lo (x.reached + r.delta) (s.setSlot k (x.reach (x.reached + r.delta)))) =
      s.setSlot k { x.reach (x.reached + r.delta) with walk := w } := by
    have begun : ∃ w, (if r.isBase then s.setSlot k (x.reach (x.reached + r.delta))
        else beginAt k lo (x.reached + r.delta) (s.setSlot k (x.reach (x.reached + r.delta)))) =
        s.setSlot k { x.reach (x.reached + r.delta) with walk := w } := by
      split
      · exact ⟨(x.reach (x.reached + r.delta)).walk, rfl⟩
      · obtain ⟨w, e⟩ := beginAt_walk (lo := lo) (x.reached + r.delta) (setSlot_length s k _ ▸ inside)
          (setSlot_slot inside (x.reach (x.reached + r.delta)))
        exact ⟨w, by rw [e, setSlot_setSlot]⟩
    obtain ⟨w, e⟩ := begun
    obtain ⟨w', e'⟩ := samplesBefore_strobed
      (c := c) (min (x.reached + r.delta) (hi + 1)) (setSlot_length s k _ ▸ inside)
      (setSlot_slot inside { x.reach (x.reached + r.delta) with walk := w }) proto
    exact ⟨w', by rw [e, e', setSlot_setSlot]⟩
  obtain ⟨w, e⟩ := walked
  have still : (s.setSlot k { x.reach (x.reached + r.delta) with walk := w }).slot k =
      { x.reach (x.reached + r.delta) with walk := w } := setSlot_slot inside _
  have done := offlineDone_done (s := s.setSlot k { x.reach (x.reached + r.delta) with walk := w })
    (setSlot_length s k _ ▸ inside) (by rw [still]; exact hx ▸ offline)
  rw [offlineRecord, if_pos offline]
  simp only [hx, e]
  rcases h with ended | ⟨past, plain⟩
  · rwa [if_pos ended]
  · by_cases ended : r.isEnd = true
    · rwa [if_pos ended]
    · rw [if_neg ended, if_pos past, plain]
      exact done

/-- A BASE of another state at the tick reached begins an SPI decoding anew in it (R27, R30, R115). -/
theorem offlineRecord_rebases {c : SpiCfg} {ch : Nat} {st : Half} {r : SpiRx} (hx : s.slot k = x)
    (running : x.state = .running) (source : x.source = some (.offline n lo hi)) (inside : k < s.slots.length)
    (proto : x.proto = some (.spi c)) (select : c.select = some ch) (early : x.reached ≤ hi)
    (decoding : x.walk.decoding = true) (other : st ≠ x.walk.cur) (spi : x.walk.proto = .spi r) :
    offlineRecord k lo hi (.base false st) s = s.setSlot k { x with walk := { x.walk with
      cur := st, lossFrom := none, known := x.reached
      proto := .spi ⟨st.getLsbD ch != c.selectHigh, [], [], 0, none⟩ } } := by
  obtain ⟨offline, _⟩ := offline_of_source hx running source
  have quiet : ∀ limit, protoAdvance (.spi c) (x.period.getD 0) x.walk.cur limit x.walk.proto = (x.walk.proto, []) := by
    intro limit
    rw [spi]
    rfl
  have same : s.setSlot k x = s := by rw [← hx, setSlot_self inside]
  obtain ⟨known, sampled⟩ : ∃ t, samplesBefore k (min x.reached (hi + 1)) s =
      s.setSlot k { x with walk := { x.walk with known := t } } := by
    rcases Nat.eq_zero_or_pos x.reached with zero | later
    · refine ⟨x.walk.known, ?_⟩
      rw [zero, samplesBefore, if_pos (by simp)]
      exact same.symm
    · exact ⟨_, samplesBefore_quiet (by omega) hx proto running decoding (quiet _)⟩
  have start : protoStart (.spi c) st = .spi ⟨st.getLsbD ch != c.selectHigh, [], [], 0, none⟩ := by
    simp only [protoStart, select]
    rfl
  have late : ¬ hi < x.reached := Nat.not_lt.mpr early
  have rebased : ({ x.walk with known := known } : Walk).rebase x.proto st = { x.walk with
      cur := st, lossFrom := none, known := known
      proto := .spi ⟨st.getLsbD ch != c.selectHigh, [], [], 0, none⟩ } := by
    rw [Walk.rebase, if_neg (by exact other)]
    simp only [Walk.begin, proto, start, decoding]
  have applied : applyOffline k lo hi x.reached (.base false st)
      (s.setSlot k { x with walk := { x.walk with known := known } }) = s.setSlot k { x with walk := { x.walk with
        cur := st, lossFrom := none, known := known
        proto := .spi ⟨st.getLsbD ch != c.selectHigh, [], [], 0, none⟩ } } := by
    have slot := setSlot_slot inside { x with walk := { x.walk with known := known } }
    simp only [applyOffline, slot]
    rw [if_pos decoding, setWalk_setSlot inside]
    exact congrArg (fun w => s.setSlot k { x with walk := w }) rebased
  have offlineX : ∀ w, ({ x with walk := w } : Slot).offline = true := fun w => hx ▸ offline
  rw [offlineRecord, if_pos offline]
  simp only [hx, Record.delta, Nat.add_zero, reach_reached, same, Record.isBase, if_true, sampled, Record.isEnd,
    Bool.false_eq_true, if_false, if_neg late]
  rw [applied, knowThrough_slot _ (setSlot_slot inside _) (offlineX _), setSlot_setSlot]

end

/-- A slot that owes an entry behind the one it consumes still owes it. -/
theorem owed_after {k : Nat} {pre post rest : List TapEntry} {e : TapEntry} (hrest : rest = pre ++
    (if e.owed.filter (· ≠ k) = [] then post else { e with owed := e.owed.filter (· ≠ k) } :: post))
    (more : ∃ y ∈ post, k ∈ y.owed) : ∃ y ∈ rest, k ∈ y.owed := by
  obtain ⟨y, hy, owed⟩ := more
  refine ⟨y, ?_, owed⟩
  rw [hrest]
  refine List.mem_append_right _ ?_
  split
  · exact hy
  · exact List.mem_cons_of_mem _ hy

/-- Settles O54: an entry by what it is, an annotation by the slot it is handed on from, a record by its time; the
decoders
by their edges. -/
theorem tapEntryConsumed : Obligations.TapEntryConsumed := by
  refine ⟨fun k s pre post rest e x awake busy four hx live entries before owed more hrest => ⟨?base, ?extend⟩,
    fun k s awake nobody => ?nothing, fun k n f s live tag feeds acq frame => ⟨fun room => ?append, fun full => ?ring⟩,
    fun k f s live tag => ⟨fun feeds => ?untagged, fun e feeds => ?untaggedQueue⟩,
    fun k n lo hi f s u x hx running source inside => ⟨fun frame room hu => ⟨fun feeds => ?stores,
      fun e feeds => ?storesQueue⟩,
      fun full p starter hu => ?truncates⟩,
    fun k n lo hi t r s x c hx running source inside proto ht h =>
      offlineRecord_completes hx running source inside proto (ht ▸ h),
    fun k n lo hi ch st s x c hx running source inside proto select early decoding other spi => ?rebases,
    fun c r was is t edge mosi miso first hedge hmosi hfirst hmiso => ?spi,
      fun bits => ⟨bitsValue_msb bits, bitsValue_lsb bits⟩,
    fun c r was is t v err herr => ?i2c, fun c was is t => strobeEdge_eq c was is t⟩
  case base =>
    intro b st c item gap proto
    have taken := takeEntry_first (e := e) post before owed
    rw [← hrest, ← entries] at taken
    have inside : k.val < s.slots.length := by omega
    refine congrArg Host.Outcome.next ((if_pos awake).trans (congrArg (conclude s) ?_))
    refine consumeEntry_owing (y := { x with
      tag := e.seg, period := none
      walk := { x.walk with cur := st, decoding := true, lossFrom := none, known := e.time, proto := .strobed } })
      busy inside taken (owed_after hrest more) ?_ live
    rw [liveEntry, item]
    exact liveBase_strobed (s := { s with tap := { s.tap with entries := rest } }) st inside hx proto gap
  case extend =>
    intro d c item later decoding proto strobed
    have taken := takeEntry_first (e := e) post before owed
    rw [← hrest, ← entries] at taken
    have inside : k.val < s.slots.length := by omega
    have running := (Slot.live_iff.mp live).1
    refine congrArg Host.Outcome.next ((if_pos awake).trans (congrArg (conclude s) ?_))
    refine consumeEntry_owing (y := { x with walk := { x.walk with known := e.time - 1 } }) busy inside taken
      (owed_after hrest more) ?_ live
    rw [liveEntry, item]
    exact samplesBefore_quiet (s := { s with tap := { s.tap with entries := rest } }) later hx proto running decoding
      (protoAdvance_strobed ..)
  case nothing =>
    refine congrArg Host.Outcome.next ((if_pos awake).trans (congrArg (conclude s) ?_))
    simp only [consumeEntry, takeEntry_none nobody]
  case append =>
    rw [handOn_live f live, handLive_tagged tag feeds acq, if_pos room, appendNote_idle frame]
  case ring =>
    rw [handOn_live f live, handLive_tagged tag feeds acq, if_neg (Nat.not_lt.mpr full)]
    exact ringNote_idle frame
  case untagged => rw [handOn_live f live, handLive_untagged tag, feedQueue_none feeds]
  case untaggedQueue => rw [handOn_live f live, handLive_untagged tag, feedQueue_some feeds]
  case stores =>
    obtain ⟨offline, segment⟩ := offline_of_source hx running source
    rw [handOn_offline f offline, segment, handOffline_stores (by rw [hx]; exact room) frame, feedQueue_none feeds, hu]
  case storesQueue =>
    obtain ⟨offline, segment⟩ := offline_of_source hx running source
    rw [handOn_offline f offline, segment, handOffline_stores (by rw [hx]; exact room) frame, feedQueue_some feeds, hu]
  case truncates =>
    obtain ⟨offline, segment⟩ := offline_of_source hx running source
    rw [handOn_offline f offline, segment, handOffline_truncates inside hx source full, hu]
  case rebases =>
    obtain ⟨r, spi⟩ := spi
    exact offlineRecord_rebases hx running source inside proto select early decoding other spi
  case spi =>
    have samples : spiSamplesOn c (was.getLsbD c.clock) (is.getLsbD c.clock) = edge :=
      Bool.eq_iff_iff.mpr ((spiSamplesOn_iff ..).trans hedge.symm)
    refine ⟨fun quiet select => spiEdge_quiet select (samples.trans quiet),
      fun on select near => ⟨fun part => ?_, fun whole => ?_⟩,
      fun l on select last limit far bits two => ?_, fun ch l select before after last bits => ?_,
      fun ch select after empty => ?_, fun ch select aligned empty => spiEdge_unaligned select aligned empty,
      fun ch select before after on aligned => ⟨fun part => ?_, fun whole => ?_⟩,
      fun ch select before after => ⟨fun quiet => ?_, fun on aligned two => ?_⟩,
      fun ch select before after => spiEdge_away select before after, fun ch select before after quiet => ?_⟩
    · rw [spiEdge_unselected select (samples.trans on), late_false near]
      exact spiTake_bit hmosi hfirst hmiso part
    · rw [spiEdge_unselected select (samples.trans on), late_false near]
      exact spiTake_word hmosi hfirst hmiso whole
    · rw [spiEdge_unselected select (samples.trans on), late_true last limit far, if_pos rfl, spiTake_first rfl rfl two,
        spiShort_some last bits]
      rfl
    · rw [spiEdge_released select before after, spiShort_some last bits]
      rfl
    · by_cases before : was.getLsbD ch = c.selectHigh
      · rw [spiEdge_released select before after]
        exact spiShort_empty empty
      · rw [spiEdge_away select before after]
    · rw [spiEdge_held select before after, samples, if_pos (by simp [on, aligned])]
      exact spiTake_bit hmosi hfirst hmiso part
    · rw [spiEdge_held select before after, samples, if_pos (by simp [on, aligned])]
      exact spiTake_word hmosi hfirst hmiso whole
    · rw [spiEdge_asserted select before after, samples]
      exact if_neg (by rcases quiet with h | h <;> simp [h])
    · rw [spiEdge_asserted select before after, samples, if_pos (by simp [on, aligned])]
      exact spiTake_first rfl rfl two
    · rw [spiEdge_held select before after, samples]
      exact if_neg (by rcases quiet with h | h <;> simp [h])
  case i2c =>
    rw [← i2cBroken_eq] at herr
    subst herr
    refine ⟨i2cEdge_start, i2cEdge_stop,
      fun low high active => ⟨fun part => ?_, fun whole value => ⟨fun address => ?_, fun data => ?_⟩⟩,
      i2cEdge_idle⟩
    · rw [i2cEdge_rise low high active, if_pos part]
    · subst value
      rw [i2cEdge_rise low high active, if_neg (by omega)]
      simp only [i2cByte, address, if_true]
    · subst value
      rw [i2cEdge_rise low high active, if_neg (by omega)]
      simp [i2cByte, data]

end Sys2Proof.Machine
end

section
/-! PROOFS. What the sample points of live slots leave alone (R22, R114), for O49. -/

namespace Sys2Proof.Machine

/-! ## The state last compared -/

/-- The state last compared, with its tick (R114). -/
def State.compared (s : State) : Half × Nat := (s.comp.last, s.comp.lastTick)

section
variable {s t : State}

theorem compared_of_comp (h : t.comp = s.comp) : t.compared = s.compared := by rw [State.compared, h]; rfl

theorem closeHeldEnd_compared (s : State) : (closeHeldEnd s).compared = s.compared := by
  unfold closeHeldEnd
  split
  · split
    · simp [State.compared, closeLoss]
    · rfl
  · rfl

theorem endStaging_compared (t : Nat) (reason : SealReason) (c : Compressor) :
    (endStaging t reason c).last = c.last ∧ (endStaging t reason c).lastTick = c.lastTick := by
  unfold endStaging
  split <;> exact ⟨rfl, rfl⟩

theorem stopSegment_compared (t : Nat) (reason : SealReason) (s : State) : (stopSegment t reason s).compared =
    s.compared := by
  rw [stopSegment, closeHeldEnd_compared]
  simp [State.compared, endStaging_compared]

theorem postfillTest_compared (s : State) : (postfillTest s).compared = s.compared := by
  unfold postfillTest
  split
  · split
    · exact stopSegment_compared _ _ _
    · rfl
  · rfl

theorem takeTrigger_compared (t : Nat) (forced : Bool) (s : State) : (takeTrigger t forced s).compared =
    s.compared := by
  obtain ⟨_, comp, _⟩ := reserveTest_trigger s
  unfold takeTrigger
  dsimp only
  split
  · exact compared_of_comp comp
  · rw [postfillTest_compared]
    exact compared_of_comp (by simp [comp])

theorem stageMatch_compared (k e t : Nat) (s : State) : (stageMatch k e t s).compared = s.compared := by
  unfold stageMatch actOn
  dsimp only
  split
  · split
    · rfl
    · exact takeTrigger_compared _ _ _
  · rfl

theorem evaluatePattern_compared (t : Nat) (st : Half) (s : State) : (evaluatePattern t st s).compared =
    s.compared := by
  unfold evaluatePattern
  split
  · split
    · dsimp only
      split
      · exact stageMatch_compared _ _ _ _
      · rfl
    · rfl
  · rfl

theorem offerNote_compared (slot seg kind stop value : Nat) (s : State) :
    (offerNote slot seg kind stop value s).compared = s.compared := by
  unfold offerNote
  split
  · split
    · split
      · exact stageMatch_compared _ _ _ _
      · rfl
    · rfl
  · rfl

theorem feedQueue_comp (k : Nat) (f : Formed) (s : State) : (feedQueue k f s).comp = s.comp := by
  unfold feedQueue
  split <;> simp

theorem handOn_compared (k : Nat) (f : Formed) (s : State) : (handOn k f s).compared = s.compared := by
  unfold handOn handLive handOffline
  dsimp only
  split
  · split
    · exact compared_of_comp (feedQueue_comp ..)
    · rename_i n _
      rw [← offerNote_compared k n f.kind f.stop f.value s]
      refine compared_of_comp ((feedQueue_comp ..).trans ?_)
      split <;> simp
  · split
    · split
      · exact compared_of_comp ((feedQueue_comp ..).trans (by simp))
      · exact compared_of_comp (by simp)
    · rfl

theorem handAll_compared (k : Nat) (fs : List Formed) (s : State) : (handAll k fs s).compared = s.compared := by
  induction fs generalizing s with
  | nil => rfl
  | cons f r ih => rw [handAll, ih, handOn_compared]

theorem takeSamples_compared (k limit : Nat) (s : State) : (takeSamples k limit s).compared = s.compared := by
  unfold takeSamples
  dsimp only
  split
  · split
    · rw [handAll_compared]
      exact compared_of_comp (by simp)
    · rfl
  · rfl

theorem liveSync_compared (k : Nat) (s : State) : (liveSync k s).compared = s.compared := by
  unfold liveSync samplesThroughLast
  split
  · split
    · split
      · exact takeSamples_compared _ _ _
      · rfl
    · exact takeSamples_compared _ _ _
  · rfl

theorem liveSyncAll_compared (s : State) : (liveSyncAll s).compared = s.compared := by
  simp only [liveSyncAll, liveSync_compared]

theorem liveSyncAll_fe (s : State) : (liveSyncAll s).fe = s.fe := by simp [liveSyncAll]

end

/-! ## PRIMING: no stage waits for an annotation -/

/-- What live slots' sample points leave alone while no stage waits for an annotation. -/
structure Undisturbed (s t : State) : Prop where
  comp : t.comp = s.comp
  tap : t.tap = s.tap
  seq : t.seq = s.seq
  segs : t.store.segs = s.store.segs
  live : ∀ k, (t.slot k).live = (s.slot k).live
  alerts : ∀ arg, s.ports.con.records .loss arg → t.ports.con.records .loss arg

namespace Undisturbed

variable {s t u : State}

theorem refl (s : State) : Undisturbed s s := ⟨rfl, rfl, rfl, rfl, fun _ => rfl, fun _ h => h⟩

theorem trans (h : Undisturbed s t) (h' : Undisturbed t u) : Undisturbed s u :=
  ⟨h'.comp.trans h.comp, h'.tap.trans h.tap, h'.seq.trans h.seq, h'.segs.trans h.segs,
    fun k => (h'.live k).trans (h.live k), fun arg a => h'.alerts arg (h.alerts arg a)⟩

theorem setSlot {k : Nat} {x : Slot} (live : x.live = (s.slot k).live) : Undisturbed s (s.setSlot k x) := by
  refine ⟨rfl, rfl, rfl, rfl, fun j => ?_, fun _ h => h⟩
  by_cases inside : k < s.slots.length
  · rw [slot_setSlot inside]
    split
    · rename_i same
      rw [same, live]
    · rfl
  · have same : (s.setSlot k x).slots = s.slots := List.set_eq_of_length_le (by omega)
    rw [State.slot, same]
    rfl

theorem raiseStarter (k : Nat) {a : AlertKind} (other : a ≠ .loss) : Undisturbed s (raiseStarter k a s) := by
  have slots : (Machine.raiseStarter k a s).slots = s.slots := by simp
  refine ⟨by simp, by simp, by simp, by simp, fun j => by rw [State.slot, slots]; rfl, fun arg h => ?_⟩
  unfold Machine.raiseStarter
  split
  · rename_i p _
    cases p
    · exact h.raised _ other.symm
    · exact h
  · exact h

theorem queueEntry (k : Nat) (e : CharEntry) : Undisturbed s (queueEntry k e s) := by
  unfold Machine.queueEntry
  dsimp only
  split
  · have stored : Undisturbed s (s.setSlot k { s.slot k with queue := (s.slot k).queue ++ [e] }) := setSlot rfl
    split
    · exact stored.trans (raiseStarter k (by decide))
    · exact stored
  · have dropped : Undisturbed s (s.setSlot k
        { s.slot k with drops := satSucc 255 (s.slot k).drops, fullNotice := true }) := setSlot rfl
    split
    · exact dropped
    · exact dropped.trans (raiseStarter k (by decide))

theorem feedQueue (k : Nat) (f : Formed) : Undisturbed s (feedQueue k f s) := by
  unfold Machine.feedQueue
  split
  · exact queueEntry k _
  · exact refl s

theorem appendNote (k : Nat) (e : Note) : Undisturbed s (appendNote k e s) := by
  have slots : (Machine.appendNote k e s).slots = s.slots := by simp
  exact ⟨by simp, by simp, by simp, by simp, fun j => by rw [State.slot, slots]; rfl, fun _ h => by simpa using h⟩

theorem ringNote (k : Nat) (e : Note) : Undisturbed s (ringNote k e s) := by
  have slots : (Machine.ringNote k e s).slots = s.slots := by simp
  exact ⟨by simp, by simp, by simp, by simp, fun j => by rw [State.slot, slots]; rfl,
    fun _ h => by simpa [PortState.records] using h⟩

/-- A live slot's annotation while no stage waits for one. -/
theorem handOn {k : Nat} (f : Formed) (live : (s.slot k).live = true) (acq : ∀ j, s.seq.acq ≠ .hunting j) :
    Undisturbed s (handOn k f s) := by
  rw [handOn_live f live]
  unfold handLive
  dsimp only
  split
  · exact feedQueue k f
  · rename_i n _
    rw [offerNote_idle acq]
    split
    · exact (appendNote k _).trans (feedQueue k f)
    · exact (ringNote k _).trans (feedQueue k f)

theorem handAll {k : Nat} (fs : List Formed) (live : (s.slot k).live = true) (acq : ∀ j, s.seq.acq ≠ .hunting j) :
    Undisturbed s (handAll k fs s) := by
  induction fs generalizing s with
  | nil => exact refl s
  | cons f r ih =>
    have first := handOn f live acq
    exact first.trans (ih ((first.live k).trans live) (first.seq ▸ acq))

theorem takeSamples {k : Nat} (limit : Nat) (live : (s.slot k).live = true) (acq : ∀ j, s.seq.acq ≠ .hunting j) :
    Undisturbed s (takeSamples k limit s) := by
  unfold Machine.takeSamples
  dsimp only
  split
  · split
    · have walked : ∀ w, Undisturbed s (setWalk k w s) := fun w => setSlot rfl
      exact (walked _).trans (handAll _ (((walked _).live k).trans live) acq)
    · exact refl s
  · exact refl s

theorem liveSync (k : Nat) (acq : ∀ j, s.seq.acq ≠ .hunting j) : Undisturbed s (liveSync k s) := by
  unfold Machine.liveSync samplesThroughLast
  split
  · rename_i both
    have live : (s.slot k).live = true := (Bool.and_eq_true_iff.mp both).1
    split
    · split
      · exact takeSamples _ live acq
      · exact refl s
    · exact takeSamples _ live acq
  · exact refl s

theorem liveSyncAll (acq : ∀ j, s.seq.acq ≠ .hunting j) : Undisturbed s (liveSyncAll s) := by
  have first := liveSync 0 acq
  have second := first.trans (liveSync 1 (first.seq ▸ acq))
  have third := second.trans (liveSync 2 (second.seq ▸ acq))
  exact third.trans (liveSync 3 (third.seq ▸ acq))

end Undisturbed

end Sys2Proof.Machine
end

section
/-! PROOFS. One period of the sample clock: the staging stream, the tap stream, the stage in force (O49). -/

namespace Sys2Proof.Machine

/-! ## The staging stream at a tick (R22 to R27) -/

section
variable {c : Compressor} {t : Nat} {mk : Nat → Record} {lost : Nat}

theorem offerStaging_enters (shut : c.lossOpen = false) (short : t - c.stagingTime ≤ 16383)
    (room : c.staging.length ≤ 1021) : offerStaging t mk lost c =
      { c with staging := c.staging ++ [mk (t - c.stagingTime)], stagingTime := t } := by
  have fits : c.staging.length + [mk (t - c.stagingTime)].length ≤ Config.stagingAccept := by
    show _ + 1 ≤ 1022
    omega
  simp only [offerStaging, shut, Bool.false_eq_true, if_false, placeRecord_short short, if_pos fits]

theorem offerStaging_opens (shut : c.lossOpen = false) (short : t - c.stagingTime ≤ 16383)
    (full : 1022 ≤ c.staging.length) : offerStaging t mk lost c =
      { c with lossOpen := true, lostCount := lost, stagingTime := t
               staging := c.staging ++ [.mark (t - c.stagingTime) .lossBegin 0] } := by
  have more : ¬ c.staging.length + [mk (t - c.stagingTime)].length ≤ Config.stagingAccept := by
    show ¬ _ + 1 ≤ 1022
    omega
  simp only [offerStaging, shut, Bool.false_eq_true, if_false, placeRecord_short short, if_neg more]

theorem offerStaging_drops (opened : c.lossOpen = true) :
    offerStaging t mk lost c = { c with lostCount := min 4095 (c.lostCount + lost) } := if_pos opened

/-- Pods lost in a loss interval only count (R26). -/
theorem offerPods_drops (opened : c.lossOpen = true) (pods : List Nat) (few : c.lostCount + pods.length ≤ 4095) :
    offerPods t pods c = { c with lostCount := c.lostCount + pods.length } := by
  induction pods generalizing c with
  | nil => rfl
  | cons p r ih =>
    simp only [List.length_cons] at few
    have one : min 4095 (c.lostCount + 1) = c.lostCount + 1 := by omega
    rw [offerPods, offerStaging_drops opened, one, ih (by exact opened) (by show c.lostCount + 1 + _ ≤ _; omega)]
    simp only [List.length_cons, Nat.add_assoc, Nat.add_comm 1]

end

section
variable {s : State} {t n : Nat} {st : Half} {pods : List Nat}

/-- The compressor at a tick, before the tick's own events: what it had lost, and the pods lost. -/
def Compressor.atTick (c : Compressor) (pods : List Nat) : Compressor :=
    { c with tickBefore := c.lostCount, tickLost := pods }

/-- The staging stream's own TRANSITION at a tick, when the state changed. -/
def Compressor.offerState (c : Compressor) (t : Nat) (st : Half) : Compressor :=
  if st ≠ c.last then offerStaging t (fun d => .trans d st) 1 c else c

theorem stageTick_stays (h : s.comp.lossOpen = false ∨ 512 < s.comp.staging.length) :
    stageTick t st pods s = { s with comp := offerPods t pods ((s.comp.atTick pods).offerState t st) } := by
  have still : canCloseLoss (s.comp.atTick pods) t (s.comp.atTick pods).lostCount = false := canCloseLoss_shut _ _ h
  exact if_neg (by rw [Bool.not_eq_true]; exact still)

theorem stageTick_closes (opened : s.comp.lossOpen = true) (later : s.comp.stagingTime < t)
    (level : s.comp.staging.length ≤ 512) (short : t - s.comp.stagingTime ≤ 16383) :
    stageTick t st [] s = noteLoss
      { s with comp := closeLoss (s.comp.atTick []) t s.comp.lostCount (.base false st) } := by
  have can : canCloseLoss (s.comp.atTick []) t (s.comp.atTick []).lostCount = true :=
    canCloseLoss_opens (c := s.comp.atTick []) opened later level short
  exact if_pos can

theorem stageTick_seg (t : Nat) (st : Half) (pods : List Nat) (s : State) (n : Nat) :
    ∃ k, (stageTick t st pods s).seg n = { s.seg n with losses := k } := by
  unfold stageTick
  dsimp only
  split
  · exact noteLoss_seg _ n
  · exact ⟨(s.seg n).losses, rfl⟩

theorem offerStaging_tapTime (t : Nat) (mk : Nat → Record) (lost : Nat) (c : Compressor) :
    (offerStaging t mk lost c).tapTime = c.tapTime ∧ (offerStaging t mk lost c).last = c.last := by
  unfold offerStaging
  split
  · exact ⟨rfl, rfl⟩
  · dsimp only
    split <;> exact ⟨rfl, rfl⟩

theorem offerPods_tapTime (t : Nat) (pods : List Nat) (c : Compressor) : (offerPods t pods c).tapTime = c.tapTime := by
  induction pods generalizing c with
  | nil => rfl
  | cons p r ih => rw [offerPods, ih, (offerStaging_tapTime _ _ _ _).1]

theorem stageTick_tapTime (t : Nat) (st : Half) (pods : List Nat) (s : State) :
    (stageTick t st pods s).comp.tapTime = s.comp.tapTime := by
  unfold stageTick
  dsimp only
  split
  · simp [offerPods_tapTime, closeLoss]
  · rw [offerPods_tapTime]
    split
    · exact (offerStaging_tapTime _ _ _ _).1
    · rfl

end

/-! ## The tap stream at a tick (R34, R35, R37) -/

section
variable {s : State} {t n : Nat} {st was : Half} {owed : List Nat}

/-- The tap stream's operations change of the compressor its tap time only. -/
def TapTimed (s t : State) : Prop := ∃ x, t.comp = { s.comp with tapTime := x }

theorem TapTimed.refl (s : State) : TapTimed s s := ⟨s.comp.tapTime, rfl⟩

theorem TapTimed.trans {s t u : State} (h : TapTimed s t) (h' : TapTimed t u) : TapTimed s u := by
  obtain ⟨x, e⟩ := h
  obtain ⟨y, e'⟩ := h'
  exact ⟨y, by rw [e', e]⟩

theorem tapEvent_timed (t : Nat) (mk : Nat → Record) (owed : List Nat) (s : State) :
    TapTimed s (tapEvent t mk owed s) := by
  unfold tapEvent
  split
  · dsimp only
    split
    · exact ⟨t, rfl⟩
    · split <;> exact ⟨t, rfl⟩
  · exact .refl s

theorem tapBase_timed (t : Nat) (st : Half) (owed : List Nat) (s : State) : TapTimed s (tapBase t st owed s) := by
  unfold tapBase
  split
  · dsimp only
    split
    · exact ⟨t, rfl⟩
    · split <;> exact ⟨t, rfl⟩
  · exact .refl s

theorem tapPods_timed (t : Nat) (pods : List Nat) (s : State) : TapTimed s (tapPods t pods s) := by
  induction pods generalizing s with
  | nil => exact .refl s
  | cons p r ih => exact (tapEvent_timed ..).trans (ih _)

theorem joinTap_timed (t : Nat) (st : Half) (joining : List Nat) (s : State) : TapTimed s (joinTap t st joining s) := by
  induction joining generalizing s with
  | nil => exact .refl s
  | cons k r ih => exact (tapBase_timed ..).trans (ih _)

theorem closeTapGap_timed (t : Nat) (st : Half) (pods : List Nat) (s : State) :
    TapTimed s (closeTapGap t st pods s) := by
  unfold closeTapGap
  dsimp only
  split
  · refine TapTimed.trans ?_ (tapPods_timed ..)
    exact ⟨t, rfl⟩
  · exact ⟨s.comp.tapTime, rfl⟩

theorem tapTick_timed (t : Nat) (st was : Half) (pods : List Nat) (s : State) :
    TapTimed s (tapTick t st was pods s) := by
  unfold tapTick
  split
  · exact closeTapGap_timed ..
  · dsimp only
    refine TapTimed.trans ?_ (joinTap_timed ..)
    refine TapTimed.trans
      (t := tapPods t pods (if st ≠ was then tapEvent t (fun d => .trans d st) s.owers s else s)) ?_ ⟨_, rfl⟩
    refine TapTimed.trans ?_ (tapPods_timed ..)
    split
    · exact tapEvent_timed ..
    · exact .refl s

theorem tapEvent_enters (active : s.tapActive = true) (gap : s.tap.gapOpen = false) (live : owed ≠ [])
    (seg : s.seq.seg = some n) (early : s.comp.tapTime ≤ t) (short : t - s.comp.tapTime ≤ 16383)
    (room : s.tap.entries.length ≤ 255) : tapEvent t (fun d => .trans d st) owed s = { s with
      comp := { s.comp with tapTime := t }
      tap := { s.tap with entries := s.tap.entries ++
        [⟨.trans (t - s.comp.tapTime) st, t, false, owed, some n, (s.seg n).latched.divider⟩] } } := by
  have time : s.comp.tapTime + (t - s.comp.tapTime) = t := by omega
  have fits : owed.length = 0 ∨ s.tap.entries.length + 1 ≤ Config.tapDepth := by
    right
    show _ ≤ 256
    omega
  simp only [tapEvent, active, if_true, gap, Bool.false_eq_true, if_false, placeRecord_short short, timeRecords,
    Record.delta, time, List.length_singleton, if_pos fits, entriesOf_filling _ _ live seg, List.map_cons, List.map_nil]

theorem tapEvent_opens (active : s.tapActive = true) (gap : s.tap.gapOpen = false) (live : owed ≠ [])
    (short : t - s.comp.tapTime ≤ 16383) (full : 256 ≤ s.tap.entries.length) :
    tapEvent t (fun d => .trans d st) owed s = { s with
      comp := { s.comp with tapTime := t }, tap := { s.tap with gapOpen := true } } := by
  have more : ¬ (owed.length = 0 ∨ s.tap.entries.length + 1 ≤ Config.tapDepth) := by
    rintro (none | fits)
    · exact live (List.length_eq_zero_iff.mp none)
    · have : s.tap.entries.length + 1 ≤ 256 := fits
      omega
  simp only [tapEvent, active, if_true, gap, Bool.false_eq_true, if_false, placeRecord_short short, timeRecords,
    List.length_singleton, if_neg more]

theorem tapEvent_gap (mk : Nat → Record) (owed : List Nat) (gap : s.tap.gapOpen = true) :
    (tapEvent t mk owed s).tap = s.tap := by
  unfold tapEvent
  split
  · simp only [gap, if_true]
  · rfl

theorem tapBase_enters (active : s.tapActive = true) (gap : s.tap.gapOpen = false) (live : owed ≠ [])
    (seg : s.seq.seg = some n) (room : s.tap.entries.length ≤ 255) : tapBase t st owed s = { s with
      comp := { s.comp with tapTime := t }
      tap := { s.tap with entries := s.tap.entries ++
        [⟨.base false st, t, false, owed, some n, (s.seg n).latched.divider⟩] } } := by
  have fits : s.tap.entries.length + 1 ≤ Config.tapDepth := by
    show _ ≤ 256
    omega
  simp only [tapBase, active, if_true, gap, Bool.false_eq_true, if_false, if_pos fits, entriesOf_filling _ _ live seg,
    List.map_cons, List.map_nil]

theorem tapBase_opens (active : s.tapActive = true) (gap : s.tap.gapOpen = false) (full : 256 ≤ s.tap.entries.length) :
    tapBase t st owed s = { s with comp := { s.comp with tapTime := t }, tap := { s.tap with gapOpen := true } } := by
  have more : ¬ s.tap.entries.length + 1 ≤ Config.tapDepth := by
    show ¬ _ ≤ 256
    omega
  simp only [tapBase, active, if_true, gap, Bool.false_eq_true, if_false, if_neg more]

theorem joinTap_gap (joining : List Nat) (gap : s.tap.gapOpen = true) : (joinTap t st joining s).tap = s.tap := by
  induction joining generalizing s with
  | nil => rfl
  | cons k r ih =>
    have one : (tapBase t st [k] s).tap = s.tap := by
      unfold tapBase
      split
      · simp only [gap, if_true]
      · rfl
    rw [joinTap, ih (by rw [one]; exact gap), one]

theorem canCloseGap_shut (h : s.tap.gapOpen = false ∨ 128 < s.tap.entries.length) : s.canCloseGap = false := by
  rcases h with shut | level
  · simp [State.canCloseGap, shut]
  · have high : ¬ s.tap.entries.length ≤ Config.tapCloseLevel := Nat.not_le.mpr level
    simp [State.canCloseGap, high]

theorem canCloseGap_low (gap : s.tap.gapOpen = true) (level : s.tap.entries.length ≤ 128)
    (sampling : s.seq.acq.sampling = true) : s.canCloseGap = true := by
  have low : s.tap.entries.length ≤ Config.tapCloseLevel := level
  simp [State.canCloseGap, gap, low, sampling]

/-- A tick of the tap stream without a gap to close and without a pod lost. -/
theorem tapTick_goesOn (h : s.tap.gapOpen = false ∨ 128 < s.tap.entries.length) : tapTick t st was [] s =
    (let u := if st ≠ was then tapEvent t (fun d => .trans d st) s.owers s else s
     joinTap t st u.tap.joining { u with tap := { u.tap with joining := [] } }) := by
  rw [tapTick, if_neg (by rw [canCloseGap_shut h]; decide)]
  rfl

end

/-! ## The states a sampled tick passes through -/

/-- The tick counted and the inputs compared. -/
def State.sampledAt (v : List Int) (u : State) : State :=
  { u with fe := { (u.fe.compare v) with tick := u.fe.tick + 1, lost := [] } }

/-- The two streams formed. -/
def State.streamed (v : List Int) (u : State) : State :=
  tapTick (u.fe.tick + 1) (u.sampledAt v).delivered u.comp.last u.fe.lost
    (stageTick (u.fe.tick + 1) (u.sampledAt v).delivered u.fe.lost (u.sampledAt v))

/-- The state delivered stands as the last compared. -/
def State.delivering (v : List Int) (u : State) : State :=
  { u.streamed v with comp := { (u.streamed v).comp with
      last := (u.sampledAt v).delivered, lastTick := u.fe.tick + 1 } }

section
variable {v : List Int} {u : State} {n : Nat} {st : Half}

theorem sampledTick_eq (v : List Int) (u : State) : sampledTick v u =
    liveSyncAll (evaluatePattern (u.fe.tick + 1) (u.sampledAt v).delivered (u.delivering v)) := rfl

theorem delivered_eq (seg : u.seq.seg = some n) : (u.sampledAt v).delivered =
    (u.fe.compare v).levels &&& (u.seg n).latched.mask &&& (if u.fe.pod0.blanked then 0xFF00 else 0xFFFF) &&&
      (if u.fe.pod1.blanked then 0x00FF else 0xFFFF) := by
  have seg : (u.sampledAt v).seq.seg = some n := seg
  simp only [State.delivered, seg, blank_and]
  rfl

theorem delivering_leaves (v : List Int) (u : State) :
    (u.delivering v).fe = { (u.fe.compare v) with tick := u.fe.tick + 1, lost := [] } ∧
    (u.delivering v).seq = u.seq ∧ (u.delivering v).slots = u.slots ∧
    (u.delivering v).compared = ((u.sampledAt v).delivered, u.fe.tick + 1) ∧
    (u.delivering v).ports.con.levels = u.ports.con.levels ∧ (u.delivering v).store.blocks = u.store.blocks ∧
    (u.delivering v).store.freeList = u.store.freeList := by
  simp [State.delivering, State.streamed, State.sampledAt, State.compared]

/-- What a sampled tick leaves in every state of the acquisition. -/
theorem sampledTick_leaves (v : List Int) (u : State) :
    (sampledTick v u).fe = { (u.fe.compare v) with tick := u.fe.tick + 1, lost := [] } ∧
    (sampledTick v u).compared = ((u.sampledAt v).delivered, u.fe.tick + 1) := by
  obtain ⟨fe, _, _, compared, _⟩ := delivering_leaves v u
  rw [sampledTick_eq, liveSyncAll_fe, liveSyncAll_compared, evaluatePattern_compared]
  exact ⟨by simpa using fe, compared⟩

/-- In PRIMING nothing follows the streams but the live slots' sample points. -/
theorem sampledTick_priming (priming : u.seq.acq = .priming) : Undisturbed (u.delivering v) (sampledTick v u) := by
  obtain ⟨_, seq, _⟩ := delivering_leaves v u
  have still : evaluatePattern (u.fe.tick + 1) (u.sampledAt v).delivered (u.delivering v) = u.delivering v := by
    simp only [evaluatePattern, seq, priming]
  rw [sampledTick_eq, still]
  exact Undisturbed.liveSyncAll fun j => by rw [seq, priming]; exact AcqState.noConfusion

/-- The compressor after the streams, but for the tap time. -/
theorem delivering_comp (v : List Int) (u : State) : ∃ x, (u.delivering v).comp =
    { (stageTick (u.fe.tick + 1) (u.sampledAt v).delivered u.fe.lost (u.sampledAt v)).comp with
      tapTime := x, last := (u.sampledAt v).delivered, lastTick := u.fe.tick + 1 } := by
  obtain ⟨x, e⟩ := tapTick_timed (u.fe.tick + 1) (u.sampledAt v).delivered u.comp.last u.fe.lost
    (stageTick (u.fe.tick + 1) (u.sampledAt v).delivered u.fe.lost (u.sampledAt v))
  exact ⟨x, by rw [State.delivering, State.streamed, e]⟩

end

end Sys2Proof.Machine
end

section
/-! PROOFS. The clauses of a sampled tick: PRIMING outside and inside a loss interval, the tap, the stage in force, and
annotations offered (O49). -/

namespace Sys2Proof.Machine

section
variable {v : List Int} {u : State} {n g : Nat} {st : Half}

theorem stageTick_segs_length (t : Nat) (st : Half) (pods : List Nat) (s : State) :
    (stageTick t st pods s).store.segs.length = s.store.segs.length := by
  unfold stageTick noteLoss
  dsimp only
  split
  · split <;> simp
  · rfl

/-! ## PRIMING, outside a loss interval (R22 to R25) -/

/-- What PRIMING's tick leaves of the compressor: the staging stream's own. -/
theorem priming_comp (priming : u.seq.acq = .priming) : ∃ x, (sampledTick v u).comp =
    { (stageTick (u.fe.tick + 1) (u.sampledAt v).delivered u.fe.lost (u.sampledAt v)).comp with
      tapTime := x, last := (u.sampledAt v).delivered, lastTick := u.fe.tick + 1 } := by
  obtain ⟨x, e⟩ := delivering_comp v u
  exact ⟨x, (sampledTick_priming priming).comp.trans e⟩

theorem priming_staging_shut (priming : u.seq.acq = .priming) (shut : u.comp.lossOpen = false)
    (hst : st = (u.sampledAt v).delivered) (hg : g = u.fe.tick + 1 - u.comp.stagingTime) (short : g ≤ 16383) :
    (u.fe.lost = [] → st = u.comp.last → (sampledTick v u).comp.staging = u.comp.staging) ∧
    (u.fe.lost = [] → st ≠ u.comp.last → u.comp.staging.length ≤ 1021 →
      (sampledTick v u).comp.staging = u.comp.staging ++ [.trans g st] ∧
      (sampledTick v u).comp.stagingTime = u.fe.tick + 1) ∧
    (∀ pod, u.fe.lost = [pod] → st = u.comp.last → u.comp.staging.length ≤ 1021 →
      (sampledTick v u).comp.staging = u.comp.staging ++ [.mark g .podLost pod] ∧
      (sampledTick v u).comp.stagingTime = u.fe.tick + 1) ∧
    (∀ pod, u.fe.lost = [pod] → st ≠ u.comp.last → u.comp.staging.length ≤ 1020 →
      (sampledTick v u).comp.staging = u.comp.staging ++ [.trans g st, .mark 0 .podLost pod] ∧
      (sampledTick v u).comp.stagingTime = u.fe.tick + 1) ∧
    (∀ pods, u.fe.lost = pods → pods.length ≤ 2 → st ≠ u.comp.last → 1022 ≤ u.comp.staging.length →
      (sampledTick v u).comp.staging = u.comp.staging ++ [.mark g .lossBegin 0] ∧
      (sampledTick v u).comp.stagingTime = u.fe.tick + 1 ∧ (sampledTick v u).comp.lossOpen = true ∧
      (sampledTick v u).comp.lostCount = 1 + pods.length) := by
  obtain ⟨x, comp⟩ := priming_comp (v := v) priming
  subst hst hg
  generalize hst : (u.sampledAt v).delivered = st at comp
  rw [comp, stageTick_stays (Or.inl (by exact shut))]
  have kept : st = u.comp.last → ∀ pods, ((u.sampledAt v).comp.atTick pods).offerState (u.fe.tick + 1) st =
      u.comp.atTick pods := fun same pods => if_neg fun other => other same
  have moves : st ≠ u.comp.last → ∀ pods, ((u.sampledAt v).comp.atTick pods).offerState (u.fe.tick + 1) st =
      offerStaging (u.fe.tick + 1) (fun d => .trans d st) 1 (u.comp.atTick pods) :=
        fun other pods => if_pos (by exact other)
  have enters : ∀ pods, u.comp.staging.length ≤ 1021 →
      offerStaging (u.fe.tick + 1) (fun d => .trans d st) 1 (u.comp.atTick pods) = { u.comp.atTick pods with
        staging := u.comp.staging ++ [.trans (u.fe.tick + 1 - u.comp.stagingTime) st], stagingTime := u.fe.tick + 1 } :=
    fun pods room => offerStaging_enters (c := u.comp.atTick pods) shut short room
  refine ⟨fun none same => ?_, fun none other room => ?_, fun pod one same room => ?_, fun pod one other room => ?_,
    fun pods hp few other full => ?_⟩
  · rw [none, kept same]
    rfl
  · rw [none, moves other, enters _ room]
    exact ⟨rfl, rfl⟩
  · rw [one, kept same, offerPods, offerStaging_enters (c := u.comp.atTick [pod]) shut short room]
    exact ⟨rfl, rfl⟩
  · rw [one, moves other, enters _ (by omega), offerPods,
      offerStaging_enters (by exact shut) (by simp) (by simp; omega)]
    simp [offerPods]
  · subst hp
    rw [moves other, offerStaging_opens (c := u.comp.atTick u.fe.lost) shut short full,
      offerPods_drops rfl _ (by simp; omega)]
    exact ⟨rfl, rfl, rfl, rfl⟩

theorem noteLoss_comp (s : State) : (noteLoss s).comp = s.comp := by simp

/-! ## PRIMING, inside a loss interval (R26, R27) -/

theorem priming_staging_open (priming : u.seq.acq = .priming) (opened : u.comp.lossOpen = true)
    (later : u.comp.stagingTime ≤ u.fe.tick) (noPods : u.fe.lost = []) (seg : u.seq.seg = some n)
    (hst : st = (u.sampledAt v).delivered) :
    (512 < u.comp.staging.length → (sampledTick v u).comp.staging = u.comp.staging ∧
      (sampledTick v u).comp.lossOpen = true ∧ (sampledTick v u).comp.stagingTime = u.comp.stagingTime ∧
      (u.comp.lostCount ≤ 4095 → (sampledTick v u).comp.lostCount =
        if st = u.comp.last then u.comp.lostCount else min 4095 (u.comp.lostCount + 1))) ∧
    (u.comp.staging.length ≤ 512 → u.fe.tick + 1 - u.comp.stagingTime ≤ 16383 → n < u.store.segs.length →
      (sampledTick v u).comp.staging = u.comp.staging ++
        [.mark (u.fe.tick + 1 - u.comp.stagingTime) .lossEnd u.comp.lostCount, .base false st] ∧
      (sampledTick v u).comp.stagingTime = u.fe.tick + 1 ∧ (sampledTick v u).comp.lossOpen = false ∧
      (sampledTick v u).comp.lostCount = 0 ∧
      ((sampledTick v u).seg n).losses = satSucc 65535 (u.seg n).losses ∧
      (u.ports.con.level .loss ≠ .off → (sampledTick v u).ports.con.records .loss n)) := by
  obtain ⟨x, comp⟩ := priming_comp (v := v) priming
  subst hst
  have after := sampledTick_priming (v := v) priming
  have segs : (u.delivering v).store.segs =
      (stageTick (u.fe.tick + 1) (u.sampledAt v).delivered u.fe.lost (u.sampledAt v)).store.segs := by
    simp [State.delivering, State.streamed]
  have ports : (u.delivering v).ports =
      (stageTick (u.fe.tick + 1) (u.sampledAt v).delivered u.fe.lost (u.sampledAt v)).ports := by
    simp [State.delivering, State.streamed]
  rw [noPods] at comp segs ports
  generalize (u.sampledAt v).delivered = st at comp segs ports
  refine ⟨fun level => ?_, fun level short inside => ?_⟩
  · rw [comp, stageTick_stays (Or.inr (by exact level))]
    by_cases same : st = u.comp.last
    · have kept : ((u.sampledAt v).comp.atTick []).offerState (u.fe.tick + 1) st = u.comp.atTick [] :=
        if_neg fun other => other same
      rw [kept, if_pos same]
      exact ⟨rfl, opened, rfl, fun _ => rfl⟩
    · have counts : ((u.sampledAt v).comp.atTick []).offerState (u.fe.tick + 1) st =
          { u.comp.atTick [] with lostCount := min 4095 (u.comp.lostCount + 1) } :=
        (if_pos (by exact same)).trans (offerStaging_drops (c := u.comp.atTick []) opened)
      rw [counts, if_neg same]
      exact ⟨rfl, opened, rfl, fun _ => rfl⟩
  · have closes := stageTick_closes (st := st) (s := u.sampledAt v) opened (Nat.lt_succ_of_le later) level short
    have compS : (stageTick (u.fe.tick + 1) st [] (u.sampledAt v)).comp = { u.comp.atTick [] with
        staging := u.comp.staging ++ [.mark (u.fe.tick + 1 - u.comp.stagingTime) .lossEnd u.comp.lostCount,
          .base false st]
        stagingTime := u.fe.tick + 1, lossOpen := false, lostCount := 0, heldEnd := false } := by
      rw [closes, noteLoss_comp]
      exact closeLoss_short (c := u.comp.atTick []) (.base false st) short
    have noted := closes.trans (noteLoss_filling (by exact seg))
    rw [comp, compS]
    refine ⟨rfl, rfl, rfl, rfl, ?_, fun wanted => ?_⟩
    · have entry : (sampledTick v u).seg n = { u.seg n with losses := satSucc 65535 (u.seg n).losses } := by
        rw [State.seg, after.segs, segs, noted]
        exact getD_set_self _ _ _ _ inside
      rw [entry]
    · refine after.alerts n ?_
      rw [ports, noted]
      exact PortState.raised_records n wanted

end

/-! ## The tap (R34, R35, R37) -/

section
variable {s : State} {t n j : Nat} {st was : Half}

theorem tapTick_event (active : s.tapActive = true) (gap : s.tap.gapOpen = false) (nobody : s.tap.joining = [])
    (live : s.owers ≠ []) (seg : s.seq.seg = some n) (other : st ≠ was) (early : s.comp.tapTime ≤ t)
    (short : t - s.comp.tapTime ≤ 16383) :
    (tapTick t st was [] s).comp.tapTime = t ∧
    (s.tap.entries.length ≤ 255 → (tapTick t st was [] s).tap.gapOpen = false ∧
      (tapTick t st was [] s).tap.entries = s.tap.entries ++
        [⟨.trans (t - s.comp.tapTime) st, t, false, s.owers, some n, (s.seg n).latched.divider⟩]) ∧
    (256 ≤ s.tap.entries.length → (tapTick t st was [] s).tap.gapOpen = true ∧
      (tapTick t st was [] s).tap.entries = s.tap.entries) := by
  have run : tapTick t st was [] s = (let u := tapEvent t (fun d => .trans d st) s.owers s
      joinTap t st u.tap.joining { u with tap := { u.tap with joining := [] } }) := by
    rw [tapTick_goesOn (Or.inl gap), if_pos other]
  by_cases room : s.tap.entries.length ≤ 255
  · rw [run, tapEvent_enters active gap live seg early short room]
    dsimp only
    rw [nobody]
    exact ⟨rfl, fun _ => ⟨gap, rfl⟩, fun full => by omega⟩
  · rw [run, tapEvent_opens active gap live short (by omega)]
    dsimp only
    rw [nobody]
    exact ⟨rfl, fun room' => absurd room' room, fun _ => ⟨rfl, rfl⟩⟩

theorem tapTick_joins (active : s.tapActive = true) (gap : s.tap.gapOpen = false) (joins : s.tap.joining = [j])
    (seg : s.seq.seg = some n) : (tapTick t st st [] s).tap.joining = [] ∧
    (s.tap.entries.length ≤ 255 → (tapTick t st st [] s).tap.gapOpen = false ∧
      (tapTick t st st [] s).tap.entries = s.tap.entries ++
        [⟨.base false st, t, false, [j], some n, (s.seg n).latched.divider⟩]) ∧
    (256 ≤ s.tap.entries.length → (tapTick t st st [] s).tap.gapOpen = true ∧
      (tapTick t st st [] s).tap.entries = s.tap.entries) := by
  have run : tapTick t st st [] s = tapBase t st [j] { s with tap := { s.tap with joining := [] } } := by
    rw [tapTick_goesOn (Or.inl gap), if_neg (fun other => other rfl)]
    simp only [joins, joinTap]
  by_cases room : s.tap.entries.length ≤ 255
  · rw [run, tapBase_enters (s := { s with tap := { s.tap with joining := [] } }) active gap (by simp) seg room]
    exact ⟨rfl, fun _ => ⟨gap, rfl⟩, fun full => by omega⟩
  · rw [run, tapBase_opens (s := { s with tap := { s.tap with joining := [] } }) active gap (by show 256 ≤ s.tap.entries.length; omega)]
    exact ⟨rfl, fun room' => absurd room' room, fun _ => ⟨rfl, rfl⟩⟩

theorem tapTick_gap (gap : s.tap.gapOpen = true) (sampling : s.seq.acq.sampling = true) (unheld : s.tap.heldEnd = none)
    (seg : s.seq.seg = some n) (live : s.allOwers ≠ []) :
    (s.tap.entries.length ≤ 128 → (tapTick t st was [] s).tap.gapOpen = false ∧
      (tapTick t st was [] s).tap.joining = [] ∧ (tapTick t st was [] s).tap.entries = s.tap.entries ++
        [⟨.base false st, t, true, s.allOwers, some n, (s.seg n).latched.divider⟩]) ∧
    (128 < s.tap.entries.length → (tapTick t st was [] s).tap.gapOpen = true ∧
      (tapTick t st was [] s).tap.entries = s.tap.entries) := by
  refine ⟨fun level => ?_, fun level => ?_⟩
  · rw [tapTick, if_pos (canCloseGap_low gap level sampling), closeTapGap_sampling t st sampling unheld seg live]
    exact ⟨rfl, rfl, rfl⟩
  · have event : (if st ≠ was then tapEvent t (fun d => .trans d st) s.owers s else s).tap = s.tap := by
      split
      · exact tapEvent_gap _ _ gap
      · rfl
    rw [tapTick_goesOn (Or.inr level)]
    dsimp only
    rw [joinTap_gap _ (by show (if st ≠ was then _ else s).tap.gapOpen = true; rw [event]; exact gap)]
    show (if st ≠ was then _ else s).tap.gapOpen = true ∧ (if st ≠ was then _ else s).tap.entries = _
    rw [event]
    exact ⟨gap, rfl⟩

end

section
variable {v : List Int} {u : State} {n : Nat} {st : Half}

/-- The state the tap stream of a tick starts from: the staging stream formed. -/
def State.staged (v : List Int) (u : State) : State :=
  stageTick (u.fe.tick + 1) (u.sampledAt v).delivered u.fe.lost (u.sampledAt v)

theorem staged_leaves (v : List Int) (u : State) (n : Nat) :
    (u.staged v).tap = u.tap ∧ (u.staged v).seq = u.seq ∧ (u.staged v).comp.tapTime = u.comp.tapTime ∧
    (u.staged v).liveSlots = u.liveSlots ∧ (u.staged v).owers = u.owers ∧ (u.staged v).allOwers = u.allOwers ∧
    ∃ k, (u.staged v).seg n = { u.seg n with losses := k } := by
  have tap : (u.staged v).tap = u.tap := by simp [State.staged, State.sampledAt]
  have slots : (u.staged v).slots = u.slots := by simp [State.staged, State.sampledAt]
  refine ⟨tap, by simp [State.staged, State.sampledAt], stageTick_tapTime .., ?_, ?_, ?_, stageTick_seg ..⟩
  · simp only [State.liveSlots, State.slot, slots]
  · simp only [State.owers, State.liveSlots, State.slot, slots, tap]
  · simp only [State.allOwers, State.liveSlots, State.slot, slots]

theorem priming_tap (priming : u.seq.acq = .priming) (live : u.liveSlots ≠ []) (noPods : u.fe.lost = [])
    (early : u.comp.tapTime ≤ u.fe.tick) (unheld : u.tap.heldEnd = none) (seg : u.seq.seg = some n)
    (hst : st = (u.sampledAt v).delivered) :
    (u.tap.gapOpen = false → u.tap.joining = [] → u.owers ≠ [] → st ≠ u.comp.last →
      u.fe.tick + 1 - u.comp.tapTime ≤ 16383 → (sampledTick v u).comp.tapTime = u.fe.tick + 1 ∧
      (u.tap.entries.length ≤ 255 → (sampledTick v u).tap.gapOpen = false ∧ (sampledTick v u).tap.entries =
        u.tap.entries ++ [⟨.trans (u.fe.tick + 1 - u.comp.tapTime) st, u.fe.tick + 1, false, u.owers, some n,
          (u.seg n).latched.divider⟩]) ∧
      (256 ≤ u.tap.entries.length →
        (sampledTick v u).tap.gapOpen = true ∧ (sampledTick v u).tap.entries = u.tap.entries)) ∧
    (∀ j, u.tap.gapOpen = false → u.tap.joining = [j] → st = u.comp.last → (sampledTick v u).tap.joining = [] ∧
      (u.tap.entries.length ≤ 255 → (sampledTick v u).tap.gapOpen = false ∧ (sampledTick v u).tap.entries =
        u.tap.entries ++ [⟨.base false st, u.fe.tick + 1, false, [j], some n, (u.seg n).latched.divider⟩]) ∧
      (256 ≤ u.tap.entries.length →
        (sampledTick v u).tap.gapOpen = true ∧ (sampledTick v u).tap.entries = u.tap.entries)) ∧
    (u.tap.gapOpen = true → u.allOwers ≠ [] →
      (u.tap.entries.length ≤ 128 → (sampledTick v u).tap.gapOpen = false ∧ (sampledTick v u).tap.joining = [] ∧
        (sampledTick v u).tap.entries = u.tap.entries ++
          [⟨.base false st, u.fe.tick + 1, true, u.allOwers, some n, (u.seg n).latched.divider⟩]) ∧
      (128 < u.tap.entries.length →
        (sampledTick v u).tap.gapOpen = true ∧ (sampledTick v u).tap.entries = u.tap.entries)) := by
  have after := sampledTick_priming (v := v) priming
  have streamed : u.delivering v = { tapTick (u.fe.tick + 1) st u.comp.last [] (u.staged v) with
      comp := { (tapTick (u.fe.tick + 1) st u.comp.last [] (u.staged v)).comp with last := st, lastTick :=
        u.fe.tick + 1 } } := by
    rw [State.delivering, State.streamed, hst, ← noPods]
    rfl
  rw [after.comp, after.tap, streamed]
  obtain ⟨tap, seq, time, liveS, owers, allOwers, k, entry⟩ := staged_leaves v u n
  generalize u.staged v = s at tap seq time liveS owers allOwers entry
  have active : s.tapActive = true := tapActive_iff.mpr (by rw [liveS]; exact live)
  have divider : (s.seg n).latched.divider = (u.seg n).latched.divider := by rw [entry]
  rw [← tap, ← time, ← owers, ← allOwers, ← divider]
  rw [← tap] at unheld
  rw [← time] at early
  rw [← seq] at seg
  have sampling : s.seq.acq.sampling = true := by rw [seq, priming]; rfl
  exact ⟨fun gap nobody owed other short => tapTick_event active gap nobody owed seg other (by omega) short,
    fun j gap joins same => same ▸ tapTick_joins active gap joins seg,
    fun gap owed => tapTick_gap gap sampling unheld seg owed⟩

end

/-! ## Pattern conditions and qualifiers (R44 to R46) -/

theorem chanHolds_iff (c : ChanCond) (was is : Bool) : chanHolds c was is = true ↔
    c = .ignore ∨ (c = .low ∧ is = false) ∨ (c = .high ∧ is = true) ∨ (c = .rise ∧ was = false ∧ is = true) ∨
    (c = .fall ∧ was = true ∧ is = false) ∨ (c = .edge ∧ was ≠ is) := by
  cases c <;> cases was <;> cases is <;> simp [chanHolds]

theorem patternHolds_iff (cs : List ChanCond) (from' : Nat) (was is : Half) : patternHolds cs from' was is = true ↔
    ∀ k c, cs[k]? = some c → chanHolds c (was.getLsbD (from' + k)) (is.getLsbD (from' + k)) = true := by
  induction cs generalizing from' with
  | nil => simp [patternHolds]
  | cons c r ih =>
    rw [patternHolds, Bool.and_eq_true, ih]
    constructor
    · rintro ⟨head, tail⟩ k d hk
      cases k with
      | zero =>
        obtain rfl : c = d := by simpa using hk
        exact head
      | succ k =>
        have rest := tail k d (by simpa using hk)
        rwa [Nat.add_assoc, Nat.add_comm 1 k] at rest
    · refine fun h => ⟨h 0 c rfl, fun k d hk => ?_⟩
      have rest := h (k + 1) d (by simpa using hk)
      rwa [Nat.add_assoc, Nat.add_comm 1 k]

theorem satSucc_min {limit n : Nat} (h : n ≤ limit) : satSucc limit n = min limit (n + 1) := by
  unfold satSucc
  split <;> omega

theorem qualify_cases {held holds : Bool} {run m : Nat} (hr : run ≤ 65535) (hm : m ≤ 65535) :
    qualify .none held holds run = (run, holds && !held) ∧
    (holds = true → qualify (.heldAtLeast m) held holds run = (min 65535 (run + 1), decide (run + 1 = m)) ∧
      qualify (.heldLessThan m) held holds run = (min 65535 (run + 1), false)) ∧
    (holds = false → qualify (.heldAtLeast m) held holds run = (0, false) ∧
      qualify (.heldLessThan m) held holds run = (0, decide (1 ≤ run ∧ run < m))) := by
  refine ⟨rfl, fun yes => ?_, fun no => ?_⟩
  · subst yes
    have reached : (decide (run < m) && decide (min 65535 (run + 1) = m)) = decide (run + 1 = m) := by
      rw [← Bool.decide_and]
      exact decide_eq_decide.mpr (by omega)
    simp only [qualify, if_true, satSucc_min hr, reached, and_self]
  · subst no
    simp [qualify]

/-! ## The stage in force (R44 to R50) -/

section
variable {s : State} {k t n : Nat} {st : Half}

theorem stageMatch_counts {e : Nat} (more : s.seq.matchCount + 1 < (s.stageAt k).count) :
    stageMatch k e t s = { s with seq := { s.seq with matchCount := s.seq.matchCount + 1 } } :=
  if_neg (Nat.not_le.mpr more)

theorem stageMatch_moves {e i : Nat} (enough : (s.stageAt k).count ≤ s.seq.matchCount + 1)
    (next : (s.stageAt k).next = .stage i) : stageMatch k e t s = enterStage i e s := by
  refine (if_pos enough).trans ?_
  rw [next]
  rfl

theorem stageMatch_final {e : Nat} (enough : (s.stageAt k).count ≤ s.seq.matchCount + 1)
    (next : (s.stageAt k).next = .final) : stageMatch k e t s = takeTrigger t false s := by
  refine (if_pos enough).trans ?_
  rw [next]
  rfl

/-- The sequencer after the evaluation of a PATTERN stage, before what a match does. -/
def State.evaluated (cs : List ChanCond) (run : Nat) (st : Half) (s : State) : State :=
  { s with seq := { s.seq with run := run, held := patternHolds cs 0 s.seq.prev st, prev := st } }

theorem evaluatePattern_pattern {cs : List ChanCond} {run : Nat} {hit : Bool} (acq : s.seq.acq = .hunting k)
    (cond : (s.stageAt k).cond = .pattern cs)
    (judged : qualify (s.stageAt k).qualifier s.seq.held (patternHolds cs 0 s.seq.prev st) s.seq.run = (run, hit)) :
    evaluatePattern t st s = if hit then stageMatch k t t (s.evaluated cs run st) else s.evaluated cs run st := by
  have record : s.evaluated cs run st = { s with seq := { s.seq with
      acq := .hunting k, run := run, held := patternHolds cs 0 s.seq.prev st, prev := st } } := by
    rw [State.evaluated, ← acq]
  rw [record]
  simp only [evaluatePattern, acq, cond, judged]

/-- Without live slots no sample point is taken. -/
theorem liveSyncAll_none (h : s.liveSlots = []) : liveSyncAll s = s := by
  refine liveSyncAll_owing fun k small live => ?_
  have mem : k ∈ s.liveSlots := List.mem_filter.mpr ⟨List.mem_range.mpr small, live⟩
  rw [h] at mem
  cases mem

/-- What the trigger leaves of the sequencer, whether POSTFILL goes on or the segment stops. -/
theorem takeTrigger_leaves {forced : Bool} (seg : s.seq.seg = some n) (inside : n < s.store.segs.length)
    (room : 1032 ≤ s.freePlaces n) (p : Port) :
    ((takeTrigger t forced s).seg n).trigger =
      some { tick := max t (s.seg n).start, forced := forced, clamped := t < (s.seg n).start } ∧
    (takeTrigger t forced s).seq.matchCount = 0 ∧ (takeTrigger t forced s).seq.run = 0 ∧
    (takeTrigger t forced s).seq.held = false ∧ (takeTrigger t forced s).seq.expiry = none ∧
    (s.fe.tick < max t (s.seg n).start + s.seq.params.pPost → (takeTrigger t forced s).seq.acq = .postfill) ∧
    (max t (s.seg n).start + s.seq.params.pPost ≤ s.fe.tick → (takeTrigger t forced s).seq.acq = .draining ∧
      (takeTrigger t forced s).seq.stopTick = some (s.fe.tick + 1) ∧
      (takeTrigger t forced s).seq.reason = some .complete) ∧
    (takeTrigger t forced s).slots = s.slots := by
  have trigger := withTrigger_trigger (t := t) (forced := forced) seg inside
  have run : takeTrigger t forced s = postfillTest (withTrigger n t forced s) := by
    rw [takeTrigger_filling seg, reserveTest_room true seg room]
  obtain ⟨trig, _⟩ := postfillTest_keeps (withTrigger n t forced s) p n
  have slots : (withTrigger n t forced s).slots = s.slots := by simp [withTrigger]
  rw [withTrigger_seg inside] at trig
  by_cases later : s.fe.tick < max t (s.seg n).start + s.seq.params.pPost
  · have goes := postfillTest_goesOn trigger later
    rw [run]
    refine ⟨trig, ?_⟩
    rw [goes]
    exact ⟨rfl, rfl, rfl, rfl, fun _ => rfl, fun past => by omega, slots⟩
  · have stops := postfillTest_stops (s := withTrigger n t forced s) rfl trigger (Nat.not_lt.mp later)
    rw [run]
    refine ⟨trig, ?_⟩
    rw [stops, stopSegment_seq]
    exact ⟨rfl, rfl, rfl, rfl, fun sooner => absurd sooner later, fun _ => ⟨rfl, rfl, rfl⟩, by simp [slots]⟩

end

section
variable {v : List Int} {u : State} {n j : Nat} {st : Half}

/-- A tick of a PATTERN stage without live slots: the evaluation, on the state delivered. -/
theorem sampledTick_hunting {cs : List ChanCond} {run : Nat} {hit : Bool} (acq : u.seq.acq = .hunting j)
    (silent : u.liveSlots = []) (seg : u.seq.seg = some n) (cond : (u.stageAt j).cond = .pattern cs)
    (hst : st = (u.sampledAt v).delivered)
    (judged : qualify (u.stageAt j).qualifier u.seq.held (patternHolds cs 0 u.seq.prev st) u.seq.run = (run, hit)) :
    ∃ d : State, sampledTick v u = liveSyncAll (if hit then stageMatch j (u.fe.tick + 1) (u.fe.tick + 1) d else d) ∧
      d.liveSlots = [] ∧ d.comp.last = st ∧ d.fe.tick = u.fe.tick + 1 ∧ d.ports.con.levels = u.ports.con.levels ∧
      d.seq = { u.seq with run := run, held := patternHolds cs 0 u.seq.prev st, prev := st } ∧
      d.store.segs.length = u.store.segs.length ∧ d.freePlaces n = u.freePlaces n ∧ (d.seg n).start =
        (u.seg n).start := by
  subst hst
  obtain ⟨fe, seq, slots, compared, levels, blocks, _⟩ := delivering_leaves v u
  have run' := evaluatePattern_pattern (s := u.delivering v) (t := u.fe.tick + 1) (k := j) (cs := cs) (run := run)
    (hit := hit)
    (st := (u.sampledAt v).delivered) (by rw [seq]; exact acq) (by rw [State.stageAt, seq]; exact cond)
    (by rw [State.stageAt, seq]; exact judged)
  obtain ⟨k, entry⟩ := stageTick_seg (u.fe.tick + 1) (u.sampledAt v).delivered u.fe.lost (u.sampledAt v) n
  have same : (u.delivering v).seg n = { u.seg n with losses := k } := by
    rw [← show (u.sampledAt v).seg n = u.seg n from rfl, ← entry]
    exact seg_congr (by simp [State.delivering, State.streamed]) n
  refine ⟨(u.delivering v).evaluated cs run (u.sampledAt v).delivered, by rw [sampledTick_eq, run'], ?_,
    congrArg Prod.fst compared, ?_, levels, ?_, ?_, ?_, ?_⟩
  · rw [← silent]
    show (u.delivering v).liveSlots = _
    simp only [State.liveSlots, State.slot, slots]
  · show (u.delivering v).fe.tick = _
    rw [fe]
  · rw [State.evaluated, seq]
  · show (u.delivering v).store.segs.length = _
    simp [State.delivering, State.streamed, stageTick_segs_length, State.sampledAt]
  · show (u.delivering v).freePlaces n = _
    simp only [State.freePlaces, same, Store.block, blocks]
  · show ((u.delivering v).seg n).start = _
    rw [same]

end

end Sys2Proof.Machine
end

section
/-! PROOFS. One period of the sample clock, in each state of the acquisition, and annotations offered (O49). -/

namespace Sys2Proof.Machine

section
variable {v : List Int} {u : State} {n j : Nat} {st : Half}

/-- What a matched stage leads to, at a tick without live slots. -/
theorem sampledTick_stage {cs : List ChanCond} {run : Nat} {hit : Bool} (acq : u.seq.acq = .hunting j)
    (silent : u.liveSlots = []) (seg : u.seq.seg = some n) (cond : (u.stageAt j).cond = .pattern cs)
    (hst : st = (u.sampledAt v).delivered)
    (judged : qualify (u.stageAt j).qualifier u.seq.held (patternHolds cs 0 u.seq.prev st) u.seq.run = (run, hit)) :
    (hit = false → (sampledTick v u).seq = { u.seq with
      run := run, held := patternHolds cs 0 u.seq.prev st, prev := st }) ∧
    (hit = true → u.seq.matchCount + 1 < (u.stageAt j).count → (sampledTick v u).seq = { u.seq with
      run := run, held := patternHolds cs 0 u.seq.prev st, prev := st
      matchCount := u.seq.matchCount + 1 }) ∧
    (∀ i, hit = true → (u.stageAt j).count ≤ u.seq.matchCount + 1 → (u.stageAt j).next = .stage i →
      (sampledTick v u).seq = { u.seq with
        acq := .hunting i, entryTick := u.fe.tick + 1, matchCount := 0, run := 0, held := false, prev := st
        expiry := if (u.stageAt i).timeout = 0 then none else some (u.fe.tick + 1 + (u.stageAt i).timeout) }) ∧
    (∀ start, hit = true → (u.stageAt j).count ≤ u.seq.matchCount + 1 → (u.stageAt j).next = .final →
      n < u.store.segs.length → 1032 ≤ u.freePlaces n → start = (u.seg n).start →
      ((sampledTick v u).seg n).trigger = some { tick := max (u.fe.tick + 1) start, forced := false,
                                                 clamped := decide (u.fe.tick + 1 < start) } ∧
      (sampledTick v u).seq.matchCount = 0 ∧ (sampledTick v u).seq.run = 0 ∧ (sampledTick v u).seq.held = false ∧
      (sampledTick v u).seq.expiry = none ∧
      (u.ports.con.level .triggered ≠ .off → (sampledTick v u).ports.con.records .triggered n) ∧
      (u.fe.tick + 1 < max (u.fe.tick + 1) start + u.seq.params.pPost → (sampledTick v u).seq.acq = .postfill) ∧
      (u.seq.params.pPost = 0 → start ≤ u.fe.tick + 1 → (sampledTick v u).seq.acq = .draining ∧
        (sampledTick v u).seq.stopTick = some (u.fe.tick + 2) ∧ (sampledTick v u).seq.reason = some .complete)) := by
  obtain ⟨d, after, quiet, last, tick, levels, seq, segs, places, begun⟩ :=
    sampledTick_hunting (v := v) acq silent seg cond hst judged
  have stage : ∀ i, d.stageAt i = u.stageAt i := fun i => by rw [State.stageAt, seq]; rfl
  have count : d.seq.matchCount = u.seq.matchCount := by rw [seq]
  rw [after]
  refine ⟨fun miss => ?_, fun matched more => ?_, fun i matched enough next => ?_,
    fun start matched enough next inside room hs => ?_⟩
  · subst miss
    rw [if_neg Bool.false_ne_true, liveSyncAll_none quiet, seq]
  · subst matched
    rw [if_pos rfl, stageMatch_counts (by rw [count, stage]; exact more), liveSyncAll_none (by exact quiet), seq]
  · subst matched
    rw [if_pos rfl, stageMatch_moves (by rw [count, stage]; exact enough) (by rw [stage]; exact next),
      liveSyncAll_none (by exact quiet)]
    show (enterStage i (u.fe.tick + 1) d).seq = _
    simp only [enterStage, stage, last, seq]
  · subst matched hs
    have filling : d.seq.seg = some n := by rw [seq]; exact seg
    obtain ⟨trigger, matches', run', held, expiry, goes, stops, slots⟩ := takeTrigger_leaves (t := u.fe.tick + 1)
      (forced := false) filling (by rw [segs]; exact inside) (by rw [places]; exact room) .console
    have still : (takeTrigger (u.fe.tick + 1) false d).liveSlots = [] := by
      rw [← quiet]
      simp only [State.liveSlots, State.slot, slots]
    rw [if_pos rfl, stageMatch_final (by rw [count, stage]; exact enough) (by rw [stage]; exact next),
      liveSyncAll_none still]
    rw [begun] at trigger
    rw [tick, begun, seq] at goes stops
    refine ⟨trigger, matches', run', held, expiry, fun wanted => takeTrigger_records (p := .console) filling ?_, goes,
      fun zero early => stops (by show max (u.fe.tick + 1) (u.seg n).start + u.seq.params.pPost ≤ _; omega)⟩
    exact fun off => wanted ((PortState.level_congr levels _).symm.trans off)

end

/-- An annotation of the segment in force that a DECODER stage asks for matches it; any other leaves everything. -/
theorem offerNote_decoder {slot seg kind stop value j gSlot gKind gValue gMask : Nat} {s : State}
    (acq : s.seq.acq = .hunting j) (cond : (s.stageAt j).cond = .decoder gSlot gKind gValue gMask) :
    offerNote slot seg kind stop value s =
      if slot = gSlot ∧ some seg = s.seq.seg ∧ kind = gKind ∧ value &&& gMask = gValue &&& gMask then
        stageMatch j s.fe.tick (min stop s.fe.tick) s
      else s := by
  unfold offerNote
  split
  · next k hunting =>
    obtain rfl : k = j := AcqState.hunting.inj (hunting.symm.trans acq)
    rw [cond]
  · next other => exact absurd acq (other j)

/-! ## Each state of the acquisition (R12, R13, R22) -/

section
variable {v : List Int} {s u : State}

theorem tickOnce_idle (hu : u = settle s) (idle : u.seq.acq = .idle) :
    tickOnce v s = closeIdleGap { u with fe := u.fe.compare v } := by
  subst hu
  exact if_pos idle

theorem tickOnce_draining (hu : u = settle s) (draining : u.seq.acq = .draining) : tickOnce v s = drainTick v u := by
  subst hu
  refine (if_neg ?_).trans (if_neg ?_) <;> rw [draining] <;> decide

theorem tickOnce_sampling (hu : u = settle s) (sampling : u.seq.acq.sampling = true) : tickOnce v s =
    if Config.tickLimit ≤ u.fe.tick + 1 then timeLimitTest { u with fe := u.fe.compare v } else sampledTick v u := by
  subst hu
  exact (if_neg fun idle => by rw [idle] at sampling; cases sampling).trans (if_pos sampling)

theorem tickOnce_sampled (hu : u = settle s) (sampling : u.seq.acq.sampling = true)
    (early : u.fe.tick + 1 < 140737488355328) : tickOnce v s = sampledTick v u := by
  have limit : Config.tickLimit = 140737488355328 := rfl
  rw [tickOnce_sampling hu sampling, limit, if_neg (Nat.not_le.mpr early)]

theorem drainTick_fe (v : List Int) (u : State) :
    (drainTick v u).fe = { u.fe.compare v with tick := (u.fe.tick + 1) % Config.tickSpan } := by
  unfold drainTick
  dsimp only
  split <;> simp

/-- Settles O49: the tick by the state of the acquisition; while samples are taken by PRIMING's two streams and by the
stage in force. -/
theorem sampleTickResult : Obligations.SampleTickResult := by
  unfold Obligations.SampleTickResult
  refine ⟨fun f v k hk => ⟨compare_unpowered hk, fun th powered hth => ⟨fun high => ?_, fun low => ?_⟩⟩,
    fun v s unclocked => congrArg Host.Outcome.next (if_neg (by rw [unclocked]; decide)),
    fun v s u clocked hu => ⟨tickOnce v s, congrArg Host.Outcome.next (if_pos clocked), ?_, fun idle => ?_,
      fun draining => ?_, fun n st sampling early seg hst => ?_⟩, fun cs was is => ?_,
        fun held holds run m => qualify_cases,
    fun slot seg kind stop value j gSlot gKind gValue gMask s acq cond => ⟨fun other => ?_,
      fun hs hseg hk hv => ⟨fun more => ?_,
      fun i enough next => ?_, fun enough next => ?_⟩⟩⟩
  · subst hth
    rw [compare_powered hk (by exact powered), comparator_eq, high]
    exact decide_eq_true_iff
  · subst hth
    rw [compare_powered hk (by exact powered), comparator_eq, low]
    exact decide_eq_true_iff
  · by_cases idle : u.seq.acq = .idle
    · rw [tickOnce_idle hu idle]
      simp
    · by_cases sampling : u.seq.acq.sampling = true
      · rw [tickOnce_sampling hu sampling]
        split
        · next limit =>
          rw [timeLimitTest_reached (s := { u with fe := u.fe.compare v }) sampling limit]
          simp
        · rw [(sampledTick_leaves v u).1]
      · have draining : tickOnce v s = drainTick v u := by
          subst hu
          exact (if_neg idle).trans (if_neg sampling)
        rw [draining, drainTick_fe]
  · rw [tickOnce_idle hu idle]
    simp [FrontEnd.compare]
  · rw [tickOnce_draining hu draining, drainTick_fe]
    rfl
  · have state : st = (u.sampledAt v).delivered := hst.trans (delivered_eq seg).symm
    obtain ⟨fe, compared⟩ := sampledTick_leaves v u
    obtain ⟨last, lastTick⟩ := Prod.mk.inj compared
    rw [tickOnce_sampled hu sampling early]
    refine ⟨by rw [fe], by rw [fe], last.trans state.symm, lastTick,
      fun priming shut g hg short => priming_staging_shut priming shut state hg short,
      fun priming opened later noPods => priming_staging_open priming opened later noPods seg state,
      fun priming live noPods before unheld D hD => hD ▸ priming_tap priming live noPods before unheld seg state,
      fun k g cs run hit acq silent hg cond judged => ?_⟩
    subst hg
    exact sampledTick_stage acq silent seg cond state judged
  · rw [patternHolds_iff]
    simp only [Nat.zero_add, chanHolds_iff]
  · rw [offerNote_decoder acq cond, if_neg]
    rintro ⟨hs, hseg, hk, hv⟩
    rcases other with ns | nseg | nk | nv
    · exact ns hs
    · exact nseg hseg.symm
    · exact nk hk
    · exact nv hv
  all_goals rw [offerNote_decoder acq cond, if_pos ⟨hs, hseg.symm, hk, hv⟩]
  · exact stageMatch_counts more
  · exact stageMatch_moves enough next
  · exact stageMatch_final enough next

end

end Sys2Proof.Machine
end

section
/-! PROOFS. The ends of what the panel bus carries: bands, chunks, overlay changes, command sequences (O56). -/

namespace Sys2Proof.Machine

section
variable {s : State} {f : Bool} {n : Nat}

/-! ## The bus granted (R178, R184, R185) -/

theorem beginEmission_still (h : s.panel.emission ≠ .waiting true) : beginEmission s = s := if_neg h

/-- No band, no command sequence: the bus carries a chunk, or nothing. -/
theorem busGrant_quiet (waiting : s.panel.waiting = []) (emission : s.panel.emission = .idle) :
    busGrant (n + 1) f s = if s.panel.queue ≠ [] ∧ s.panel.st = .showing then grantChunk s else s := by
  have begun : beginEmission s = s := beginEmission_still (by rw [emission]; decide)
  have still : ¬ s.panel.emission = .emitting := by
    rw [emission]
    decide
  rw [busGrant, begun]
  simp only [waiting, if_neg still, Bool.and_eq_true, decide_eq_true_eq]

theorem busBoundary_quiet (bus : s.panel.bus = .idle) (changes : s.panel.changes = []) (waiting : s.panel.waiting = [])
    (emission : s.panel.emission = .idle) :
    busBoundary f s = if s.panel.queue ≠ [] ∧ s.panel.st = .showing then grantChunk s else s := by
  rw [busBoundary_idle bus changes, busGrant_quiet waiting emission]

/-- A band to come, no pixels to send: the bus carries that band. -/
theorem busBoundary_band {b : Nat} {rest : List Nat} (bus : s.panel.bus = .idle) (changes : s.panel.changes = [])
    (waiting : s.panel.waiting = []) (emission : s.panel.emission = .emitting)
    (pixels : f = false ∨ s.panel.queue = []) (handOff : s.panel.handOff = b :: rest)
    (shown : bandWindows s.panel.overlays b ≠ []) : busBoundary f s = { s with panel := { s.panel with
      bus := .band b, remarked := false, out := bandTransfers s s.panel.codes b } } := by
  have begun : beginEmission s = s := beginEmission_still (by rw [emission]; decide)
  have noChunk : ¬ (f && (s.panel.queue ≠ [] && s.panel.st = .showing)) = true := by
    rcases pixels with rfl | queue
    · simp
    · simp [queue]
  have band : startBand s = { s with panel := { s.panel with
      bus := .band b, remarked := false, out := bandTransfers s s.panel.codes b } } := by
    simp only [startBand, handOff, if_neg shown]
  rw [busBoundary_idle bus changes, busGrant, begun]
  simp only [waiting, if_pos emission, if_neg noChunk, band]
  exact if_neg BusOp.noConfusion

/-- A command sequence waits: it takes the bus, with the sleep-out commands of the wakes abandoned before it. -/
theorem busBoundary_sequence {q : PanelSeq} {rest : List PanelSeq} (bus : s.panel.bus = .idle)
    (changes : s.panel.changes = []) (emission : s.panel.emission = .idle) (waiting : s.panel.waiting = q :: rest)
    (takes : (runWaiting (q :: rest) s).panel.bus ≠ .idle) : busBoundary f s = runWaiting (q :: rest) s := by
  have begun : beginEmission s = s := beginEmission_still (by rw [emission]; decide)
  rw [busBoundary_idle bus changes, busGrant, begun]
  simp only [waiting]
  exact if_neg takes

theorem pokeBus_quiet (waiting : s.panel.waiting = []) (emission : s.panel.emission = .idle)
    (pixels : s.panel.queue = [] ∨ s.panel.st ≠ .showing) : pokeBus s = s := by
  refine if_neg ?_
  rcases pixels with h | h <;> simp [waiting, emission, h]

/-! ## Bands and chunks (R178, R184) -/

theorem endEmission_once (again : s.render.again = false) : endEmission s = { s with
    render := { s.render with completed := (s.render.completed + 1) % 65536, frame := .idle }
    panel := { s.panel with
      emission := .idle, handOff := [], tornMark := false, leaving := false
      torn := if s.panel.tornMark then satSucc 65535 s.panel.torn else s.panel.torn } } := by
  unfold endEmission completeFrame
  exact if_neg fun ⟨more, _⟩ => by rw [again] at more; cases more

theorem dropChunk_cons (r : PixelRun) (rest : List PixelRun) : dropChunk n (r :: rest) =
    if r.pixels.length ≤ n then rest
    else { r with offset := r.offset + n, pixels := r.pixels.drop n } :: rest := rfl

theorem grantChunk_cons {q : PixelRun} {l : List PixelRun} (queue : s.panel.queue = q :: l) : grantChunk s =
    { s with panel := { s.panel with
      bus := .chunk (min 256 q.pixels.length)
      out := chunkTransfers s.panel.codes
        ((s.panel.overlays.getD q.id none).getD { x := 0, y := 0, w := 0, h := 0 }) 256
        q.offset (q.pixels.take (min 256 q.pixels.length)) } } := by
  simp only [grantChunk, queue]

theorem codes_setup {p : Panel} {r : PanelSetup} (h : p.setup = some r) : p.codes = r := by
  simp [Panel.codes, h]

end

/-! ## Overlay changes (R168, R182) -/

section
variable {c : OverlayChange} {s : State}

/-- The overlay list replaced, with the runs of its id gone and the bands it uncovers marked. -/
def overlayReplaced (c : OverlayChange) (s : State) : State :=
  let list := s.panel.overlays.set c.id c.rect
  let s' := { s with panel := { s.panel with overlays := list, queue := s.panel.queue.filter fun r => r.id ≠ c.id } }
  match s.panel.overlays.getD c.id none with
  | some r => markBands (allBands.filter (uncoversBand list r)) s'
  | none => s'

/-- An overlay change made and answered, before the frame it requests. -/
def overlayChanged (c : OverlayChange) (s : State) : State :=
  match c.reply with
  | some q => answerDeferred q .ok .none false (overlayReplaced c s)
  | none => overlayReplaced c s

theorem applyChange_eq (c : OverlayChange) (s : State) : applyChange c s = requestFrame (overlayChanged c s) := rfl

theorem overlayChanged_leaves (c : OverlayChange) (s : State) :
    (overlayChanged c s).panel.overlays = s.panel.overlays.set c.id c.rect ∧
    (overlayChanged c s).panel.queue = s.panel.queue.filter (fun r => r.id ≠ c.id) ∧
    (overlayChanged c s).panel.changes = s.panel.changes ∧ (overlayChanged c s).panel.waiting = s.panel.waiting ∧
    (overlayChanged c s).panel.emission = s.panel.emission ∧ (overlayChanged c s).panel.st = s.panel.st ∧
    (overlayChanged c s).render.frame = s.render.frame ∧ (overlayChanged c s).power = s.power := by
  unfold overlayChanged overlayReplaced
  dsimp only
  split <;> split <;> simp

/-- The bands a change marks are those with a plot pixel of the overlay before it that no overlay covers any more. -/
theorem overlayChanged_dirty (small : ∀ b ∈ s.render.dirty, b < 15) (b : Nat) :
    b ∈ (overlayChanged c s).render.dirty ↔ b ∈ s.render.dirty ∨ (b < 15 ∧
      ∃ o x y, s.panel.overlays.getD c.id none = some o ∧ y / 16 = b ∧ 20 ≤ x ∧ o.x ≤ x ∧ x < o.x + o.w ∧
        o.y ≤ y ∧ y < o.y + o.h ∧ ∀ q, some q ∈ s.panel.overlays.set c.id c.rect →
          x < q.x ∨ q.x + q.w ≤ x ∨ y < q.y ∨ q.y + q.h ≤ y) := by
  have replied : (overlayChanged c s).render.dirty = (match s.panel.overlays.getD c.id none with
      | some r => addBands s.render.dirty (allBands.filter (uncoversBand (s.panel.overlays.set c.id c.rect) r))
      | none => s.render.dirty) := by
    unfold overlayChanged overlayReplaced
    dsimp only
    split <;> split <;> simp [markBands]
  rw [replied]
  cases s.panel.overlays.getD c.id none with
  | none => simp
  | some r =>
    simp only [mem_addBands, allBands, List.mem_filter, List.mem_range, uncoversBand_iff, covered_eq_false,
      Option.some.injEq]
    constructor
    · rintro ⟨inside, old | ⟨_, x, y, uncovered⟩⟩
      · exact Or.inl old
      · exact Or.inr ⟨inside, r, x, y, rfl, uncovered⟩
    · rintro (old | ⟨inside, _, x, y, rfl, uncovered⟩)
      · exact ⟨small b old, Or.inl old⟩
      · exact ⟨inside, Or.inr ⟨inside, x, y, uncovered⟩⟩

theorem overlayChanged_replies {tag : Tag} (h : c.reply = some (asking .console 31 tag)) :
    (overlayChanged c s).ports.conService = none ∧ (overlayChanged c s).ports.conReplies =
      s.ports.conReplies ++ [{ kind := 31, tag := tag, status := .ok, body := .none, last := false }] := by
  have ports : (overlayReplaced c s).ports = s.ports := by
    unfold overlayReplaced
    dsimp only
    split <;> simp
  have answered : overlayChanged c s =
    answerDeferred (asking .console 31 tag) .ok .none false (overlayReplaced c s) := by
    simp only [overlayChanged, h]
  rw [answered, ← ports]
  exact ⟨rfl, rfl⟩

/-- A change taken at an idle bus with nothing else to carry. -/
theorem applyOldest_quiet {rest : List OverlayChange} (bus : s.panel.bus = .idle)
    (changes : s.panel.changes = c :: rest)
    (emission : s.panel.emission = .idle) (waiting : s.panel.waiting = [])
    (pixels : s.panel.queue = [] ∨ s.panel.st ≠ .showing) :
    applyOldest s = requestFrame (overlayChanged c { s with panel := { s.panel with changes := rest } }) := by
  have applied : applyOldest s = pokeBus (applyChange c { s with panel := { s.panel with changes := rest } }) := by
    simp only [applyOldest, bus, changes]
  obtain ⟨_, queue, _, waits, emits, st, _⟩ := overlayChanged_leaves c
    { s with panel := { s.panel with changes := rest } }
  rw [applied, applyChange_eq, pokeBus_quiet]
  · simpa [waits] using waiting
  · simpa [emits] using emission
  · rcases pixels with none | hidden
    · left
      have same : ∀ u : State, (requestFrame u).panel.queue = u.panel.queue := fun u => by simp
      rw [same, queue]
      show s.panel.queue.filter _ = []
      rw [none]
      rfl
    · right
      simpa [st] using hidden

end

/-! ## The rows (R172 to R174, R178, R182, R184) -/

section
variable {s : State}

/-- The band written leaves the hand-off list and, unless marked again, the dirty set. -/
def bandLeft (b : Nat) (s : State) : State :=
  { s with
    render := { s.render with dirty := if s.panel.remarked then s.render.dirty else s.render.dirty.filter (· ≠ b) }
    panel := { s.panel with bus := .idle, handOff := s.panel.handOff.filter (· ≠ b), remarked := false } }

theorem bandWritten_eq {b : Nat} (bus : s.panel.bus = .band b) : bandWritten s =
    busBoundary true (if s.panel.leaving = true ∨ s.panel.handOff.filter (· ≠ b) = [] then endEmission (bandLeft b s)
      else bandLeft b s) := by
  simp only [bandWritten, bus]
  rfl

theorem bandWritten_next {b b2 : Nat} {rest : List Nat} (bus : s.panel.bus = .band b)
    (emission : s.panel.emission = .emitting) (staying : s.panel.leaving = false) (waiting : s.panel.waiting = [])
    (changes : s.panel.changes = []) (queue : s.panel.queue = [])
    (handOff : s.panel.handOff.filter (· ≠ b) = b2 :: rest) (shown : bandWindows s.panel.overlays b2 ≠ []) :
    bandWritten s =
    { bandLeft b s with panel := { (bandLeft b s).panel with
      bus := .band b2, remarked := false, out := bandTransfers (bandLeft b s) s.panel.codes b2 } } := by
  have more : ¬ (s.panel.leaving = true ∨ s.panel.handOff.filter (· ≠ b) = []) := by
    rintro (leaves | none)
    · rw [staying] at leaves
      cases leaves
    · rw [handOff] at none
      cases none
  rw [bandWritten_eq bus, if_neg more]
  exact busBoundary_band rfl changes waiting emission (Or.inr queue) handOff shown

theorem bandWritten_last {b : Nat} (bus : s.panel.bus = .band b) (waiting : s.panel.waiting = [])
    (changes : s.panel.changes = []) (queue : s.panel.queue = []) (handOff : s.panel.handOff.filter (· ≠ b) = [])
    (again : s.render.again = false) : bandWritten s = endEmission (bandLeft b s) := by
  have once := endEmission_once (s := bandLeft b s) again
  rw [bandWritten_eq bus, if_pos (Or.inr handOff), once]
  exact (busBoundary_quiet (by rfl) (by exact changes) (by exact waiting) (by rfl)).trans
    (if_neg fun ⟨more, _⟩ => more queue)

theorem chunkEnd_eq {n : Nat} (bus : s.panel.bus = .chunk n) (emission : s.panel.emission = .idle)
    (waiting : s.panel.waiting = []) (changes : s.panel.changes = []) : chunkEnd s =
    (let u := { s with panel := { s.panel with queue := dropChunk n s.panel.queue, bus := .idle } }
     if u.panel.queue ≠ [] ∧ u.panel.st = .showing then grantChunk u else u) := by
  simp only [chunkEnd, bus]
  exact busBoundary_quiet (by rfl) (by exact changes) (by exact waiting) (by exact emission)

/-- A sequence ends with nothing to follow it. -/
theorem busEnds_quiet (emission : s.panel.emission = .idle) (waiting : s.panel.waiting = [])
    (changes : s.panel.changes = []) (queue : s.panel.queue = []) :
    busEnds false s = { s with panel := { s.panel with bus := .idle } } :=
  (busBoundary_quiet (by rfl) (by exact changes) (by exact waiting) (by exact emission)).trans
    (if_neg fun ⟨more, _⟩ => more queue)

end

/-! ## Sequences and the arrival at SHOWING (R172, R174) -/

section
variable {s : State}

theorem requestFrame_begins (frame : s.render.frame = .idle) (entry : s.power.st ≠ .entry) :
    (requestFrame s).render.frame = .classifying := by
  rw [requestFrame_idle frame entry]
  exact (latchFrame_keeps s).2.1

/-- With every band dirty a frame requested leaves them so. -/
theorem requestFrame_allDirty (h : s.render.dirty = allBands) : (requestFrame s).render.dirty = allBands := by
  have moved : s.viewMoved.render.dirty = allBands := by simp [State.viewMoved, h]
  unfold requestFrame
  split
  · rw [latchFrame_eq]
    split
    · show addBands s.viewMoved.render.dirty allBands = allBands
      rw [moved]
      decide
    · exact moved
  · exact h

theorem markBands_all (s : State) : (markBands allBands s).render.dirty = allBands := by
  refine List.filter_eq_self.mpr fun b hb => ?_
  simp [hb]

/-- The entries sent before a delay, and those after it (R172). -/
theorem init_split (cmds : List (Byte × List Byte)) (ms : Nat) (rest : List InitEntry) :
    afterDelay ((cmds.map fun c => .command c.1 c.2) ++ .delay ms :: rest) = some rest := by
  induction cmds with
  | nil => rfl
  | cons c cs ih => simpa [afterDelay] using ih

theorem initDelayEnd_passes {left rest : List InitEntry} (bus : s.panel.bus = .start left)
    (after : afterDelay left = some rest) : initDelayEnd s = { s with panel := { s.panel with
      bus := .start rest, out := s.panel.out ++ (initCommands left).flatten } } := by
  simp only [initDelayEnd, bus, after]

theorem initDelayEnd_none {left : List InitEntry} (bus : s.panel.bus = .start left) (after : afterDelay left = none) :
    initDelayEnd s = s := by
  simp only [initDelayEnd, bus, after]

theorem panelStartDone_early {left rest : List InitEntry} (bus : s.panel.bus = .start left)
    (after : afterDelay left = some rest) : panelStartDone s = s := by
  simp only [panelStartDone, bus, after, reduceCtorEq, if_false]

/-- The state the last commands of a start sequence leave. -/
def startSent (left : List InitEntry) (s : State) : State :=
  { s with panel := { s.panel with
      out := s.panel.out ++ (initCommands left).flatten ++ [.command s.panel.codes.displayOn] } }

theorem panelStartDone_done {left : List InitEntry} (bus : s.panel.bus = .start left) (after : afterDelay left = none) :
    panelStartDone s = busEnds false (reachShowing (startSent left s)) := by
  unfold panelStartDone
  split
  · next left' starting =>
    obtain rfl : left' = left := BusOp.start.inj (starting.symm.trans bus)
    exact if_pos after
  · next other => exact absurd bus (other left)

theorem teUsed_congr {p q : Panel} (h : p.setup = q.setup) : p.teUsed = q.teUsed := by
  rw [Panel.teUsed, Panel.teUsed, Panel.codes, Panel.codes, h]

theorem reachShowing_leaves (s : State) : (reachShowing s).panel.st = .showing ∧
    (reachShowing s).panel.overlays = [none, none, none, none] ∧ (reachShowing s).panel.queue = [] ∧
    (reachShowing s).panel.teTimer = s.panel.teUsed ∧ (reachShowing s).render.dirty = List.range 15 ∧
    (reachShowing s).panel.emission = s.panel.emission ∧ (reachShowing s).panel.waiting = s.panel.waiting ∧
    (reachShowing s).panel.changes = s.panel.changes ∧ (reachShowing s).panel.out = s.panel.out ∧
    (s.render.frame = .idle → s.power.st ≠ .entry → (reachShowing s).render.frame = .classifying) := by
  have dirty : (reachShowing s).render.dirty = allBands := requestFrame_allDirty (markBands_all _)
  unfold reachShowing startTeWatch
  dsimp only
  refine ⟨?_, ?_, ?_, teUsed_congr ?_, dirty, ?_, ?_, ?_, ?_, fun frame entry => requestFrame_begins ?_ ?_⟩
  all_goals split <;> simp [*]

theorem wakeDelayEnd_eq (bus : s.panel.bus = .wakeDelay) : wakeDelayEnd s =
    busEnds false (startTeWatch (requestFrame { s with panel := { s.panel with st := .showing } })) := by
  simp only [wakeDelayEnd, bus]

end

/-- Settles O56: each end by what it leaves on the bus and what the boundary then grants. -/
theorem panelBusEvents : Obligations.PanelBusEvents := by
  unfold Obligations.PanelBusEvents
  refine ⟨fun s b awake bus emission staying waiting changes queue => ⟨fun b2 rest handOff shown => ?_,
      fun handOff again => ?_⟩,
    fun s n r rest awake bus queue emission waiting changes => ?_,
    fun s c rest awake bus changes emission waiting pixels => ?_,
    fun s r cmds left sent awake setup hleft hsent => ?_,
    fun s awake emission waiting changes queue => ⟨fun bus => ?_, fun bus => ?_, fun bus => ?_⟩⟩
  · refine ⟨bandWritten s, congrArg Host.Outcome.next (if_pos awake), ?_⟩
    rw [bandWritten_next bus emission staying waiting changes queue handOff shown]
    exact ⟨rfl, handOff, fun r setup => by rw [codes_setup setup]; rfl, emission, rfl, rfl⟩
  · refine ⟨bandWritten s, congrArg Host.Outcome.next (if_pos awake), ?_⟩
    rw [bandWritten_last bus waiting changes queue handOff again, endEmission_once (by exact again)]
    exact ⟨rfl, rfl, rfl, rfl, rfl, rfl, rfl⟩
  · refine ⟨chunkEnd s, congrArg Host.Outcome.next (if_pos awake), ?_⟩
    rw [chunkEnd_eq bus emission waiting changes, ← dropChunk_cons, ← queue]
    dsimp only
    by_cases goes : dropChunk n s.panel.queue ≠ [] ∧ s.panel.st = .showing
    · rw [if_pos goes]
      obtain ⟨more, showing⟩ := goes
      obtain ⟨q, l, hq⟩ := List.exists_cons_of_ne_nil more
      have granted := grantChunk_cons (s := { s with panel := { s.panel with
        queue := dropChunk n s.panel.queue, bus := .idle } }) hq
      rw [granted]
      refine ⟨rfl, fun h => ?_, fun q' l' _ head => ?_⟩
      · rcases h with hidden | none
        · exact absurd showing hidden
        · exact absurd none more
      · obtain ⟨rfl, rfl⟩ := List.cons.inj (hq.symm.trans head)
        refine ⟨rfl, fun o p list setup => ?_⟩
        show chunkTransfers s.panel.codes _ 256 q.offset (q.pixels.take (min 256 q.pixels.length)) = _
        rw [codes_setup setup, ← List.take_eq_take_min]
        exact congrArg (fun x : Option Rect => chunkTransfers p (x.getD _) 256 q.offset (q.pixels.take 256)) list
    · rw [if_neg goes]
      exact ⟨rfl, fun _ => rfl, fun q l showing head => 
        absurd ⟨fun none => List.cons_ne_nil q l (head.symm.trans none), showing⟩ goes⟩
  · refine ⟨applyOldest s, congrArg Host.Outcome.next (if_pos awake), ?_⟩
    rw [applyOldest_quiet bus changes emission waiting pixels]
    obtain ⟨overlays, queue, left, _, _, _, frame, power⟩ :=
      overlayChanged_leaves c { s with panel := { s.panel with changes := rest } }
    have dirty := overlayChanged_dirty (c := c) (s := { s with panel := { s.panel with changes := rest } })
    have replies := fun tag =>
      overlayChanged_replies (c := c) (s := { s with panel := { s.panel with changes := rest } }) (tag := tag)
    generalize overlayChanged c { s with panel := { s.panel with changes := rest } } = u at *
    have list : (requestFrame u).panel.overlays = s.panel.overlays.set c.id c.rect := by simp [overlays]
    refine ⟨list, by simp [queue], by simp [left], fun waits small => ?_, fun idle entry => ?_, fun tag h => ?_⟩
    · have again := requestFrame_again (s := u) (by rw [frame, power]; exact waits)
      rw [list, again]
      exact ⟨rfl, dirty small⟩
    · exact requestFrame_begins (by rw [frame]; exact idle) (by rw [power]; exact entry)
    · obtain ⟨service, reply⟩ := replies tag h
      exact ⟨by simp [service], by simp [reply]⟩
  · have codes := codes_setup setup
    have commands : initCommands left = cmds.map fun c => initTransfers c.1 c.2 := by
      rw [hleft, ← List.append_nil (cmds.map _)]
      exact initCommands_commands cmds (Or.inl rfl)
    have undelayed : afterDelay left = none := by
      rw [hleft, ← List.append_nil (cmds.map _)]
      exact (afterDelay_commands cmds (Or.inl rfl)).mpr rfl
    have flat : (cmds.map fun c => initTransfers c.1 c.2).flatten = sent := by
      rw [hsent, List.flatMap_def]
      simp only [initTransfers_eq]
    refine ⟨fun ms rest bus => ?_, fun bus => ?_, fun bus emission waiting changes => ?_,
      fun rest bus emission waiting changes => ?_, fun rest bus emission changes => ⟨fun waiting => ?_,
        fun waiting => ?_⟩⟩
    · have after : afterDelay (left ++ .delay ms :: rest) = some rest := hleft ▸ init_split cmds ms rest
      have before : (initCommands (left ++ .delay ms :: rest)).flatten = sent := by
        rw [hleft, initCommands_commands cmds (Or.inr ⟨ms, rest, rfl⟩), flat]
      refine ⟨?_, ?_⟩
      · rw [← before]
        exact congrArg Host.Outcome.next ((if_pos awake).trans (congrArg (conclude s) (initDelayEnd_passes bus after)))
      · exact congrArg Host.Outcome.next ((if_pos awake).trans (congrArg (conclude s) (panelStartDone_early bus after)))
    · exact congrArg Host.Outcome.next ((if_pos awake).trans (congrArg (conclude s) (initDelayEnd_none bus undelayed)))
    · refine ⟨panelStartDone s, congrArg Host.Outcome.next (if_pos awake), ?_⟩
      obtain ⟨st, overlays, queue, te, dirty, emits, waits, pends, out, frame⟩ := reachShowing_leaves (startSent left s)
      rw [panelStartDone_done bus undelayed, busEnds_quiet (emits.trans emission) (waits.trans waiting)
        (pends.trans changes) queue]
      refine ⟨st, rfl, out.trans ?_, overlays, queue, te.trans (teUsed_congr rfl), dirty, frame⟩
      show s.panel.out ++ (initCommands left).flatten ++ [.command s.panel.codes.displayOn] = _
      rw [commands, flat, codes]
    · refine (busBoundary_sequence bus changes emission waiting BusOp.noConfusion).trans ?_
      rw [← codes]
      rfl
    · refine (busBoundary_sequence bus changes emission waiting BusOp.noConfusion).trans ?_
      rw [← codes]
      rfl
    · refine (busBoundary_sequence bus changes emission waiting BusOp.noConfusion).trans ?_
      rw [← codes]
      rfl
  · refine congrArg Host.Outcome.next ((if_pos awake).trans (congrArg (conclude s) ?_))
    simp only [offEnd, bus]
    exact busEnds_quiet emission waiting changes queue
  · refine congrArg Host.Outcome.next ((if_pos awake).trans (congrArg (conclude s) ?_))
    simp only [sleepInEnd, bus]
    exact busEnds_quiet emission waiting changes queue
  · refine ⟨wakeDelayEnd s, congrArg Host.Outcome.next (if_pos awake), ?_⟩
    rw [wakeDelayEnd_eq bus, busEnds_quiet]
    · refine ⟨by simp [startTeWatch], rfl, by simp [startTeWatch], teUsed_congr (by simp), fun frame entry => ?_⟩
      exact requestFrame_begins (s := { s with panel := { s.panel with st := .showing } }) frame entry
    all_goals simp [startTeWatch, *]

end Sys2Proof.Machine
end

section
/-! PROOFS. The ends of CLASSIFY, TE events, the live timer, the TE watch, and what CLASSIFY reads (O55). -/

namespace Sys2Proof.Machine

/-! ## CLASSIFY's end (R156, R157, R167, R168) -/

section
variable {s u : State} {l : Latch} {drawn : Option Nat → List Nat}

theorem newTrace_length (h : s.render.latch.layout.length ≤ 20) : (newTrace s).length = 20 := by
  unfold newTrace
  dsimp only
  rw [List.length_append, List.length_replicate, List.length_map]
  omega

/-- The bands CLASSIFY marks. -/
def classifiedBands (s : State) : List Nat :=
  if cursorColumns s.render.latch s.render.latch.cursorA ≠ s.render.drawnA ∨
      cursorColumns s.render.latch s.render.latch.cursorB ≠ s.render.drawnB then
    layoutBands 0 s.render.latch.layout
  else changedBands 0 s.render.latch.layout s.render.trace (newTrace s)

theorem markBands_free {bands : List Nat} (free : ∀ b, s.panel.bus ≠ .band b) :
    markBands bands s = { s with render := { s.render with dirty := addBands s.render.dirty bands } } := by
  unfold markBands
  split
  · next b bus => exact absurd bus (free b)
  · simp only [Bool.or_false]

theorem classifyCells_eq (free : ∀ b, s.panel.bus ≠ .band b) : classifyCells s = { s with render := { s.render with
    trace := newTrace s, dirty := addBands s.render.dirty (classifiedBands s)
    drawnA := cursorColumns s.render.latch s.render.latch.cursorA
    drawnB := cursorColumns s.render.latch s.render.latch.cursorB
    reader := { s.render.reader with walks := (List.range 4).map s.finishedWalk } } } := by
  have marked := markBands_free (bands := classifiedBands s) free
  have run : classifyCells s = (fun u : State => { u with render := { u.render with
      trace := newTrace s
      drawnA := cursorColumns s.render.latch s.render.latch.cursorA
      drawnB := cursorColumns s.render.latch s.render.latch.cursorB
      reader := { u.render.reader with walks := (List.range 4).map u.finishedWalk } } })
      (markBands (classifiedBands s) s) := rfl
  rw [run, marked]
  rfl

theorem addBands_pairwise (dirty more : List Nat) : (addBands dirty more).Pairwise (· < ·) :=
  List.pairwise_lt_range.filter _

/-- The dirty set after CLASSIFY: the bands of a row whose cells changed, or of every row when a cursor's columns did.
-/
theorem mem_classified (rows : s.render.trace.length = 20) (few : s.render.latch.layout.length ≤ 20) {b : Nat} :
    b ∈ addBands s.render.dirty (classifiedBands s) ↔ b < 15 ∧ (b ∈ s.render.dirty ∨
      ∃ i row y, s.render.latch.layout[i]? = some row ∧ y = ((s.render.latch.layout.take i).map (·.height)).sum ∧
        y < 16 * b + 16 ∧ 16 * b < y + row.height ∧
        (cursorColumns s.render.latch s.render.latch.cursorA ≠ s.render.drawnA ∨
          cursorColumns s.render.latch s.render.latch.cursorB ≠ s.render.drawnB ∨
          (newTrace s)[i]? ≠ s.render.trace[i]?)) := by
  rw [mem_addBands, classifiedBands]
  refine and_congr_right fun inside => or_congr_right ?_
  split
  · next moved =>
    rw [mem_layoutBands]
    refine exists_congr fun i => exists_congr fun row => exists_congr fun y => ?_
    rw [rowFrom, mem_rowBands, Nat.zero_add]
    exact ⟨fun ⟨⟨hr, hy⟩, _, low, high⟩ => ⟨hr, hy, low, high, moved.imp_right Or.inl⟩,
      fun ⟨hr, hy, low, high, _⟩ => ⟨⟨hr, hy⟩, inside, low, high⟩⟩
  · next still =>
    rw [mem_changedBands (by omega) (by rw [newTrace_length few]; exact few)]
    refine exists_congr fun i => exists_congr fun row => exists_congr fun y => ?_
    rw [rowFrom, mem_rowBands, Nat.zero_add]
    refine ⟨fun ⟨⟨hr, hy⟩, ⟨_, low, high⟩, changed⟩ => ⟨hr, hy, low, high, Or.inr (Or.inr changed)⟩,
      fun ⟨hr, hy, low, high, why⟩ => ⟨⟨hr, hy⟩, ⟨inside, low, high⟩, ?_⟩⟩
    rcases why with a | b | changed
    · exact absurd (Or.inl a) still
    · exact absurd (Or.inr b) still
    · exact changed

theorem handOffFrame_completes (h : s.render.dirty = [] ∨ s.panel.st ≠ .showing) : handOffFrame s = completeFrame s :=
  if_pos h

/-- The frame handed to the panel link, before the bus is asked. -/
def handedOff (s : State) : State :=
  { s with
    render := { s.render with frame := .emitting }
    panel := { s.panel with
      handOff := s.render.dirty, tornMark := false
      emission := if s.panel.teUsed = true ∧ s.panel.teMissing = false then .waiting false else .emitting } }

theorem handOffFrame_emits (dirty : s.render.dirty ≠ []) (showing : s.panel.st = .showing) :
    handOffFrame s = pokeBus (handedOff s) := by
  have more : ¬ (s.render.dirty = [] ∨ s.panel.st ≠ .showing) := by
    rintro (none | hidden)
    · exact dirty none
    · exact hidden showing
  have emission : (if (!(s.panel.teUsed && !s.panel.teMissing)) = true then Emission.emitting else .waiting false) =
      if s.panel.teUsed = true ∧ s.panel.teMissing = false then .waiting false else .emitting := by
    cases s.panel.teUsed <;> cases s.panel.teMissing <;> rfl
  refine (if_neg more).trans ?_
  rw [handedOff, ← emission]

/-- The hand-off waits: for the bus, or for the TE event. -/
theorem handOffFrame_waits (dirty : s.render.dirty ≠ []) (showing : s.panel.st = .showing)
    (waits : s.panel.bus ≠ .idle ∨ (s.panel.teUsed = true ∧ s.panel.teMissing = false ∧ s.panel.waiting = [] ∧
      s.panel.queue = [])) : handOffFrame s = handedOff s := by
  rw [handOffFrame_emits dirty showing]
  rcases waits with busy | ⟨used, present, waiting, queue⟩
  · exact pokeBus_busy busy
  · simp [pokeBus, handedOff, used, present, waiting, queue]

/-- The hand-off begins at once: its first band goes on the bus. -/
theorem handOffFrame_starts {b : Nat} {rest : List Nat} {r : PanelSetup} (dirty : s.render.dirty = b :: rest)
    (showing : s.panel.st = .showing) (bus : s.panel.bus = .idle) (setup : s.panel.setup = some r)
    (untimed : s.panel.teUsed = false ∨ s.panel.teMissing = true) (waiting : s.panel.waiting = [])
    (changes : s.panel.changes = []) (shown : bandWindows s.panel.overlays b ≠ []) : handOffFrame s = { s with
      render := { s.render with frame := .emitting }
      panel := { s.panel with
        handOff := s.render.dirty, tornMark := false, emission := .emitting, bus := .band b, remarked := false
        out := bandTransfers s r b } } := by
  have emission : (handedOff s).panel.emission = .emitting := by
    refine if_neg fun ⟨used, present⟩ => ?_
    rcases untimed with h | h
    · exact absurd used (by rw [h]; decide)
    · exact absurd present (by rw [h]; decide)
  have band := busBoundary_band (s := handedOff s) (f := false) bus changes waiting emission (Or.inl rfl) dirty shown
  have poked : pokeBus (handedOff s) = busBoundary false (handedOff s) := by
    refine if_pos ?_
    rw [emission]
    simp [handedOff, bus]
  rw [handOffFrame_emits (by rw [dirty]; exact List.cons_ne_nil _ _) showing, poked, band, ← codes_setup setup,
    ← emission]
  rfl

theorem classifyEnd_early (h : s.render.reader.done = false) : classifyEnd s = s :=
  if_neg fun ⟨_, done⟩ => by rw [h] at done; cases done

theorem classifyEnd_done (frame : s.render.frame = .classifying) (done : s.render.reader.done = true) :
    classifyEnd s = handOffFrame (classifyCells s) := if_pos ⟨frame, done⟩

theorem completeFrame_cases (hu : u = { s with render := { s.render with
      completed := (s.render.completed + 1) % 65536, frame := .idle } }) :
    (s.render.again = false ∨ s.power.st = .entry → completeFrame s = u) ∧
    (s.render.again = true → s.power.st ≠ .entry →
      completeFrame s = requestFrame { u with render := { u.render with again := false } }) := by
  subst hu
  refine ⟨fun quiet => if_neg ?_, fun again entry =>
    (if_pos ⟨again, entry⟩).trans (requestFrame_idle (by rfl) (by exact entry)).symm⟩
  rintro ⟨again, entry⟩
  rcases quiet with once | resting
  · rw [show s.render.again = true from again] at once
    cases once
  · exact entry resting

end

/-! ## The live count, TE events, the TE watch (R154, R177, R181) -/

section
variable {s : State}

theorem countEvent_below (h : s.render.liveCount + 1 < s.render.divider) :
    countEvent s = { s with render := { s.render with liveCount := s.render.liveCount + 1 } } := by
  have count : min s.render.divider (s.render.liveCount + 1) = s.render.liveCount + 1 := by omega
  unfold countEvent
  rw [count]
  exact if_neg fun ⟨reached, _⟩ => by
    have : s.render.liveCount + 1 = s.render.divider := reached
    omega

theorem countEvent_reached (h : s.render.divider ≤ s.render.liveCount + 1) :
    (s.liveCondition = false →
      countEvent s = { s with render := { s.render with liveCount := s.render.divider } }) ∧
    (s.liveCondition = true →
      countEvent s = requestFrame { s with render := { s.render with liveCount := 0 } }) := by
  have count : min s.render.divider (s.render.liveCount + 1) = s.render.divider := by omega
  unfold countEvent
  rw [count]
  refine ⟨fun still => if_neg fun ⟨_, live⟩ => ?_, fun live => if_pos ⟨rfl, live⟩⟩
  rw [show s.liveCondition = true from live] at still
  cases still

theorem teEdge_iff {rising : Bool} {r : PanelSetup} (setup : s.panel.setup = some r) :
    s.panel.teEdge rising = true ↔ r.teUsed = .on ∧ (rising = true ↔ r.tePolarity = 0) := by
  simp only [Panel.teEdge, Panel.teUsed, codes_setup setup, Bool.and_eq_true, decide_eq_true_eq]
  refine and_congr_right fun _ => ?_
  rw [beq_iff_eq]
  cases rising <;> simp

theorem teEvent_busy (busy : s.panel.bus ≠ .idle) (below : s.render.liveCount + 1 < s.render.divider) :
    teEvent s = { s with
      panel := { s.panel with
        teMissing := false, teTimer := true
        emission := if s.panel.emission = .waiting false then .waiting true else s.panel.emission
        tornMark := s.panel.tornMark || s.panel.emission = .emitting }
      render := { s.render with liveCount := s.render.liveCount + 1 } } := by
  unfold teEvent
  exact (congrArg pokeBus (countEvent_below (by exact below))).trans (pokeBus_busy (by exact busy))

theorem teMissing_busy (busy : s.panel.bus ≠ .idle) :
    ((∀ g, s.panel.emission ≠ .waiting g) → teMissing s =
      raiseBoth .panelEvent 1 { s with panel := { s.panel with teMissing := true, teTimer := false } }) ∧
    (∀ g, s.panel.emission = .waiting g → teMissing s = raiseBoth .panelEvent 1 { s with panel := { s.panel with
      teMissing := true, teTimer := false, emission := .emitting, tornMark := false } }) := by
  refine ⟨fun still => ?_, fun g waits => ?_⟩
  · unfold teMissing
    dsimp only
    split
    · next g waits => exact absurd waits (still g)
    · exact pokeBus_busy (by simpa using busy)
  · have waits' : (raiseBoth .panelEvent 1 { s with panel :=
      { s.panel with teMissing := true, teTimer := false } }).panel.emission =
        .waiting g := by simpa using waits
    unfold teMissing
    dsimp only
    rw [waits']
    refine (pokeBus_busy (by simpa using busy)).trans ?_
    rfl

end

/-! ## What CLASSIFY reads (R156) -/

section
variable {r : Record} {rs : List Record} {last stop t : Nat} {d a : Reader}

theorem read_cons (ht : t = d.time + r.delta) (ha : a = { d with time := t, place := d.place + 1 }) :
    (last ≤ t ∨ stop < t → Reader.read last stop (r :: rs) d = { a with done := true }) ∧
    (t < last → t ≤ stop → r.isEnd = true →
      Reader.read last stop (r :: rs) d = { a with recs := d.recs ++ [⟨t, r⟩], done := true }) ∧
    (t < last → t ≤ stop → r.isEnd = false →
      Reader.read last stop (r :: rs) d = Reader.read last stop rs { a with recs := d.recs ++ [⟨t, r⟩] }) := by
  subst ha ht
  refine ⟨fun past => if_pos past, fun early inside final => ?_, fun early inside more => ?_⟩
  · refine (if_neg (by omega)).trans ?_
    unfold Record.isEnd at final
    split at final
    · rfl
    · cases final
  · refine (if_neg (by omega)).trans ?_
    split
    · cases more
    · rfl

theorem renderRecords_cases {recs : List Record} {full tail : Bool} {s : State} {l : Latch} (hl : l = s.render.latch)
    (hd : d = Reader.read (Machine.colEnd l.t0 l.scale 299) l.stop recs s.render.reader) :
    (d.done = true ∨ full = false →
      renderRecords recs full tail s = { s with render := { s.render with reader := d } }) ∧
    (d.done = false → full = true → tail = true →
      renderRecords recs full tail s = { s with render := { s.render with reader := { d with done := true } } }) ∧
    (d.done = false → full = true → tail = false → renderRecords recs full tail s =
      { s with render := { s.render with reader := { d with pos := some (d.pos.getD 0 + 1), place := 0 } } }) := by
  subst hl
  have run : renderRecords recs full tail s = { s with render := { s.render with reader :=
      if d.done || !full then d
      else if tail then { d with done := true }
      else { d with pos := some (d.pos.getD 0 + 1), place := 0 } } } := by
    rw [hd]
    rfl
  rw [run]
  refine ⟨fun h => ?_, fun goes hf ht => ?_, fun goes hf ht => ?_⟩
  · have stays : (d.done || !full) = true := by rcases h with h | h <;> simp [h]
    rw [if_pos stays]
  · have moves : ¬ (d.done || !full) = true := by simp [goes, hf]
    rw [if_neg moves, if_pos ht]
  · have moves : ¬ (d.done || !full) = true := by simp [goes, hf]
    rw [if_neg moves, if_neg (by rw [ht]; decide)]

end

end Sys2Proof.Machine
end

section
/-! PROOFS. What one column's span shows of a segment's records (O55). -/

namespace Sys2Proof.Machine

/-! ## One record of a scan (R160) -/

section
variable {lo hi : Nat} {x : Scan} {r : TimedRec} {st : Half}

/-- A record that carries a state: a TRANSITION is an edge inside the span where the state differs. -/
theorem scan_state (h : r.item.state? = some st) : (x.step lo hi r).cur = st ∧ (x.step lo hi r).loss = x.loss ∧
    (x.step lo hi r).hit = x.hit ∧ (x.step lo hi r).state = if r.time ≤ lo then st else x.state := by
  obtain ⟨t, item⟩ := r
  cases item with
  | base flagged b => cases flagged <;> cases h <;> exact ⟨rfl, rfl, rfl, rfl⟩
  | trans d b =>
    cases h
    exact ⟨rfl, rfl, rfl, rfl⟩
  | extend d => cases h
  | mark d k a => cases h

theorem scan_trans {t d : Nat} {is : Half} : (x.step lo hi ⟨t, .trans d is⟩).edges =
    if lo < t ∧ t < hi then x.edges ||| (x.cur ^^^ is) else x.edges := rfl

theorem scan_edges (h : ∀ d is, r.item ≠ .trans d is) : (x.step lo hi r).edges = x.edges := by
  obtain ⟨t, item⟩ := r
  cases item with
  | base flagged b => cases flagged <;> rfl
  | trans d b => exact absurd rfl (h d b)
  | extend d => rfl
  | mark d k a => cases k <;> rfl

/-- An EXTEND or an END changes nothing. -/
theorem scan_passes (h : (∃ d, r.item = .extend d) ∨ r.item.isEnd = true) : x.step lo hi r = x := by
  obtain ⟨t, item⟩ := r
  rcases h with ⟨d, e⟩ | final
  · simp only at e
    subst e
    rfl
  · cases item with
    | mark d k a =>
      cases k with
      | stop => rfl
      | _ => cases final
    | base flagged b => cases final
    | trans d b => cases final
    | extend d => cases final

/-- A loss met stays met. -/
theorem scan_hit (h : x.hit = true) : (x.step lo hi r).hit = true := by
  obtain ⟨t, item⟩ := r
  cases item with
  | base flagged b => cases flagged <;> exact h
  | trans d b => exact h
  | extend d => exact h
  | mark d k a =>
    cases k with
    | lossEnd =>
      show (x.hit || _) = true
      rw [h]
      rfl
    | _ => exact h

/-- An open loss stays open up to its LOSS_END. -/
theorem scan_loss {a : Nat} (h : x.loss = some a) (open' : r.item.isLossEnd = false) :
    (x.step lo hi r).loss = some a := by
  obtain ⟨t, item⟩ := r
  have stays : some (x.loss.getD t) = some a := by rw [h]; rfl
  cases item with
  | base flagged b =>
    cases flagged with
    | false => exact h
    | true => exact stays
  | trans d b => exact h
  | extend d => exact h
  | mark d k b =>
    cases k with
    | lossEnd => cases open'
    | lossBegin => exact stays
    | _ => exact h

end

/-! ## A list of records -/

section
variable {lo hi : Nat} {x : Scan} {recs : List TimedRec}

theorem scan_states (h : ∀ r ∈ recs, r.item.state?.isSome = true) :
    (recs.foldl (Scan.step lo hi) x).loss = x.loss ∧ (recs.foldl (Scan.step lo hi) x).hit = x.hit := by
  induction recs generalizing x with
  | nil => exact ⟨rfl, rfl⟩
  | cons r rs ih =>
    obtain ⟨st, hst⟩ := Option.isSome_iff_exists.mp (h r (List.mem_cons_self ..))
    obtain ⟨_, loss, hit, _⟩ := scan_state (x := x) (lo := lo) (hi := hi) hst
    obtain ⟨loss', hit'⟩ := ih (x := x.step lo hi r) fun y hy => h y (List.mem_cons_of_mem _ hy)
    exact ⟨loss'.trans loss, hit'.trans hit⟩

theorem scan_hits (h : x.hit = true) : (recs.foldl (Scan.step lo hi) x).hit = true := by
  induction recs generalizing x with
  | nil => exact h
  | cons r rs ih => exact ih (scan_hit h)

theorem scan_losses {a : Nat} (h : x.loss = some a) (open' : ∀ r ∈ recs, r.item.isLossEnd = false) :
    (recs.foldl (Scan.step lo hi) x).loss = some a := by
  induction recs generalizing x with
  | nil => exact h
  | cons r rs ih =>
    exact ih (scan_loss h (open' r (List.mem_cons_self ..))) fun y hy => open' y (List.mem_cons_of_mem _ hy)

/-- The records of a span without a loss: states, EXTENDs, an END. -/
def Lossless (recs : List TimedRec) : Prop :=
  ∀ r ∈ recs, r.item.state?.isSome = true ∨ (∃ d, r.item = .extend d) ∨ r.item.isEnd = true

theorem scan_lossless (h : Lossless recs) :
    (recs.foldl (Scan.step lo hi) x).loss = x.loss ∧ (recs.foldl (Scan.step lo hi) x).hit = x.hit := by
  induction recs generalizing x with
  | nil => exact ⟨rfl, rfl⟩
  | cons r rs ih =>
    obtain ⟨loss', hit'⟩ := ih (x := x.step lo hi r) fun y hy => h y (List.mem_cons_of_mem _ hy)
    rcases h r (List.mem_cons_self ..) with some' | passes
    · obtain ⟨st, hst⟩ := Option.isSome_iff_exists.mp some'
      obtain ⟨_, loss, hit, _⟩ := scan_state (x := x) (lo := lo) (hi := hi) hst
      exact ⟨loss'.trans loss, hit'.trans hit⟩
    · rw [scan_passes passes] at loss' hit'
      rw [List.foldl_cons, scan_passes passes]
      exact ⟨loss', hit'⟩

/-- Records past the span's first tick leave the state there. -/
theorem scan_later (h : Lossless recs) (later : ∀ r ∈ recs, r.item.state? = none ∨ lo < r.time) :
    (recs.foldl (Scan.step lo hi) x).state = x.state := by
  induction recs generalizing x with
  | nil => rfl
  | cons r rs ih =>
    refine (ih (x := x.step lo hi r) (fun y hy => h y (List.mem_cons_of_mem _ hy))
      fun y hy => later y (List.mem_cons_of_mem _ hy)).trans ?_
    rcases h r (List.mem_cons_self ..) with some' | passes
    · obtain ⟨st, hst⟩ := Option.isSome_iff_exists.mp some'
      rcases later r (List.mem_cons_self ..) with stateless | past
      · rw [hst] at stateless
        cases stateless
      · rw [(scan_state hst).2.2.2, if_neg (Nat.not_le.mpr past)]
    · rw [scan_passes passes]

/-- The state in force after records, from the state before them. -/
def stateAfter (was : Half) (recs : List TimedRec) : Half :=
  (recs.filterMap fun (r : TimedRec) => r.item.state?).getLast?.getD was

theorem stateAfter_some {was st : Half} {r : TimedRec} {rs : List TimedRec} (h : r.item.state? = some st) :
    stateAfter was (r :: rs) = stateAfter st rs := by
  rw [stateAfter, List.filterMap_cons_some (f := fun r : TimedRec => r.item.state?) h, List.getLast?_cons]
  rfl

theorem stateAfter_none {was : Half} {r : TimedRec} {rs : List TimedRec} (h : r.item.state? = none) :
    stateAfter was (r :: rs) = stateAfter was rs := by
  rw [stateAfter, List.filterMap_cons_none (f := fun r : TimedRec => r.item.state?) h]
  rfl

/-- A TRANSITION inside the span that changes channel `k`, the state before the records being `was`. -/
def EdgeInside (lo hi k : Nat) (was : Half) (recs : List TimedRec) : Prop :=
  ∃ pre t d is post, recs = pre ++ ⟨t, .trans d is⟩ :: post ∧ lo < t ∧ t < hi ∧
    (stateAfter was pre).getLsbD k ≠ is.getLsbD k

theorem edgeInside_cons {k : Nat} {was : Half} {r : TimedRec} {rs : List TimedRec} :
    EdgeInside lo hi k was (r :: rs) ↔
      (∃ d is, r.item = .trans d is ∧ lo < r.time ∧ r.time < hi ∧ was.getLsbD k ≠ is.getLsbD k) ∨
      EdgeInside lo hi k (r.item.state?.getD was) rs := by
  have head : ∀ pre, stateAfter was (r :: pre) = stateAfter (r.item.state?.getD was) pre := by
    intro pre
    cases h : r.item.state? with
    | none => exact stateAfter_none h
    | some st => exact stateAfter_some h
  constructor
  · rintro ⟨pre, t, d, is, post, e, low, high, other⟩
    cases pre with
    | nil =>
      obtain ⟨rfl, rfl⟩ := List.cons.inj e
      exact Or.inl ⟨d, is, rfl, low, high, other⟩
    | cons p pre =>
      obtain ⟨rfl, rest⟩ := List.cons.inj e
      exact Or.inr ⟨pre, t, d, is, post, rest, low, high, by rwa [head] at other⟩
  · rintro (⟨d, is, e, low, high, other⟩ | ⟨pre, t, d, is, post, rest, low, high, other⟩)
    · exact ⟨[], r.time, d, is, rs, by rw [← e]; rfl, low, high, other⟩
    · exact ⟨r :: pre, t, d, is, post, by rw [rest]; rfl, low, high, by rwa [head]⟩

/-- The edges of a scan: those before it, and the changes inside the span. -/
theorem scan_edges_iff {k : Nat} (small : k < 16) (h : Lossless recs) :
    (recs.foldl (Scan.step lo hi) x).edges.getLsbD k = true ↔
      x.edges.getLsbD k = true ∨ EdgeInside lo hi k x.cur recs := by
  induction recs generalizing x with
  | nil =>
    refine ⟨Or.inl, fun h => h.elim id ?_⟩
    rintro ⟨pre, t, d, is, post, e, _⟩
    cases pre <;> cases e
  | cons r rs ih =>
    have rest := ih (x := x.step lo hi r) fun y hy => h y (List.mem_cons_of_mem _ hy)
    have cur : (x.step lo hi r).cur = r.item.state?.getD x.cur := by
      rcases h r (List.mem_cons_self ..) with some' | passes
      · obtain ⟨st, hst⟩ := Option.isSome_iff_exists.mp some'
        rw [(scan_state hst).1, hst]
        rfl
      · rw [scan_passes passes]
        rcases passes with ⟨d, e⟩ | final
        · rw [e]
          rfl
        · revert final
          cases r.item with
          | mark d k a => exact fun _ => rfl
          | _ => exact fun final => by cases final
    have edges : (x.step lo hi r).edges.getLsbD k = true ↔ x.edges.getLsbD k = true ∨
        ∃ d is, r.item = .trans d is ∧ lo < r.time ∧ r.time < hi ∧ x.cur.getLsbD k ≠ is.getLsbD k := by
      by_cases tr : ∃ d is, r.item = .trans d is
      · obtain ⟨d, is, e⟩ := tr
        obtain ⟨t, item⟩ := r
        simp only at e
        subst e
        rw [scan_trans]
        by_cases inside : lo < t ∧ t < hi
        · rw [if_pos inside, BitVec.getLsbD_or, BitVec.getLsbD_xor, Bool.or_eq_true, bne_iff_ne]
          refine or_congr_right ⟨fun other => ⟨d, is, rfl, inside.1, inside.2, other⟩, ?_⟩
          rintro ⟨_, _, ⟨⟩, _, _, other⟩
          exact other
        · rw [if_neg inside]
          exact ⟨Or.inl, fun h => h.elim id fun ⟨_, _, _, low, high, _⟩ => absurd ⟨low, high⟩ inside⟩
      · rw [scan_edges fun d is e => tr ⟨d, is, e⟩]
        exact ⟨Or.inl, fun h => h.elim id fun ⟨d, is, e, _⟩ => absurd ⟨d, is, e⟩ tr⟩
    rw [List.foldl_cons, rest, edges, cur, edgeInside_cons, or_assoc]

end

/-! ## A column (R160, R161) -/

section
variable {recs pre mid post : List TimedRec} {start stop a b lo hi : Nat}

/-- The scan of a column's span. -/
def spanScan (recs : List TimedRec) (lo hi : Nat) : Scan :=
  recs.foldl (Scan.step lo hi) { cur := 0, loss := none, state := 0, edges := 0, hit := false }

theorem colData_outside (hlo : lo = max a start) (hhi : hi = min b stop) (h : hi ≤ lo) :
    colData recs start stop a b = .outside := by
  subst hlo hhi
  exact if_pos h

theorem colData_hit (hlo : lo = max a start) (hhi : hi = min b stop) (inside : lo < hi)
    (h : (spanScan recs lo hi).hit = true) : colData recs start stop a b = .unknown := by
  subst hlo hhi
  refine (if_neg (Nat.not_le.mpr inside)).trans (if_pos ?_)
  show ((spanScan recs _ _).hit || _) = true
  rw [h]
  rfl

theorem colData_open {t : Nat} (hlo : lo = max a start) (hhi : hi = min b stop) (inside : lo < hi)
    (h : (spanScan recs lo hi).loss = some t) (early : t < hi) : colData recs start stop a b = .unknown := by
  subst hlo hhi
  refine (if_neg (Nat.not_le.mpr inside)).trans (if_pos ?_)
  show ((spanScan recs _ _).hit || (match (spanScan recs (max a start) (min b stop)).loss with
    | some t => decide (t < min b stop)
    | none => false)) = true
  rw [h]
  simp [early]

theorem colData_known (hlo : lo = max a start) (hhi : hi = min b stop) (inside : lo < hi) (h : Lossless recs) :
    colData recs start stop a b = .known (spanScan recs lo hi).edges (spanScan recs lo hi).state := by
  subst hlo hhi
  obtain ⟨loss, hit⟩ := scan_lossless (lo := max a start) (hi := min b stop)
    (x := { cur := 0, loss := none, state := 0, edges := 0, hit := false }) h
  refine (if_neg (Nat.not_le.mpr inside)).trans (if_neg ?_)
  rw [loss, hit]
  exact Bool.false_ne_true

theorem spanScan_closed {t1 t2 d1 d2 a1 v : Nat} (split : recs = pre ++ ⟨t1, .mark d1 .lossBegin a1⟩ :: (mid ++
    ⟨t2, .mark d2 .lossEnd v⟩ :: post)) (before : ∀ x ∈ pre, x.item.state?.isSome = true)
    (between : ∀ x ∈ mid, x.item.state?.isSome = true) (early : t1 < hi) (late : lo < t2) :
    (spanScan recs lo hi).hit = true := by
  rw [spanScan, split, List.foldl_append, List.foldl_cons, List.foldl_append, List.foldl_cons]
  refine scan_hits ?_
  obtain ⟨loss, _⟩ := scan_states (lo := lo) (hi := hi)
    (x := { cur := 0, loss := none, state := 0, edges := 0, hit := false }) before
  generalize pre.foldl (Scan.step lo hi) _ = x at loss ⊢
  have began : (x.step lo hi ⟨t1, .mark d1 .lossBegin a1⟩).loss = some t1 := by
    show some (x.loss.getD t1) = some t1
    rw [loss]
    rfl
  generalize x.step lo hi ⟨t1, .mark d1 .lossBegin a1⟩ = y at began ⊢
  obtain ⟨loss', _⟩ := scan_states (lo := lo) (hi := hi) (x := y) between
  generalize mid.foldl (Scan.step lo hi) y = z at loss' ⊢
  show (z.hit || (match z.loss with
    | some a => decide (a < hi) && decide (lo < t2)
    | none => false)) = true
  rw [loss', began]
  simp [early, late]

theorem spanScan_open {t1 d1 a1 : Nat} (split : recs = pre ++ ⟨t1, .mark d1 .lossBegin a1⟩ :: post)
    (before : ∀ x ∈ pre, x.item.state?.isSome = true) (after : ∀ x ∈ post, x.item.isLossEnd = false) :
    (spanScan recs lo hi).loss = some t1 := by
  rw [spanScan, split, List.foldl_append, List.foldl_cons]
  refine scan_losses ?_ after
  obtain ⟨loss, _⟩ := scan_states (lo := lo) (hi := hi)
    (x := { cur := 0, loss := none, state := 0, edges := 0, hit := false }) before
  show some ((pre.foldl (Scan.step lo hi) _).loss.getD t1) = some t1
  rw [loss]
  rfl

theorem spanScan_state {x : TimedRec} {s0 : Half} (h : Lossless recs) (split : recs = pre ++ x :: post)
    (carries : x.item.state? = some s0) (early : x.time ≤ lo)
    (later : ∀ y ∈ post, y.item.state? = none ∨ lo < y.time) : (spanScan recs lo hi).state = s0 := by
  rw [spanScan, split, List.foldl_append, List.foldl_cons, scan_later ?_ later, (scan_state carries).2.2.2,
    if_pos early]
  exact fun y hy => h y (by rw [split]; exact List.mem_append_right _ (List.mem_cons_of_mem _ hy))

theorem spanScan_edges {k : Nat} (h : Lossless recs) :
    (spanScan recs lo hi).edges.getLsbD k = true ↔ EdgeInside lo hi k 0 recs := by
  by_cases small : k < 16
  · rw [spanScan, scan_edges_iff small h]
    simp
  · have beyond : ∀ e : Half, e.getLsbD k = false := fun e => BitVec.getLsbD_of_ge _ _ (Nat.not_lt.mp small)
    rw [beyond]
    refine ⟨fun h => Bool.noConfusion h, fun ⟨_, _, _, is, _, _, _, _, other⟩ => absurd ?_ other⟩
    rw [beyond, beyond]

end

end Sys2Proof.Machine
end

section
/-! PROOFS. The cells of the rows CLASSIFY draws, and what the renderer's events do (O55). -/

namespace Sys2Proof.Machine

/-! ## The walk of an annotation list (R138, R164) -/

section
variable {l : Latch} {list : List Note} {w : NoteWalk}

/-- A walk that examines as many entries as are left selects those of them that meet the view. -/
theorem examine_rest (n : Nat) (going : w.passed = false) (left : list.length - w.cursor < n) :
    (NoteWalk.examine l list n w).selected = w.selected ++ (list.drop w.cursor).filter l.selects := by
  induction n generalizing w with
  | zero => omega
  | succ n ih =>
    have more : ¬ w.passed = true := by rw [going]; decide
    rw [NoteWalk.examine, if_neg more]
    split
    · next none =>
      rw [List.drop_eq_nil_of_le (List.getElem?_eq_none_iff.mp none)]
      simp
    · next e some' =>
      obtain ⟨inside, he⟩ := List.getElem?_eq_some_iff.mp some'
      rw [ih (by exact going) (by show list.length - (w.cursor + 1) < n; omega), List.drop_eq_getElem_cons inside, he,
        List.filter_cons]
      dsimp only
      split <;> simp

theorem finishedWalk_selected {s : State} {k : Nat} (h : s.walkOf k = NoteWalk.head) :
    (s.finishedWalk k).selected = (s.notesOf k).filter s.render.latch.selects := by
  rw [State.finishedWalk, h]
  exact (examine_rest _ rfl (Nat.lt_succ_of_le (Nat.sub_le ..))).trans (List.nil_append _)

end

/-! ## The columns an entry covers (R164) -/

/-- A predicate of numbers that holds between any two it holds of. -/
def Convex (p : Nat → Bool) : Prop := ∀ a b c, a ≤ b → b ≤ c → p a = true → p c = true → p b = true

/-- The numbers below a bound that a convex predicate holds of follow each other. -/
theorem filter_range_convex {p : Nat → Bool} (convex : Convex p) (N : Nat) :
    ∃ a m, (List.range N).filter p = List.range' a m := by
  induction N with
  | zero => exact ⟨0, 0, rfl⟩
  | succ N ih =>
    obtain ⟨a, m, e⟩ := ih
    have mem : ∀ c, c ∈ List.range' a m ↔ c < N ∧ p c = true := fun c => by
      rw [← e, List.mem_filter, List.mem_range]
    rw [List.range_succ, List.filter_append, e]
    by_cases last : p N = true
    · have one : [N].filter p = [N] := by simp [last]
      rw [one]
      cases m with
      | zero => exact ⟨N, 1, rfl⟩
      | succ m =>
        have top : a + m < N ∧ p (a + m) = true := (mem _).mp (List.mem_range'_1.mpr ⟨by omega, by omega⟩)
        have next : N = a + (m + 1) := by
          refine Classical.byContradiction fun other => ?_
          have missed := (mem (a + m + 1)).mpr ⟨by omega, convex (a + m) _ N (by omega) (by omega) top.2 last⟩
          have := List.mem_range'_1.mp missed
          omega
        exact ⟨a, m + 2, by rw [next]; exact (List.range'_1_concat ..).symm⟩
    · have none : [N].filter p = [] := by simp [last]
      exact ⟨a, m, by rw [none, List.append_nil]⟩

section
variable {t0 scale : Nat} {l : Latch} {e : Note} {c : Nat}

theorem colEdge_mono {c d : Nat} (h : c ≤ d) : colEdge t0 scale c ≤ colEdge t0 scale d :=
  Nat.add_le_add_left (Nat.div_le_div_right (Nat.mul_le_mul_right _ h)) _

theorem colEnd_mono {c d : Nat} (h : c ≤ d) : colEnd t0 scale c ≤ colEnd t0 scale d := by
  have edge : colEdge t0 scale c ≤ colEdge t0 scale d := colEdge_mono h
  have next : colEdge t0 scale (c + 1) ≤ colEdge t0 scale (d + 1) := colEdge_mono (Nat.add_le_add_right h 1)
  rw [colEnd, colEnd]
  omega

/-- Entry `e` covers column `c`. -/
def Covers (l : Latch) (e : Note) (c : Nat) : Prop := l.edge c < e.stop ∧ e.start < l.colEnd c

theorem not_covers : ¬ Covers l e c ↔ e.stop ≤ l.edge c ∨ l.colEnd c ≤ e.start := by
  rw [Covers]
  omega

/-- Columns between the first and the last covered one are covered. -/
theorem coveredColumns_between {i : Nat} (low : (coveredColumns l e).headD 0 ≤ i)
    (high : i < (coveredColumns l e).headD 0 + (coveredColumns l e).length) : Covers l e i := by
  have convex : Convex fun c => decide (l.edge c < e.stop) && decide (e.start < l.colEnd c) := by
    intro a b c ab bc ha hc
    simp only [Bool.and_eq_true, decide_eq_true_eq] at ha hc ⊢
    exact ⟨Nat.lt_of_le_of_lt (colEdge_mono bc) hc.1, Nat.lt_of_lt_of_le ha.2 (colEnd_mono ab)⟩
  obtain ⟨a, m, run⟩ := filter_range_convex convex 300
  have cols : coveredColumns l e = List.range' a m := run
  rw [cols] at low high
  have inside : i ∈ coveredColumns l e := by
    rw [cols, List.mem_range'_1]
    cases m with
    | zero => simp at high low
    | succ m =>
      have head : (List.range' a (m + 1)).headD 0 = a := rfl
      rw [head] at low high
      rw [List.length_range'] at high
      exact ⟨low, high⟩
  have both := (List.mem_filter.mp inside).2
  simpa [Covers] using both

/-! ## Fills and labels (R164, R165) -/

theorem putFill_at (l : Latch) (fills : List (Option Bool)) (e : Note) (small : c < 300) :
    (Covers l e c → (putFill l fills e).getD c none = some (hatchedKind e.kind)) ∧
    (¬ Covers l e c → (putFill l fills e).getD c none = fills.getD c none) := by
  have value : (putFill l fills e).getD c none =
      if l.edge c < e.stop ∧ e.start < l.colEnd c then some (hatchedKind e.kind) else fills.getD c none := by
    simp [putFill, small]
  rw [value]
  exact ⟨fun covers => if_pos covers, fun other => if_neg other⟩

/-- The column's place in the label of an entry, when the label is drawn. -/
def InLabel (l : Latch) (height : Nat) (e : Note) (c : Nat) : Prop :=
  let n := (coveredColumns l e).length
  let d := labelDigits e.value
  let first := (coveredColumns l e).headD 0 + (n - 6 * d) / 2
  (6 * d + 2 ≤ n ∧ 9 ≤ height) ∧ first ≤ c ∧ c < first + 6 * d

/-- What a label shows in column `c`: the digit, and the column of its glyph. -/
def labelAt (l : Latch) (e : Note) (c : Nat) : Nat × Nat :=
  let first := (coveredColumns l e).headD 0 + ((coveredColumns l e).length - 6 * labelDigits e.value) / 2
  (hexDigit e.value (labelDigits e.value) ((c - first) / 6), (c - first) % 6)

theorem putLabel_at (l : Latch) (height : Nat) (labels : List (Option (Nat × Nat))) (e : Note) (small : c < 300) :
    (InLabel l height e c → (putLabel l height labels e).getD c none = some (labelAt l e c)) ∧
    (¬ InLabel l height e c → (putLabel l height labels e).getD c none = labels.getD c none) := by
  unfold putLabel
  dsimp only
  refine ⟨fun ⟨drawn, inside⟩ => ?_, fun outside => ?_⟩
  · rw [if_pos drawn]
    simp only [List.getD_eq_getElem?_getD, List.getElem?_map, List.getElem?_range small, Option.map_some,
      Option.getD_some]
    exact if_pos inside
  · split
    · next drawn =>
      simp only [List.getD_eq_getElem?_getD, List.getElem?_map, List.getElem?_range small, Option.map_some,
        Option.getD_some]
      exact if_neg fun inside => outside ⟨drawn, inside⟩
    · rfl

/-- A label lies within the columns its entry covers. -/
theorem InLabel.covers {height : Nat} (h : InLabel l height e c) : Covers l e c := by
  obtain ⟨⟨long, _⟩, low, high⟩ := h
  exact coveredColumns_between (by omega) (by omega)

/-- Entries that do not cover a column leave its fill and its label. -/
theorem folds_uncovered {height : Nat} {post : List Note} (small : c < 300) (h : ∀ x ∈ post, ¬ Covers l x c)
    (fills : List (Option Bool)) (labels : List (Option (Nat × Nat))) :
    (post.foldl (putFill l) fills).getD c none = fills.getD c none ∧
    (post.foldl (putLabel l height) labels).getD c none = labels.getD c none := by
  induction post generalizing fills labels with
  | nil => exact ⟨rfl, rfl⟩
  | cons x xs ih =>
    have head := h x (List.mem_cons_self ..)
    obtain ⟨fill, label⟩ := ih (fun y hy => h y (List.mem_cons_of_mem _ hy)) (putFill l fills x)
      (putLabel l height labels x)
    exact ⟨fill.trans ((putFill_at l fills x small).2 head),
      label.trans ((putLabel_at l height labels x small).2 fun inside => head inside.covers)⟩

theorem getD_replicate_none {α : Type} (n c : Nat) : (List.replicate n (none : Option α)).getD c none = none := by
  rw [List.getD_eq_getElem?_getD, List.getElem?_replicate]
  split <;> rfl

theorem annotationRow_at {height : Nat} {sel : List Note} (small : c < 300) : (annotationRow l height sel)[c]? = some
    (match (sel.foldl (putFill l) (List.replicate 300 none)).getD c none with
    | some h => .bar h ((sel.foldl (putLabel l height) (List.replicate 300 none)).getD c none)
    | none => .none) := by
  simp only [annotationRow, List.getElem?_map, List.getElem?_range small, Option.map_some] <;> rfl

theorem annotationRow_uncovered {height : Nat} {sel : List Note} (small : c < 300) (h : ∀ x ∈ sel, ¬ Covers l x c) :
    (annotationRow l height sel)[c]? = some .none := by
  obtain ⟨fill, _⟩ := folds_uncovered (height := height) small h (List.replicate 300 none) (List.replicate 300 none)
  rw [annotationRow_at small, fill, getD_replicate_none]

/-- The last selected entry that covers a column fills it, with its label there. -/
theorem annotationRow_covered {height : Nat} {pre post : List Note} (small : c < 300) (covers : Covers l e c)
    (h : ∀ x ∈ post, ¬ Covers l x c) : ∃ label, (annotationRow l height (pre ++ e :: post))[c]? =
      some (.bar (hatchedKind e.kind) label) ∧ (InLabel l height e c → label = some (labelAt l e c)) ∧
      (pre = [] → ¬ InLabel l height e c → label = none) := by
  obtain ⟨fill, label⟩ := folds_uncovered (height := height) small h
    (putFill l (pre.foldl (putFill l) (List.replicate 300 none)) e)
    (putLabel l height (pre.foldl (putLabel l height) (List.replicate 300 none)) e)
  rw [(putFill_at l _ e small).1 covers] at fill
  refine ⟨_, ?_, fun inside => label.trans ((putLabel_at l height _ e small).1 inside), fun first outside =>
    label.trans (((putLabel_at l height _ e small).2 outside).trans ?_)⟩
  · rw [annotationRow_at small, List.foldl_append, List.foldl_cons, fill, List.foldl_append, List.foldl_cons]
  · subst first
    exact getD_replicate_none ..

end

/-! ## The new trace table (R156, R166) -/

section
variable {s : State} {l : Latch} {i : Nat} {row : Row}

theorem newTrace_row (h : s.render.latch.layout[i]? = some row) :
    (newTrace s)[i]? = some (rowCells s (allColumns s.render.latch s.render.reader) row) := by
  have inside : i < (s.render.latch.layout.map (rowCells s (allColumns s.render.latch s.render.reader))).length := by
    rw [List.length_map]
    exact (List.getElem?_eq_some_iff.mp h).1
  unfold newTrace
  dsimp only
  rw [List.getElem?_append_left inside, List.getElem?_map, h]
  rfl

theorem newTrace_below (h : s.render.latch.layout.length ≤ i) (small : i < 20) :
    (newTrace s)[i]? = some (List.replicate 300 .none) := by
  unfold newTrace
  dsimp only
  rw [List.getElem?_append_right (by rw [List.length_map]; exact h), List.getElem?_replicate, List.length_map,
    if_pos (by omega)]

theorem columns_eq (l : Latch) (recs : List TimedRec) (start c n : Nat) : l.columns recs start c n =
    (List.range n).map fun i => colData recs start l.stop (l.edge (c + i)) (l.colEnd (c + i)) := by
  induction n generalizing c with
  | zero => rfl
  | succ n ih =>
    rw [Latch.columns, ih, List.range_succ_eq_map, List.map_cons, List.map_map]
    refine congrArg (List.cons _) (List.map_congr_left fun i _ => ?_)
    show colData _ _ _ (l.edge (c + 1 + i)) (l.colEnd (c + 1 + i)) =
      colData _ _ _ (l.edge (c + (i + 1))) (l.colEnd (c + (i + 1)))
    rw [Nat.add_assoc, Nat.add_comm 1 i]

theorem channelRow_outside {k : Nat} (h : s.render.latch.seg = none) (kind : row.kind = .channel k) :
    rowCells s (allColumns s.render.latch s.render.reader) row = List.replicate 300 .outside := by
  unfold rowCells allColumns
  rw [kind, h]
  exact List.map_replicate

theorem channelRow_known {k n : Nat} (h : s.render.latch.seg = some n) (kind : row.kind = .channel k)
    (whole : s.render.reader.frozen = []) : rowCells s (allColumns s.render.latch s.render.reader) row =
      (List.range 300).map fun c => (colData s.render.reader.recs s.render.reader.frameStart s.render.latch.stop
        (s.render.latch.edge c) (s.render.latch.colEnd c)).cell k := by
  unfold rowCells allColumns
  rw [kind, h]
  show (s.render.reader.frozen ++ _).map _ = _
  rw [whole, List.nil_append, columns_eq, List.map_map]
  refine List.map_congr_left fun c _ => ?_
  show ColData.cell (colData _ _ _ (s.render.latch.edge (0 + c)) (s.render.latch.colEnd (0 + c))) k = _
  rw [Nat.zero_add]

theorem coveredColumns_eq (l : Latch) (e : Note) : coveredColumns l e = (List.range 300).filter fun x =>
    decide (colEdge l.t0 l.scale x < e.stop ∧ e.start < colEnd l.t0 l.scale x) := by
  simp only [coveredColumns, Bool.decide_and]
  rfl

theorem hatchedKind_eq (kind : Nat) : hatchedKind kind = decide (kind ∈ [1, 3, 4, 13]) := by
  simp only [hatchedKind, List.mem_cons, List.not_mem_nil, or_false, Bool.decide_or, Bool.or_assoc]

theorem selects_eq (l : Latch) : l.selects = fun e => decide (l.seg = some e.seg ∧ e.start < colEnd l.t0 l.scale 299 ∧
    colEdge l.t0 l.scale 0 < e.stop) := by
  funext e
  simp only [Latch.selects, Bool.decide_and, Bool.and_assoc]
  rfl

/-- The cells of an ANNOTATION row: in each column the last selected entry that covers it. -/
theorem annotationRow_cells {k : Nat} {sel : List Note} (hl : l = s.render.latch) (layout : l.layout[i]? = some row)
    (kind : row.kind = .annotation k) (walk : s.walkOf k = NoteWalk.head)
    (hsel : sel = (s.notesOf k).filter fun e => l.seg = some e.seg ∧ e.start < colEnd l.t0 l.scale 299 ∧
      colEdge l.t0 l.scale 0 < e.stop) : (newTrace s)[i]? = some (annotationRow l row.height sel) := by
  subst hl
  rw [newTrace_row layout, hsel, ← selects_eq, ← finishedWalk_selected walk]
  unfold rowCells
  rw [kind]

theorem annotationRow_length (height : Nat) (sel : List Note) : (annotationRow l height sel).length = 300 := by
  rw [annotationRow, List.length_map, List.length_range]

end

/-- Settles O55: CLASSIFY's end, the events that count, what CLASSIFY reads, the class of a column and the cells of a
row. -/
theorem rendererEvents : Obligations.RendererEvents := by
  unfold Obligations.RendererEvents
  refine ⟨fun s awake frame => ⟨fun reading => ?_, fun l drawn done hl hdrawn free rows few => ?_⟩,
    fun s u hu => completeFrame_cases hu,
    fun rising s awake showing busy below => ⟨fun r setup used edge => ?_, fun r setup other => ?_⟩,
    fun s awake showing untimed => ⟨fun below => ?_, fun reached => ⟨fun still => ?_, fun live => ?_⟩⟩,
    fun s awake showing busy => ⟨fun off => ?_, fun on still => ?_, fun g on waits => ?_⟩,
    fun r rs last stop t d a ht ha => read_cons ht ha, fun last stop d => rfl,
    fun recs full tail s l d hl hd => renderRecords_cases hl hd,
    fun recs start stop a b lo hi hlo hhi => ⟨colData_outside hlo hhi, ?_, ?_, fun inside lossless => ?_⟩,
    fun k edges st => ⟨rfl, rfl, rfl⟩,
    fun s l d i row hl hd => ⟨fun layout => ⟨fun kind => ?_, fun k kind seg => ?_, fun k n kind seg whole => ?_,
      fun k sel kind walk hsel => ?_⟩, fun below small => ?_⟩⟩
  · exact congrArg Host.Outcome.next ((if_pos awake).trans (congrArg (conclude s) (classifyEnd_early reading)))
  · subst hl
    have columns : ∀ cur, drawn cur = cursorColumns s.render.latch cur := by
      intro cur
      rw [hdrawn cur]
      cases cur with
      | none => rfl
      | some a =>
        simp only [cursorColumns, Bool.decide_and]
        rfl
    have row : ∀ t, handOffFrame (classifyCells s) = t → exec .classifyEnd s = .next (conclude s t) := fun t h =>
      congrArg Host.Outcome.next ((if_pos awake).trans
        (congrArg (conclude s) ((classifyEnd_done frame done).trans h)))
    rw [columns, columns]
    refine ⟨addBands s.render.dirty (classifiedBands s), _, addBands_pairwise _ _, fun b => mem_classified rows few,
      rfl,
      fun quiet => row _ ?_, fun dirty showing waits => row _ ?_,
      fun b rest r dirty showing bus setup untimed waiting changes shown => row _ ?_⟩
    all_goals rw [classifyCells_eq free]
    · exact handOffFrame_completes quiet
    · exact handOffFrame_waits dirty showing waits
    · exact handOffFrame_starts dirty showing bus setup untimed waiting changes shown
  · refine congrArg Host.Outcome.next ((if_pos ⟨awake, showing, (teEdge_iff setup).mpr ⟨used, edge⟩⟩).trans ?_)
    rw [teEvent_busy busy below]
  · refine congrArg Host.Outcome.next (if_neg fun ⟨_, _, edge⟩ => ?_)
    obtain ⟨used, polarity⟩ := (teEdge_iff setup).mp edge
    exact other.elim (absurd used) (absurd polarity)
  · exact congrArg Host.Outcome.next ((if_pos ⟨awake, showing, untimed⟩).trans
      (congrArg (conclude s) (countEvent_below below)))
  · exact congrArg Host.Outcome.next ((if_pos ⟨awake, showing, untimed⟩).trans
      (congrArg (conclude s) ((countEvent_reached reached).1 still)))
  · exact congrArg Host.Outcome.next ((if_pos ⟨awake, showing, untimed⟩).trans
      (congrArg (conclude s) ((countEvent_reached reached).2 live)))
  · exact congrArg Host.Outcome.next (if_neg fun ⟨_, _, on⟩ => by rw [off] at on; cases on)
  · exact congrArg Host.Outcome.next ((if_pos ⟨awake, showing, on⟩).trans
      (congrArg (conclude s) ((teMissing_busy busy).1 still)))
  · exact congrArg Host.Outcome.next ((if_pos ⟨awake, showing, on⟩).trans
      (congrArg (conclude s) ((teMissing_busy busy).2 g waits)))
  · exact fun pre mid post t1 t2 d1 d2 a1 v inside split before between early late =>
      colData_hit hlo hhi inside (spanScan_closed split before between early late)
  · exact fun pre post t1 d1 a1 inside split before after early =>
      colData_open hlo hhi inside (spanScan_open split before after) early
  · exact ⟨_, _, colData_known hlo hhi inside lossless,
      fun pre x post s0 split carries early later => spanScan_state lossless split carries early later,
      fun k => spanScan_edges lossless⟩
  · subst hl
    rw [newTrace_row layout, rowCells, kind]
  · subst hl
    rw [newTrace_row layout, channelRow_outside seg kind]
  · subst hl hd
    rw [newTrace_row layout, channelRow_known seg kind whole]
    rfl
  · refine ⟨annotationRow l row.height sel, annotationRow_cells hl layout kind walk hsel, annotationRow_length _ _,
      fun c small => ⟨fun none => annotationRow_uncovered small fun x hx => not_covers.mpr (none x hx),
        fun pre e post split early late after => ?_⟩⟩
    obtain ⟨label, cell, within, outside⟩ := annotationRow_covered (l := l) (height := row.height) (pre := pre) small
      ⟨early, late⟩ fun x hx => not_covers.mpr (after x hx)
    refine ⟨label, by rw [split, cell, hatchedKind_eq], fun cols n digits first hcols hn hdigits hfirst => ?_⟩
    rw [← coveredColumns_eq] at hcols
    subst hcols hn hdigits hfirst
    refine ⟨fun long high low near => within ⟨⟨long, high⟩, low, near⟩, fun hpre why => outside hpre ?_⟩
    rintro ⟨⟨long, high⟩, low, near⟩
    rcases why with short | flat | before | past
    · exact absurd long (Nat.not_le.mpr short)
    · exact absurd high (Nat.not_le.mpr flat)
    · exact absurd low (Nat.not_le.mpr before)
    · exact absurd near (Nat.not_lt.mpr past)
  · subst hl
    exact newTrace_below below small

end Sys2Proof.Machine
end

section
/-! PROOFS. What every command ends with: the writer's block, the reading positions of frame and measurement (O8). -/

namespace Sys2Proof.Machine

/-! ## A grant moves no more than the reading positions (R93, R94, R156) -/

/-- `t` reads the frame's and the measurement's records from elsewhere than `s`, and shows them the same. -/
def MovedReaders (s t : State) : Prop :=
  t.render = { s.render with reader := t.render.reader } ∧ t.render.reader.done = s.render.reader.done ∧
  t.render.reader.walks = s.render.reader.walks ∧
  t.meas = { s.meas with pos := t.meas.pos, place := t.meas.place, time := t.meas.time, cur := t.meas.cur,
                         acct := t.meas.acct, unknown := t.meas.unknown }

namespace MovedReaders

variable {s t u : State}

theorem of_eq (hr : t.render = s.render) (hm : t.meas = s.meas) : MovedReaders s t := by
  rw [MovedReaders, hr, hm]
  exact ⟨rfl, rfl, rfl, rfl⟩

theorem trans (h : MovedReaders s t) (h' : MovedReaders t u) : MovedReaders s u := by
  obtain ⟨render, done, walks, meas⟩ := h
  obtain ⟨render', done', walks', meas'⟩ := h'
  exact ⟨by rw [render', render], done'.trans done, walks'.trans walks, by rw [meas', meas]⟩

theorem ite {c : Prop} [Decidable c] (h : MovedReaders s t) (h' : MovedReaders s u) :
    MovedReaders s (if c then t else u) := by
  split
  · exact h
  · exact h'

theorem renderLocate (s : State) : MovedReaders s (renderLocate s) := by
  unfold Machine.renderLocate
  split
  · exact ⟨rfl, rfl, rfl, rfl⟩
  · exact .of_eq rfl rfl

theorem renderTrimmed (s : State) : MovedReaders s (renderTrimmed s) := by
  unfold Machine.renderTrimmed
  split
  · exact .of_eq rfl rfl
  · exact ⟨rfl, rfl, rfl, rfl⟩

theorem measureLocate (s : State) : MovedReaders s (measureLocate s) := by
  unfold Machine.measureLocate
  repeat' split
  all_goals exact ⟨rfl, rfl, rfl, rfl⟩

theorem measureTrimmed (s : State) : MovedReaders s (measureTrimmed s) := by
  unfold Machine.measureTrimmed
  dsimp only
  rcases Nat.lt_or_ge s.meas.acct (min (s.seg s.meas.seg).start s.meas.b) with more | past
  · rw [account_unknown (m := { s.meas with cur := none }) more rfl]
    exact ⟨rfl, rfl, rfl, rfl⟩
  · rw [account_past (m := { s.meas with cur := none }) past]
    exact ⟨rfl, rfl, rfl, rfl⟩

theorem locate (q : Requester) (s : State) : MovedReaders s (locate q s) := by
  cases q with
  | renderer => exact .renderLocate s
  | measure => exact .measureLocate s
  | _ => exact .of_eq rfl rfl

theorem answerTrimmed (q : Requester) (s : State) : MovedReaders s (answerTrimmed q s) := by
  cases q with
  | renderer => exact .renderTrimmed s
  | measure => exact .measureTrimmed s
  | _ => exact .of_eq rfl rfl

theorem grantRead (q : Requester) (s : State) : MovedReaders s (grantRead q s) := by
  unfold Machine.grantRead
  exact .ite ((locate q s).trans (trans (.of_eq rfl rfl) (answerTrimmed q _)))
    ((locate q s).trans (.of_eq rfl rfl))

theorem grant (q : Requester) (s : State) : MovedReaders s (grant q s) := by
  unfold Machine.grant
  split
  · exact .of_eq rfl rfl
  · exact .grantRead q s

theorem grantPoint (fuel : Nat) (s : State) : MovedReaders s (grantPoint fuel s) := by
  induction fuel generalizing s with
  | zero => exact .of_eq rfl rfl
  | succ fuel ih =>
    refine .ite (.of_eq rfl rfl) (.ite (.of_eq rfl rfl) (.ite (.of_eq rfl rfl) ?_))
    split
    · next q _ => exact (grant q s).trans (ih _)
    · exact .ite (.of_eq rfl rfl) (.of_eq rfl rfl)

theorem arbitrate (s : State) : MovedReaders s (arbitrate s) := by
  unfold Machine.arbitrate
  split
  · exact .grantPoint 8 s
  · exact .ite (.of_eq rfl rfl) (.of_eq rfl rfl)
  all_goals exact .of_eq rfl rfl

end MovedReaders

/-! ## A block taken or trimmed moves no more than its chain (R30, R69) -/

/-- `t` holds the segments of `s`, but for the chain, the trimmed count and the start tick of entry `n`. -/
def ChainMoved (n : Nat) (s t : State) : Prop :=
  (∀ m, m ≠ n → t.seg m = s.seg m) ∧
  t.seg n = { s.seg n with chain := (t.seg n).chain, trimmed := (t.seg n).trimmed, start := (t.seg n).start }

namespace ChainMoved

variable {s t u : State} {n : Nat}

theorem of_segs (h : t.store.segs = s.store.segs) : ChainMoved n s t := by
  have same : ∀ m, t.seg m = s.seg m := fun m => seg_congr h m
  exact ⟨fun m _ => same m, by rw [same]⟩

theorem trans (h : ChainMoved n s t) (h' : ChainMoved n t u) : ChainMoved n s u :=
  ⟨fun m other => (h'.1 m other).trans (h.1 m other), by rw [h'.2, h.2]⟩

/-- An entry replaced by one of the same segment. -/
theorem of_set {e : Segment} (h : t.store.segs = s.store.segs.set n e)
    (same : e = { s.seg n with chain := e.chain, trimmed := e.trimmed, start := e.start }) : ChainMoved n s t := by
  by_cases inside : n < s.store.segs.length
  · have own : t.seg n = e := by
      rw [State.seg, h]
      exact getD_set_self _ _ _ _ inside
    refine ⟨fun m other => ?_, by rw [own]; exact same⟩
    rw [State.seg, h]
    exact getD_set_ne _ _ _ other
  · exact of_segs (by rw [h, List.set_eq_of_length_le (Nat.not_lt.mp inside)])

theorem trimSegment (n : Nat) (s : State) : ChainMoved n s (trimSegment n s) := by
  unfold Machine.trimSegment
  dsimp only
  split
  · exact of_set rfl rfl
  · exact of_segs rfl

theorem takeBlock (n base : Nat) (s : State) : ChainMoved n s (takeBlock n base s).1 := by
  unfold Machine.takeBlock
  split
  · exact of_segs rfl
  · exact of_set rfl rfl

theorem requestBlock (n base : Nat) (s : State) : ChainMoved n s (requestBlock n base s).1 := by
  have tested : ∀ u : State, ChainMoved n u (storeLowTest u) := fun u => of_segs (by simp)
  unfold Machine.requestBlock
  dsimp only
  split
  · exact (trimSegment n s).trans ((takeBlock n base _).trans (tested _))
  · exact (takeBlock n base s).trans (tested _)

end ChainMoved

/-! ## The alerts a block request raises (R80) -/

theorem raised_others (q : PortState) (k : AlertKind) (arg : Nat) :
    (q.raised k arg).alerts.filter (fun a => a.kind ≠ k) = q.alerts.filter (fun a => a.kind ≠ k) := by
  unfold PortState.raised
  split
  · rfl
  · exact recordAlert_filter k arg q.alerts

theorem storeLowTest_others (s : State) (p : Port) :
    ((storeLowTest s).ports.port p).alerts.filter (fun a => a.kind ≠ .storeLow) =
      (s.ports.port p).alerts.filter (fun a => a.kind ≠ .storeLow) := by
  rw [storeLowTest_cases]
  split
  · cases p <;> exact raised_others _ .storeLow _
  · split <;> rfl

theorem requestBlock_others (n base : Nat) (s : State) (p : Port) :
    ((requestBlock n base s).1.ports.port p).alerts.filter (fun a => a.kind ≠ .storeLow) =
      (s.ports.port p).alerts.filter (fun a => a.kind ≠ .storeLow) := by
  unfold requestBlock
  dsimp only
  rw [storeLowTest_others]
  split <;> simp

/-! ## The writer served (R30) -/

section
variable {s r : State} {n : Nat} {given : Option Nat}

/-- The writer's block taken: its BASE in place 0. -/
def blockBegun (b : Nat) (w : Writer) (r : State) : State :=
  { r with
    writer := { w with block := b, written := 1, group := [.base w.lossOpen w.cur] }
    store := { r.store with
      blocks := r.store.blocks.set b { r.store.block b with used := 1 }
      mem := writeWord r.store.mem b 0 (Record.base w.lossOpen w.cur).word } }

/-- The state after the writer's request, by the answer. -/
def served (w : Writer) (r : State) : Option Nat → State
  | none => r
  | some b => blockBegun b w r

theorem served_leaves (w : Writer) (r : State) (given : Option Nat) : (served w r given).store.segs = r.store.segs ∧
    (served w r given).store.freeList = r.store.freeList ∧ (served w r given).store.armed = r.store.armed ∧
    (served w r given).ports = r.ports := by
  cases given <;> exact ⟨rfl, rfl, rfl, rfl⟩

theorem serveWriter_asks (seg : s.writer.seg = some n) (full : 16384 ≤ s.writer.written) (staged : s.comp.staging ≠ [])
    (request : requestBlock n s.writer.time s = (r, given)) : serveWriter s = served s.writer r given := by
  have more : ¬ (s.writer.written < Config.blockRecords ∨ s.comp.staging.length = 0) := by
    rintro (early | none)
    · exact absurd early (Nat.not_lt.mpr full)
    · exact staged (List.length_eq_zero_iff.mp none)
  have writer : r.writer = s.writer := by
    rw [show r = (requestBlock n s.writer.time s).1 by rw [request]]
    simp
  unfold serveWriter
  rw [seg]
  simp only [if_neg more, request, writer]
  cases given <;> rfl

/-- What the writer's service leaves in the alert sets. -/
theorem serveWriter_others (s : State) (p : Port) :
    ((serveWriter s).ports.port p).alerts.filter (fun a => a.kind ≠ .storeLow) =
      (s.ports.port p).alerts.filter (fun a => a.kind ≠ .storeLow) := by
  unfold serveWriter
  split
  · rfl
  · next n seg =>
    split
    · rfl
    · dsimp only
      split <;> exact requestBlock_others n s.writer.time s p

end

/-! ## The end of a command -/

/-- A command's end before the measurement's: the writer served, the controller's progress, its grants. -/
def concluding (s : State) : State :=
  if s.power.pll = .locked then arbitrate (progress (serveWriter s)) else progress (serveWriter s)

/-- Past the writer's service only reading positions move. -/
theorem concluding_served (s : State) : (concluding s).fe = (serveWriter s).fe ∧
    (concluding s).comp = (serveWriter s).comp ∧ (concluding s).tap = (serveWriter s).tap ∧
    (concluding s).writer = (serveWriter s).writer ∧ (concluding s).seq = (serveWriter s).seq ∧
    (concluding s).store = (serveWriter s).store ∧ (concluding s).slots = (serveWriter s).slots ∧
    (concluding s).notes = (serveWriter s).notes ∧ (concluding s).panel = (serveWriter s).panel ∧
    (concluding s).ports = (serveWriter s).ports ∧ (concluding s).power = (serveWriter s).power ∧
    (concluding s).pending = (serveWriter s).pending := by
  unfold concluding
  split <;> simp

theorem MovedReaders.concluding (s : State) : MovedReaders s (concluding s) := by
  have served : MovedReaders s (progress (serveWriter s)) := .of_eq (by simp) (by simp)
  exact .ite (served.trans (.arbitrate _)) served

/-- Settles O8: outside ENTRY only the writer's service changes the store, and only grants move reading positions. -/
theorem concludeFrame : Obligations.ConcludeFrame := by
  intro before s t awake calm ht
  rw [conclude_quiet awake calm] at ht
  change t = finishMeasure (concluding s) at ht
  obtain ⟨fe, comp, tap, writer, seq, store, slots, notes, panel, ports, power, pending⟩ := concluding_served s
  obtain ⟨render, done, walks, meas⟩ := MovedReaders.concluding s
  refine ⟨concluding s, fun busy none => ht.trans (finishMeasure_done busy none),
    fun more => ht.trans (finishMeasure_idle more), ?_, ?_, ⟨render, done, walks⟩, meas, ?_, fun idle => ?_,
    fun n r given seg full staged request => ?_⟩
  · rw [fe, comp, tap, seq, slots, notes, panel, power, pending]
    simp
  · rw [ports]
    have con := serveWriter_others s .console
    have teth := serveWriter_others s .tether
    simp only [Ports.port] at con teth
    refine ⟨?_, ?_, ?_, ?_, ?_, ?_, ?_, ?_, ?_, ?_, ?_, ?_, ?_, ?_, ?_, con, teth⟩
    all_goals simp
  · rw [store]
    simp
  · rw [store, writer, ports, serveWriter_idle idle]
    exact ⟨rfl, rfl, rfl⟩
  · have asks := serveWriter_asks seg full staged request
    have asked : r = (requestBlock n s.writer.time s).1 := by rw [request]
    have mem : r.store.mem = s.store.mem := by
      rw [asked]
      simp
    have moved : ChainMoved n s r := asked ▸ .requestBlock n s.writer.time s
    obtain ⟨segsR, freeList, armed, portsR⟩ := served_leaves s.writer r given
    have segs : (concluding s).store.segs = r.store.segs := by rw [store, asks, segsR]
    have own := moved.trans (.of_segs segs)
    refine ⟨own.1, own.2, segs, by rw [store, asks, freeList], by rw [store, asks, armed], by rw [ports, asks, portsR],
      fun none => ?_, fun b hb => ?_⟩
    · subst none
      rw [store, writer, asks]
      refine ⟨rfl, mem, ?_⟩
      show r.writer = s.writer
      rw [asked]
      simp only [requestBlock_frame]
    · subst hb
      rw [store, writer, asks]
      refine ⟨fun a outside => ?_, fun ok => ?_, rfl, rfl⟩
      · show Memory.read (writeWord r.store.mem b 0 _) a = _
        rw [mem]
        exact Memory.read_writeWord_outside (by omega)
      · show readWord (writeWord r.store.mem b 0 _) b 0 = _
        rw [mem, readWord_writeWord ok (by omega) (by omega), if_pos ⟨rfl, rfl⟩]

end Sys2Proof.Machine
end
